-- ==== Sys2Proof/Word.lean ====
section
/-! DEFINITION. The word types of M4VD: the byte of the bitstream window and the sample of a frame
store (both `u8`, spec/00_scope.md R11, R12), and a motion vector. Everything that computes stands in
`Decode.lean` and in `Machine/`. -/

namespace Sys2Proof

/-- A byte of the bitstream window, or a `u8` sample of a plane (R12: "All samples are `u8`"). -/
abbrev Byte := BitVec 8

/-- A motion vector `(x, y)` in the unit of the VOL (R28). Its components are integers: R10 and
decision D50 evaluate every expression in unbounded integers. -/
structure MV where
  x : Int
  y : Int
  deriving DecidableEq, Repr

/-- The zero vector. -/
def MV.zero : MV := ⟨0, 0⟩

end Sys2Proof
end

