-- ==== Sys2Proof/Config.lean ====
section
/-! DEFINITION. What the spec leaves to the implementation (spec/00_scope.md R9,
spec/93_implementation_defined.md section 2) and the free values, which nothing in Lean can evaluate. -/

namespace Sys2Proof

/-- How `mpeg_intra` shifts a negative product: the two values of `MPEG_INTRA_SHIFT_MODE` (R244). -/
inductive ShiftMode where
  | floor
  | towardZero
  deriving DecidableEq, Repr

/-- The OPEN parameters of the block (R9). They are chosen when an instance is made and no
instruction writes them, so the state carries them as data and a statement about every state is a
statement about every choice (log entry 1). -/
structure Params where
  /-- `REORDER_DEPTH`, R390 -/
  reorderDepth : Nat
  /-- `H263_SATURATE`, R243 -/
  h263Saturate : Bool
  /-- `MPEG_INTRA_SHIFT_MODE`, R244 -/
  mpegIntraShift : ShiftMode
  deriving DecidableEq, Repr

/-- Free value: what a sample of a frame store reads as at a linear offset that nothing has written
since the store was made (R39, R502: "must be treated by a model as holding any value"). Log entry 2. -/
opaque Config.unwrittenSample : Nat → Byte

/-- Free value: the quotient of a number by zero. The spec divides only by `VOP.trd > 0`, by DC
scalers and by quantizers of at least 1 (R468); an internal operation given alone, in a state where
the divisor is 0, goes on with this value. Log entry 3. -/
opaque Config.quotientByZero : Int → Int

end Sys2Proof
end

