-- ==== Sys2Proof/Syntax.lean ====
section
/-! DEFINITION. The instruction set of M4VD: the operand records that cross the boundary of the block
and `Instr`, one constructor per row of spec/opcode_table.json (spec/00_scope.md R2: the codewords and
fields of the bitstream, then the host commands and internal operations, which have no bits). -/

namespace Sys2Proof

/-- Coding type of a VOP, `VOP.picture_type`: 0 = I, 1 = P, 2 = B, 3 = S (R23). -/
inductive PictureType where
  | i
  | p
  | b
  | s
  deriving DecidableEq, Repr

/-- Macroblock modes with the numbers of R28: 0 Inter, 1 InterQ, 2 Inter4V, 3 Intra, 4 IntraQ,
5 NotCoded ("6 and 7 are never written"). -/
inductive MbMode where
  | inter
  | interQ
  | inter4V
  | intra
  | intraQ
  | notCoded
  deriving DecidableEq, Repr

/-- Prediction type of a B-VOP macroblock, `MB.btype` (R181). -/
inductive BType where
  | direct
  | interpolate
  | backward
  | forward
  | directNoneMv
  deriving DecidableEq, Repr

/-- Direction of intra prediction, the document's `PredictorDirection` (R285). -/
inductive Direction where
  | vertical
  | horizontal
  deriving DecidableEq, Repr

/-- The three frame stores (R32). That `MC_LUMA`, `MC_CHROMA` and `COPY_MB` given alone may name `CUR`, and `PUSH` a reference
store, is the model's choice (log entry 37). -/
inductive StoreSel where
  | cur
  | refNew
  | refOld
  deriving DecidableEq, Repr

/-- The two chroma planes (R12). -/
inductive ChromaSel where
  | u
  | v
  deriving DecidableEq, Repr

/-- `VOL.quant_type`: 0 = H.263, 1 = MPEG (R21). -/
inductive QuantType where
  | h263
  | mpeg
  deriving DecidableEq, Repr

/-- `VOL.sprite_enable`: 0 = none, 1 = static, 2 = GMC, 3 = reserved (R21, R122). -/
inductive SpriteEnable where
  | none
  | static
  | gmc
  | reserved
  deriving DecidableEq, Repr

/-- A time base, a rational number carried into the output frame and read by no rule (R23, R432). -/
structure TimeBase where
  num : Int
  den : Int
  deriving DecidableEq, Repr

/-- The host's parse of a VOL header, the operand of `LOAD_VOL` (R424): the fields of the `VOL` group
(R21), the size where the VOL carries one, and the custom matrices, in raster order, where it carries
them (R246). -/
structure VolHeader where
  timeIncRes : Nat
  quantType : QuantType
  interlaced : Bool
  quarterpel : Bool
  spriteEnable : SpriteEnable
  warpPoints : Nat
  warpAccuracy : Nat
  resyncMarkerDisable : Bool
  dataPartitioned : Bool
  shape : Nat
  notEightBit : Bool
  size : Option (Nat × Nat)
  intraMatrix : Option (Vector Nat 64)
  interMatrix : Option (Vector Nat 64)
  deriving DecidableEq, Repr

/-- The `VOP` register group (R23), and so also the host's parse of a VOP header, which `LOAD_VOP`
writes whole (R425). -/
structure VopHeader where
  pictureType : PictureType
  vopCoded : Bool
  quant : Nat
  roundingType : Bool
  fcodeFwd : Nat
  fcodeBwd : Nat
  intraDcVlcThr : Nat
  isSprite : Bool
  trb : Int
  trd : Int
  poc : Int
  pts : Int
  duration : Int
  timeBase : TimeBase
  isKeyframe : Bool
  mbStart : Nat
  deriving DecidableEq, Repr

/-- `CodecParameters`, the operand of `OPEN` (R432). `extraVol` is the host's parse of the VOL that
`extra_data` holds: `none` where that parse fails. It is looked at only where `extraData` holds a VOL
start code (R422). -/
structure CodecParameters where
  codecId : Nat
  extraData : List Byte
  width : Nat
  height : Nat
  pixelFormat : Nat
  frameRate : TimeBase
  sar : TimeBase
  extraVol : Option VolHeader
  deriving DecidableEq, Repr

/-- `Packet`, the operand of `SEND_PACKET` (R432). -/
structure Packet where
  data : List Byte
  pts : Int
  dts : Int
  duration : Int
  timeBase : TimeBase
  isKeyframe : Bool
  deriving DecidableEq, Repr

/-- The host's parse of one VOP header (R425): the fields it found and, where the header holds a
sprite trajectory, the bit position at which the host gives `SET_BP` and `SPRITE_TRAJECTORY` (R361). -/
structure VopParse where
  header : VopHeader
  trajectory : Option Nat
  deriving DecidableEq, Repr

/-- What the host's header parser makes of one packet (R426): its parse of the first VOL, and its
parse of the VOP header at each VOP start code, in increasing offset. `none`, or an entry that is
missing, is a parse that failed. The parser is the host's (R6), so its results are operands. -/
structure HeaderParse where
  vol : Option VolHeader
  vops : List (Option VopParse)
  deriving DecidableEq, Repr

/-- The tables and formats an instruction of the bitstream can be read with (R102). The selector is
state, never the bits themselves; `mvd` carries the f_code in force. -/
inductive Table where
  | mcbpcI
  | mcbpcP
  | cbpy
  | mvd (fCode : Nat)
  | dcszL
  | dcszC
  | acIntra
  | acInter
  | modb
  | bmbtype
  | dbquant
  | notCoded
  | acPred
  | mcsel
  | dquant
  | cbpb
  | traj
  | sc
  | resync
  deriving DecidableEq, Repr

/-- The instructions of M4VD, one constructor per row of spec/opcode_table.json, in its order but
for the 204 rows of the AC event tables, which stand last. The operands of a bitstream instruction are
the bits that follow its fixed head (R100): `s` a sign bit, `v` a value field, `m` a marker bit, `res`
the residual of a motion-vector delta under f_code `f`, `inner` the number of the table row that stands
inside an escape. A row of an AC event table has no operand here: its meaning reads the sign bit from
the window, which is what R212 writes, `(l, r, v) <- sym; s <- ReadBits(1)` (log entry 5). The operands of a command or of an
internal operation are those of its rule. -/
inductive Instr where
  /-- `MCBPC_I 3,0`, VLC: `1`, R160 -/
  | mcbpcI_3_0
  /-- `MCBPC_I 3,1`, VLC: `001`, R160 -/
  | mcbpcI_3_1
  /-- `MCBPC_I 3,2`, VLC: `010`, R160 -/
  | mcbpcI_3_2
  /-- `MCBPC_I 3,3`, VLC: `011`, R160 -/
  | mcbpcI_3_3
  /-- `MCBPC_I 4,0`, VLC: `0001`, R160 -/
  | mcbpcI_4_0
  /-- `MCBPC_I 4,1`, VLC: `000001`, R160 -/
  | mcbpcI_4_1
  /-- `MCBPC_I 4,2`, VLC: `000010`, R160 -/
  | mcbpcI_4_2
  /-- `MCBPC_I 4,3`, VLC: `000011`, R160 -/
  | mcbpcI_4_3
  /-- `MCBPC_I.STUFF`, VLC: `000000001`, R160 -/
  | mcbpcI_stuff
  /-- `MCBPC_P 0,0`, VLC: `1`, R161 -/
  | mcbpcP_0_0
  /-- `MCBPC_P 0,1`, VLC: `0011`, R161 -/
  | mcbpcP_0_1
  /-- `MCBPC_P 0,2`, VLC: `0010`, R161 -/
  | mcbpcP_0_2
  /-- `MCBPC_P 0,3`, VLC: `000101`, R161 -/
  | mcbpcP_0_3
  /-- `MCBPC_P 1,0`, VLC: `011`, R161 -/
  | mcbpcP_1_0
  /-- `MCBPC_P 1,1`, VLC: `0000111`, R161 -/
  | mcbpcP_1_1
  /-- `MCBPC_P 1,2`, VLC: `0000110`, R161 -/
  | mcbpcP_1_2
  /-- `MCBPC_P 1,3`, VLC: `000000101`, R161 -/
  | mcbpcP_1_3
  /-- `MCBPC_P 2,0`, VLC: `010`, R161 -/
  | mcbpcP_2_0
  /-- `MCBPC_P 2,1`, VLC: `0000101`, R161 -/
  | mcbpcP_2_1
  /-- `MCBPC_P 2,2`, VLC: `0000100`, R161 -/
  | mcbpcP_2_2
  /-- `MCBPC_P 2,3`, VLC: `00000101`, R161 -/
  | mcbpcP_2_3
  /-- `MCBPC_P 3,0`, VLC: `00011`, R161 -/
  | mcbpcP_3_0
  /-- `MCBPC_P 3,1`, VLC: `00000100`, R161 -/
  | mcbpcP_3_1
  /-- `MCBPC_P 3,2`, VLC: `00000011`, R161 -/
  | mcbpcP_3_2
  /-- `MCBPC_P 3,3`, VLC: `0000011`, R161 -/
  | mcbpcP_3_3
  /-- `MCBPC_P 4,0`, VLC: `000100`, R161 -/
  | mcbpcP_4_0
  /-- `MCBPC_P 4,1`, VLC: `000000100`, R161 -/
  | mcbpcP_4_1
  /-- `MCBPC_P 4,2`, VLC: `000000011`, R161 -/
  | mcbpcP_4_2
  /-- `MCBPC_P 4,3`, VLC: `000000010`, R161 -/
  | mcbpcP_4_3
  /-- `MCBPC_P.STUFF`, VLC: `000000001`, R161 -/
  | mcbpcP_stuff
  /-- `CBPY 0`, VLC: `0011`, R162 -/
  | cbpy_0
  /-- `CBPY 1`, VLC: `00101`, R162 -/
  | cbpy_1
  /-- `CBPY 2`, VLC: `00100`, R162 -/
  | cbpy_2
  /-- `CBPY 3`, VLC: `1001`, R162 -/
  | cbpy_3
  /-- `CBPY 4`, VLC: `00011`, R162 -/
  | cbpy_4
  /-- `CBPY 5`, VLC: `0111`, R162 -/
  | cbpy_5
  /-- `CBPY 6`, VLC: `000010`, R162 -/
  | cbpy_6
  /-- `CBPY 7`, VLC: `1011`, R162 -/
  | cbpy_7
  /-- `CBPY 8`, VLC: `00010`, R162 -/
  | cbpy_8
  /-- `CBPY 9`, VLC: `000011`, R162 -/
  | cbpy_9
  /-- `CBPY 10`, VLC: `0101`, R162 -/
  | cbpy_10
  /-- `CBPY 11`, VLC: `1010`, R162 -/
  | cbpy_11
  /-- `CBPY 12`, VLC: `0100`, R162 -/
  | cbpy_12
  /-- `CBPY 13`, VLC: `1000`, R162 -/
  | cbpy_13
  /-- `CBPY 14`, VLC: `0110`, R162 -/
  | cbpy_14
  /-- `CBPY 15`, VLC: `11`, R162 -/
  | cbpy_15
  /-- `MVD mag=0`, MVD: `1`, R174 -/
  | mvd_0
  /-- `MVD mag=1`, MVD: `01s`, R174 -/
  | mvd_1 (f : Nat) (s : Bool) (res : Nat)
  /-- `MVD mag=2`, MVD: `001s`, R174 -/
  | mvd_2 (f : Nat) (s : Bool) (res : Nat)
  /-- `MVD mag=3`, MVD: `0001s`, R174 -/
  | mvd_3 (f : Nat) (s : Bool) (res : Nat)
  /-- `MVD mag=4`, MVD: `000011s`, R174 -/
  | mvd_4 (f : Nat) (s : Bool) (res : Nat)
  /-- `MVD mag=5`, MVD: `0000101s`, R174 -/
  | mvd_5 (f : Nat) (s : Bool) (res : Nat)
  /-- `MVD mag=6`, MVD: `0000100s`, R174 -/
  | mvd_6 (f : Nat) (s : Bool) (res : Nat)
  /-- `MVD mag=7`, MVD: `0000011s`, R174 -/
  | mvd_7 (f : Nat) (s : Bool) (res : Nat)
  /-- `MVD mag=8`, MVD: `000001011s`, R174 -/
  | mvd_8 (f : Nat) (s : Bool) (res : Nat)
  /-- `MVD mag=9`, MVD: `000001010s`, R174 -/
  | mvd_9 (f : Nat) (s : Bool) (res : Nat)
  /-- `MVD mag=10`, MVD: `000001001s`, R174 -/
  | mvd_10 (f : Nat) (s : Bool) (res : Nat)
  /-- `MVD mag=11`, MVD: `0000010001s`, R174 -/
  | mvd_11 (f : Nat) (s : Bool) (res : Nat)
  /-- `MVD mag=12`, MVD: `0000010000s`, R174 -/
  | mvd_12 (f : Nat) (s : Bool) (res : Nat)
  /-- `MVD mag=13`, MVD: `0000001111s`, R174 -/
  | mvd_13 (f : Nat) (s : Bool) (res : Nat)
  /-- `MVD mag=14`, MVD: `0000001110s`, R174 -/
  | mvd_14 (f : Nat) (s : Bool) (res : Nat)
  /-- `MVD mag=15`, MVD: `0000001101s`, R174 -/
  | mvd_15 (f : Nat) (s : Bool) (res : Nat)
  /-- `MVD mag=16`, MVD: `0000001100s`, R174 -/
  | mvd_16 (f : Nat) (s : Bool) (res : Nat)
  /-- `MVD mag=17`, MVD: `0000001011s`, R174 -/
  | mvd_17 (f : Nat) (s : Bool) (res : Nat)
  /-- `MVD mag=18`, MVD: `0000001010s`, R174 -/
  | mvd_18 (f : Nat) (s : Bool) (res : Nat)
  /-- `MVD mag=19`, MVD: `0000001001s`, R174 -/
  | mvd_19 (f : Nat) (s : Bool) (res : Nat)
  /-- `MVD mag=20`, MVD: `0000001000s`, R174 -/
  | mvd_20 (f : Nat) (s : Bool) (res : Nat)
  /-- `MVD mag=21`, MVD: `0000000111s`, R174 -/
  | mvd_21 (f : Nat) (s : Bool) (res : Nat)
  /-- `MVD mag=22`, MVD: `0000000110s`, R174 -/
  | mvd_22 (f : Nat) (s : Bool) (res : Nat)
  /-- `MVD mag=23`, MVD: `0000000101s`, R174 -/
  | mvd_23 (f : Nat) (s : Bool) (res : Nat)
  /-- `MVD mag=24`, MVD: `0000000100s`, R174 -/
  | mvd_24 (f : Nat) (s : Bool) (res : Nat)
  /-- `MVD mag=25`, MVD: `00000000111s`, R174 -/
  | mvd_25 (f : Nat) (s : Bool) (res : Nat)
  /-- `MVD mag=26`, MVD: `00000000110s`, R174 -/
  | mvd_26 (f : Nat) (s : Bool) (res : Nat)
  /-- `MVD mag=27`, MVD: `00000000101s`, R174 -/
  | mvd_27 (f : Nat) (s : Bool) (res : Nat)
  /-- `MVD mag=28`, MVD: `00000000100s`, R174 -/
  | mvd_28 (f : Nat) (s : Bool) (res : Nat)
  /-- `MVD mag=29`, MVD: `00000000011s`, R174 -/
  | mvd_29 (f : Nat) (s : Bool) (res : Nat)
  /-- `MVD mag=30`, MVD: `00000000010s`, R174 -/
  | mvd_30 (f : Nat) (s : Bool) (res : Nat)
  /-- `MVD mag=31`, MVD: `000000000011s`, R174 -/
  | mvd_31 (f : Nat) (s : Bool) (res : Nat)
  /-- `MVD mag=32`, MVD: `000000000010s`, R174 -/
  | mvd_32 (f : Nat) (s : Bool) (res : Nat)
  /-- `DCSZ_L 0`, DC: `011`, R200 -/
  | dcszL_0
  /-- `DCSZ_L 1`, DC: `11v`, R200 -/
  | dcszL_1 (v : BitVec 1)
  /-- `DCSZ_L 2`, DC: `10vv`, R200 -/
  | dcszL_2 (v : BitVec 2)
  /-- `DCSZ_L 3`, DC: `010vvv`, R200 -/
  | dcszL_3 (v : BitVec 3)
  /-- `DCSZ_L 4`, DC: `001vvvv`, R200 -/
  | dcszL_4 (v : BitVec 4)
  /-- `DCSZ_L 5`, DC: `0001vvvvv`, R200 -/
  | dcszL_5 (v : BitVec 5)
  /-- `DCSZ_L 6`, DC: `00001vvvvvv`, R200 -/
  | dcszL_6 (v : BitVec 6)
  /-- `DCSZ_L 7`, DC: `000001vvvvvvv`, R200 -/
  | dcszL_7 (v : BitVec 7)
  /-- `DCSZ_L 8`, DC: `0000001vvvvvvvv`, R200 -/
  | dcszL_8 (v : BitVec 8)
  /-- `DCSZ_L 9`, DC: `00000001vvvvvvvvvm`, R200 -/
  | dcszL_9 (v : BitVec 9) (m : Bool)
  /-- `DCSZ_L 10`, DC: `000000001vvvvvvvvvvm`, R200 -/
  | dcszL_10 (v : BitVec 10) (m : Bool)
  /-- `DCSZ_L 11`, DC: `0000000001vvvvvvvvvvvm`, R200 -/
  | dcszL_11 (v : BitVec 11) (m : Bool)
  /-- `DCSZ_L 12`, DC: `00000000001vvvvvvvvvvvvm`, R200 -/
  | dcszL_12 (v : BitVec 12) (m : Bool)
  /-- `DCSZ_C 0`, DC: `11`, R201 -/
  | dcszC_0
  /-- `DCSZ_C 1`, DC: `10v`, R201 -/
  | dcszC_1 (v : BitVec 1)
  /-- `DCSZ_C 2`, DC: `01vv`, R201 -/
  | dcszC_2 (v : BitVec 2)
  /-- `DCSZ_C 3`, DC: `001vvv`, R201 -/
  | dcszC_3 (v : BitVec 3)
  /-- `DCSZ_C 4`, DC: `0001vvvv`, R201 -/
  | dcszC_4 (v : BitVec 4)
  /-- `DCSZ_C 5`, DC: `00001vvvvv`, R201 -/
  | dcszC_5 (v : BitVec 5)
  /-- `DCSZ_C 6`, DC: `000001vvvvvv`, R201 -/
  | dcszC_6 (v : BitVec 6)
  /-- `DCSZ_C 7`, DC: `0000001vvvvvvv`, R201 -/
  | dcszC_7 (v : BitVec 7)
  /-- `DCSZ_C 8`, DC: `00000001vvvvvvvv`, R201 -/
  | dcszC_8 (v : BitVec 8)
  /-- `DCSZ_C 9`, DC: `000000001vvvvvvvvvm`, R201 -/
  | dcszC_9 (v : BitVec 9) (m : Bool)
  /-- `DCSZ_C 10`, DC: `0000000001vvvvvvvvvvm`, R201 -/
  | dcszC_10 (v : BitVec 10) (m : Bool)
  /-- `DCSZ_C 11`, DC: `00000000001vvvvvvvvvvvm`, R201 -/
  | dcszC_11 (v : BitVec 11) (m : Bool)
  /-- `DCSZ_C 12`, DC: `000000000001vvvvvvvvvvvvm`, R201 -/
  | dcszC_12 (v : BitVec 12) (m : Bool)
  /-- `DCVAL`, DC: `no bits of its own`, R202 -/
  | dcval (size : Fin 13) (v : Nat)
  /-- `AC_INTRA.ESC1`, ESC1: `00000110E`, R213 -/
  | acIntra_esc1 (inner : Fin 102) (s : Bool)
  /-- `AC_INTRA.ESC2`, ESC2: `000001110E`, R214 -/
  | acIntra_esc2 (inner : Fin 102) (s : Bool)
  /-- `AC_INTRA.ESC3`, ESC3: `000001111lrrrrrrmvvvvvvvvvvvvm`, R217 -/
  | acIntra_esc3 (last : Bool) (run : BitVec 6) (m1 : Bool) (level : BitVec 12) (m2 : Bool)
  /-- `AC_INTER.ESC1`, ESC1: `00000110E`, R213 -/
  | acInter_esc1 (inner : Fin 102) (s : Bool)
  /-- `AC_INTER.ESC2`, ESC2: `000001110E`, R214 -/
  | acInter_esc2 (inner : Fin 102) (s : Bool)
  /-- `AC_INTER.ESC3`, ESC3: `000001111lrrrrrrmvvvvvvvvvvvvm`, R217 -/
  | acInter_esc3 (last : Bool) (run : BitVec 6) (m1 : Bool) (level : BitVec 12) (m2 : Bool)
  /-- `MODB 1`, VLC: `1`, R180 -/
  | modb_1
  /-- `MODB 01`, VLC: `01`, R180 -/
  | modb_01
  /-- `MODB 00`, VLC: `00`, R180 -/
  | modb_00
  /-- `BMBTYPE Direct`, VLC: `1`, R181 -/
  | bmbtype_direct
  /-- `BMBTYPE Interpolate`, VLC: `01`, R181 -/
  | bmbtype_interpolate
  /-- `BMBTYPE Backward`, VLC: `001`, R181 -/
  | bmbtype_backward
  /-- `BMBTYPE Forward`, VLC: `0001`, R181 -/
  | bmbtype_forward
  /-- `DBQUANT 0`, VLC: `0`, R183 -/
  | dbquant_0
  /-- `DBQUANT -2`, VLC: `10`, R183 -/
  | dbquant_minus2
  /-- `DBQUANT +2`, VLC: `11`, R183 -/
  | dbquant_plus2
  /-- `NOT_CODED`, FLC: `b`, R170 -/
  | notCoded (b : Bool)
  /-- `AC_PRED`, FLC: `b`, R171 -/
  | acPred (b : Bool)
  /-- `MCSEL`, FLC: `b`, R173 -/
  | mcsel (b : Bool)
  /-- `DQUANT 00`, FLC: `00`, R172 -/
  | dquant_00
  /-- `DQUANT 01`, FLC: `01`, R172 -/
  | dquant_01
  /-- `DQUANT 10`, FLC: `10`, R172 -/
  | dquant_10
  /-- `DQUANT 11`, FLC: `11`, R172 -/
  | dquant_11
  /-- `CBPB`, FLC: `abcdef`, R182 -/
  | cbpb (v : BitVec 6)
  /-- `TRAJ len=0`, TRAJ: `1`, R360 -/
  | traj_0
  /-- `TRAJ len=1`, TRAJ: `01v`, R360 -/
  | traj_1 (v : BitVec 1)
  /-- `TRAJ len=2`, TRAJ: `001vv`, R360 -/
  | traj_2 (v : BitVec 2)
  /-- `TRAJ len=3`, TRAJ: `0001vvv`, R360 -/
  | traj_3 (v : BitVec 3)
  /-- `TRAJ len=4`, TRAJ: `00001vvvv`, R360 -/
  | traj_4 (v : BitVec 4)
  /-- `TRAJ len=5`, TRAJ: `000001vvvvv`, R360 -/
  | traj_5 (v : BitVec 5)
  /-- `TRAJ len=6`, TRAJ: `0000001vvvvvv`, R360 -/
  | traj_6 (v : BitVec 6)
  /-- `TRAJ len=7`, TRAJ: `00000001vvvvvvv`, R360 -/
  | traj_7 (v : BitVec 7)
  /-- `TRAJ len=8`, TRAJ: `000000001vvvvvvvv`, R360 -/
  | traj_8 (v : BitVec 8)
  /-- `TRAJ len=9`, TRAJ: `0000000001vvvvvvvvv`, R360 -/
  | traj_9 (v : BitVec 9)
  /-- `TRAJ len=10`, TRAJ: `00000000001vvvvvvvvvv`, R360 -/
  | traj_10 (v : BitVec 10)
  /-- `TRAJ len=11`, TRAJ: `000000000001vvvvvvvvvvv`, R360 -/
  | traj_11 (v : BitVec 11)
  /-- `TRAJ len=12`, TRAJ: `0000000000001vvvvvvvvvvvv`, R360 -/
  | traj_12 (v : BitVec 12)
  /-- `SC`, SC: `000000000000000000000001cccccccc`, R114 -/
  | sc (code : Byte)
  /-- `RESYNC`, RESYNC: `0`, R146 -/
  | resync (k : Fin 8) (f : Fin 8)
  /-- `READ_BITS`, CMD: `host command or internal operation`, R140 -/
  | readBits (n : Fin 33)
  /-- `PEEK_BITS`, CMD: `host command or internal operation`, R141 -/
  | peekBits (n : Fin 33)
  /-- `SKIP_BITS`, CMD: `host command or internal operation`, R142 -/
  | skipBits (n : Fin 33)
  /-- `BYTE_ALIGNED`, CMD: `host command or internal operation`, R143 -/
  | byteAligned
  /-- `FIND_START_CODE`, CMD: `host command or internal operation`, R144 -/
  | findStartCode (data : List Byte) (code : Byte)
  /-- `FIND_START_CODE_RANGE`, CMD: `host command or internal operation`, R145 -/
  | findStartCodeRange (data : List Byte) (lo : Byte) (hi : Byte)
  /-- `RESYNC_DETECT`, CMD: `host command or internal operation`, R146 -/
  | resyncDetect (p : Nat) (f : Fin 8)
  /-- `DEQUANT`, CMD: `host command or internal operation`, R240 -/
  | dequant (intra : Bool)
  /-- `MISMATCH`, CMD: `host command or internal operation`, R247 -/
  | mismatch
  /-- `IDCT`, CMD: `host command or internal operation`, R260 -/
  | idct
  /-- `DC_PREDICT`, CMD: `host command or internal operation`, R285 -/
  | dcPredict (b : Fin 6)
  /-- `DC_RECON`, CMD: `host command or internal operation`, R286 -/
  | dcRecon (b : Fin 6) (diff : Int) (pr : Int)
  /-- `AC_PREDICT`, CMD: `host command or internal operation`, R287 -/
  | acPredict (b : Fin 6)
  /-- `PC_UPDATE`, CMD: `host command or internal operation`, R288 -/
  | pcUpdate (b : Fin 6)
  /-- `SCAN_SELECT`, CMD: `host command or internal operation`, R290 -/
  | scanSelect (dir : Direction)
  /-- `DECODE_MB`, CMD: `host command or internal operation`, R310 -/
  | decodeMb (k : Nat)
  /-- `INTRA_BLOCK`, CMD: `host command or internal operation`, R314 -/
  | intraBlock (b : Fin 6)
  /-- `INTER_BLOCK`, CMD: `host command or internal operation`, R315 -/
  | interBlock (b : Fin 6)
  /-- `COPY_MB`, CMD: `host command or internal operation`, R318 -/
  | copyMb (k : Nat) (ref : StoreSel)
  /-- `RECON`, CMD: `host command or internal operation`, R322 -/
  | recon (p : Byte) (f : Int)
  /-- `MBI_WRITE`, CMD: `host command or internal operation`, R324 -/
  | mbiWrite (k : Nat)
  /-- `MC_LUMA`, CMD: `host command or internal operation`, R342 -/
  | mcLuma (ref : StoreSel) (x : Int) (y : Int) (v : MV) (r : Bool)
  /-- `CHROMA_MV_1`, CMD: `host command or internal operation`, R345 -/
  | chromaMv_1 (v : MV)
  /-- `CHROMA_MV_4`, CMD: `host command or internal operation`, R346 -/
  | chromaMv_4 (v0 : MV) (v1 : MV) (v2 : MV) (v3 : MV)
  /-- `MC_CHROMA`, CMD: `host command or internal operation`, R347 -/
  | mcChroma (ref : StoreSel) (plane : ChromaSel) (x : Int) (y : Int) (c : MV) (r : Bool)
  /-- `SPRITE_TRAJECTORY`, CMD: `host command or internal operation`, R361 -/
  | spriteTrajectory
  /-- `GMC_SETUP`, CMD: `host command or internal operation`, R362 -/
  | gmcSetup
  /-- `DECODE_VOP`, CMD: `host command or internal operation`, R380 -/
  | decodeVop
  /-- `COMPLETE_REF`, CMD: `host command or internal operation`, R385 -/
  | completeRef
  /-- `COMPLETE_B`, CMD: `host command or internal operation`, R387 -/
  | completeB
  /-- `PUSH`, CMD: `host command or internal operation`, R390 -/
  | push (src : StoreSel)
  /-- `DRAIN`, CMD: `host command or internal operation`, R391 -/
  | drain
  /-- `DIRECT_MV`, CMD: `host command or internal operation`, R400 -/
  | directMv (k : Nat) (delta : MV)
  /-- `OPEN`, CMD: `host command or internal operation`, R422 -/
  | openInst (params : CodecParameters)
  /-- `LOAD_VOL`, CMD: `host command or internal operation`, R424 -/
  | loadVol (v : VolHeader)
  /-- `LOAD_VOP`, CMD: `host command or internal operation`, R425 -/
  | loadVop (h : VopHeader)
  /-- `SEND_PACKET`, CMD: `host command or internal operation`, R426 -/
  | sendPacket (pkt : Packet) (parse : HeaderParse)
  /-- `RECEIVE_FRAME`, CMD: `host command or internal operation`, R430 -/
  | receiveFrame
  /-- `FLUSH`, CMD: `host command or internal operation`, R431 -/
  | flush
  /-- `SET_BP`, CMD: `host command or internal operation`, R438 -/
  | setBp (p : Nat)
  /-- `AC_INTRA 0,0,1`, VLC+S: `10s`, R206 -/
  | acIntra_0_0_1
  /-- `AC_INTRA 0,0,2`, VLC+S: `110s`, R206 -/
  | acIntra_0_0_2
  /-- `AC_INTRA 0,0,3`, VLC+S: `1111s`, R206 -/
  | acIntra_0_0_3
  /-- `AC_INTRA 0,0,4`, VLC+S: `01101s`, R206 -/
  | acIntra_0_0_4
  /-- `AC_INTRA 0,0,5`, VLC+S: `01100s`, R206 -/
  | acIntra_0_0_5
  /-- `AC_INTRA 0,0,6`, VLC+S: `010101s`, R206 -/
  | acIntra_0_0_6
  /-- `AC_INTRA 0,0,7`, VLC+S: `010011s`, R206 -/
  | acIntra_0_0_7
  /-- `AC_INTRA 0,0,8`, VLC+S: `010010s`, R206 -/
  | acIntra_0_0_8
  /-- `AC_INTRA 0,0,9`, VLC+S: `0010111s`, R206 -/
  | acIntra_0_0_9
  /-- `AC_INTRA 0,0,10`, VLC+S: `00011111s`, R206 -/
  | acIntra_0_0_10
  /-- `AC_INTRA 0,0,11`, VLC+S: `00011110s`, R206 -/
  | acIntra_0_0_11
  /-- `AC_INTRA 0,0,12`, VLC+S: `00011101s`, R206 -/
  | acIntra_0_0_12
  /-- `AC_INTRA 0,0,13`, VLC+S: `000100101s`, R206 -/
  | acIntra_0_0_13
  /-- `AC_INTRA 0,0,14`, VLC+S: `000100100s`, R206 -/
  | acIntra_0_0_14
  /-- `AC_INTRA 0,0,15`, VLC+S: `000100011s`, R206 -/
  | acIntra_0_0_15
  /-- `AC_INTRA 0,0,16`, VLC+S: `000100001s`, R206 -/
  | acIntra_0_0_16
  /-- `AC_INTRA 0,0,17`, VLC+S: `0000100001s`, R206 -/
  | acIntra_0_0_17
  /-- `AC_INTRA 0,0,18`, VLC+S: `0000100000s`, R206 -/
  | acIntra_0_0_18
  /-- `AC_INTRA 0,0,19`, VLC+S: `0000001111s`, R206 -/
  | acIntra_0_0_19
  /-- `AC_INTRA 0,0,20`, VLC+S: `0000001110s`, R206 -/
  | acIntra_0_0_20
  /-- `AC_INTRA 0,0,21`, VLC+S: `00000000111s`, R206 -/
  | acIntra_0_0_21
  /-- `AC_INTRA 0,0,22`, VLC+S: `00000000110s`, R206 -/
  | acIntra_0_0_22
  /-- `AC_INTRA 0,0,23`, VLC+S: `00000100000s`, R206 -/
  | acIntra_0_0_23
  /-- `AC_INTRA 0,0,24`, VLC+S: `00000100001s`, R206 -/
  | acIntra_0_0_24
  /-- `AC_INTRA 0,0,25`, VLC+S: `000001010000s`, R206 -/
  | acIntra_0_0_25
  /-- `AC_INTRA 0,0,26`, VLC+S: `000001010001s`, R206 -/
  | acIntra_0_0_26
  /-- `AC_INTRA 0,0,27`, VLC+S: `000001010010s`, R206 -/
  | acIntra_0_0_27
  /-- `AC_INTRA 0,1,1`, VLC+S: `1110s`, R206 -/
  | acIntra_0_1_1
  /-- `AC_INTRA 0,1,2`, VLC+S: `010100s`, R206 -/
  | acIntra_0_1_2
  /-- `AC_INTRA 0,1,3`, VLC+S: `0010110s`, R206 -/
  | acIntra_0_1_3
  /-- `AC_INTRA 0,1,4`, VLC+S: `00011100s`, R206 -/
  | acIntra_0_1_4
  /-- `AC_INTRA 0,1,5`, VLC+S: `000100000s`, R206 -/
  | acIntra_0_1_5
  /-- `AC_INTRA 0,1,6`, VLC+S: `000011111s`, R206 -/
  | acIntra_0_1_6
  /-- `AC_INTRA 0,1,7`, VLC+S: `0000001101s`, R206 -/
  | acIntra_0_1_7
  /-- `AC_INTRA 0,1,8`, VLC+S: `00000100010s`, R206 -/
  | acIntra_0_1_8
  /-- `AC_INTRA 0,1,9`, VLC+S: `000001010011s`, R206 -/
  | acIntra_0_1_9
  /-- `AC_INTRA 0,1,10`, VLC+S: `000001010101s`, R206 -/
  | acIntra_0_1_10
  /-- `AC_INTRA 0,2,1`, VLC+S: `01011s`, R206 -/
  | acIntra_0_2_1
  /-- `AC_INTRA 0,2,2`, VLC+S: `0010101s`, R206 -/
  | acIntra_0_2_2
  /-- `AC_INTRA 0,2,3`, VLC+S: `000011110s`, R206 -/
  | acIntra_0_2_3
  /-- `AC_INTRA 0,2,4`, VLC+S: `0000001100s`, R206 -/
  | acIntra_0_2_4
  /-- `AC_INTRA 0,2,5`, VLC+S: `000001010110s`, R206 -/
  | acIntra_0_2_5
  /-- `AC_INTRA 0,3,1`, VLC+S: `010001s`, R206 -/
  | acIntra_0_3_1
  /-- `AC_INTRA 0,3,2`, VLC+S: `00011011s`, R206 -/
  | acIntra_0_3_2
  /-- `AC_INTRA 0,3,3`, VLC+S: `000011101s`, R206 -/
  | acIntra_0_3_3
  /-- `AC_INTRA 0,3,4`, VLC+S: `0000001011s`, R206 -/
  | acIntra_0_3_4
  /-- `AC_INTRA 0,4,1`, VLC+S: `010000s`, R206 -/
  | acIntra_0_4_1
  /-- `AC_INTRA 0,4,2`, VLC+S: `000100010s`, R206 -/
  | acIntra_0_4_2
  /-- `AC_INTRA 0,4,3`, VLC+S: `0000001010s`, R206 -/
  | acIntra_0_4_3
  /-- `AC_INTRA 0,5,1`, VLC+S: `001101s`, R206 -/
  | acIntra_0_5_1
  /-- `AC_INTRA 0,5,2`, VLC+S: `000011100s`, R206 -/
  | acIntra_0_5_2
  /-- `AC_INTRA 0,5,3`, VLC+S: `0000001000s`, R206 -/
  | acIntra_0_5_3
  /-- `AC_INTRA 0,6,1`, VLC+S: `0010010s`, R206 -/
  | acIntra_0_6_1
  /-- `AC_INTRA 0,6,2`, VLC+S: `000011011s`, R206 -/
  | acIntra_0_6_2
  /-- `AC_INTRA 0,6,3`, VLC+S: `000001010100s`, R206 -/
  | acIntra_0_6_3
  /-- `AC_INTRA 0,7,1`, VLC+S: `0010100s`, R206 -/
  | acIntra_0_7_1
  /-- `AC_INTRA 0,7,2`, VLC+S: `000011010s`, R206 -/
  | acIntra_0_7_2
  /-- `AC_INTRA 0,7,3`, VLC+S: `000001010111s`, R206 -/
  | acIntra_0_7_3
  /-- `AC_INTRA 0,8,1`, VLC+S: `00011001s`, R206 -/
  | acIntra_0_8_1
  /-- `AC_INTRA 0,8,2`, VLC+S: `0000001001s`, R206 -/
  | acIntra_0_8_2
  /-- `AC_INTRA 0,9,1`, VLC+S: `00011000s`, R206 -/
  | acIntra_0_9_1
  /-- `AC_INTRA 0,9,2`, VLC+S: `00000100011s`, R206 -/
  | acIntra_0_9_2
  /-- `AC_INTRA 0,10,1`, VLC+S: `00010111s`, R206 -/
  | acIntra_0_10_1
  /-- `AC_INTRA 0,11,1`, VLC+S: `000011001s`, R206 -/
  | acIntra_0_11_1
  /-- `AC_INTRA 0,12,1`, VLC+S: `000011000s`, R206 -/
  | acIntra_0_12_1
  /-- `AC_INTRA 0,13,1`, VLC+S: `0000000111s`, R206 -/
  | acIntra_0_13_1
  /-- `AC_INTRA 0,14,1`, VLC+S: `000001011000s`, R206 -/
  | acIntra_0_14_1
  /-- `AC_INTRA 1,0,1`, VLC+S: `0111s`, R206 -/
  | acIntra_1_0_1
  /-- `AC_INTRA 1,0,2`, VLC+S: `001100s`, R206 -/
  | acIntra_1_0_2
  /-- `AC_INTRA 1,0,3`, VLC+S: `00010110s`, R206 -/
  | acIntra_1_0_3
  /-- `AC_INTRA 1,0,4`, VLC+S: `000010111s`, R206 -/
  | acIntra_1_0_4
  /-- `AC_INTRA 1,0,5`, VLC+S: `0000000110s`, R206 -/
  | acIntra_1_0_5
  /-- `AC_INTRA 1,0,6`, VLC+S: `00000000101s`, R206 -/
  | acIntra_1_0_6
  /-- `AC_INTRA 1,0,7`, VLC+S: `00000000100s`, R206 -/
  | acIntra_1_0_7
  /-- `AC_INTRA 1,0,8`, VLC+S: `000001011001s`, R206 -/
  | acIntra_1_0_8
  /-- `AC_INTRA 1,1,1`, VLC+S: `001111s`, R206 -/
  | acIntra_1_1_1
  /-- `AC_INTRA 1,1,2`, VLC+S: `000010110s`, R206 -/
  | acIntra_1_1_2
  /-- `AC_INTRA 1,1,3`, VLC+S: `0000000101s`, R206 -/
  | acIntra_1_1_3
  /-- `AC_INTRA 1,2,1`, VLC+S: `001110s`, R206 -/
  | acIntra_1_2_1
  /-- `AC_INTRA 1,2,2`, VLC+S: `0000000100s`, R206 -/
  | acIntra_1_2_2
  /-- `AC_INTRA 1,3,1`, VLC+S: `0010001s`, R206 -/
  | acIntra_1_3_1
  /-- `AC_INTRA 1,3,2`, VLC+S: `00000100100s`, R206 -/
  | acIntra_1_3_2
  /-- `AC_INTRA 1,4,1`, VLC+S: `0010000s`, R206 -/
  | acIntra_1_4_1
  /-- `AC_INTRA 1,4,2`, VLC+S: `00000100101s`, R206 -/
  | acIntra_1_4_2
  /-- `AC_INTRA 1,5,1`, VLC+S: `0010011s`, R206 -/
  | acIntra_1_5_1
  /-- `AC_INTRA 1,5,2`, VLC+S: `000001011010s`, R206 -/
  | acIntra_1_5_2
  /-- `AC_INTRA 1,6,1`, VLC+S: `00010101s`, R206 -/
  | acIntra_1_6_1
  /-- `AC_INTRA 1,6,2`, VLC+S: `000001011011s`, R206 -/
  | acIntra_1_6_2
  /-- `AC_INTRA 1,7,1`, VLC+S: `00010100s`, R206 -/
  | acIntra_1_7_1
  /-- `AC_INTRA 1,8,1`, VLC+S: `00010011s`, R206 -/
  | acIntra_1_8_1
  /-- `AC_INTRA 1,9,1`, VLC+S: `00011010s`, R206 -/
  | acIntra_1_9_1
  /-- `AC_INTRA 1,10,1`, VLC+S: `000010101s`, R206 -/
  | acIntra_1_10_1
  /-- `AC_INTRA 1,11,1`, VLC+S: `000010100s`, R206 -/
  | acIntra_1_11_1
  /-- `AC_INTRA 1,12,1`, VLC+S: `000010011s`, R206 -/
  | acIntra_1_12_1
  /-- `AC_INTRA 1,13,1`, VLC+S: `000010010s`, R206 -/
  | acIntra_1_13_1
  /-- `AC_INTRA 1,14,1`, VLC+S: `000010001s`, R206 -/
  | acIntra_1_14_1
  /-- `AC_INTRA 1,15,1`, VLC+S: `00000100110s`, R206 -/
  | acIntra_1_15_1
  /-- `AC_INTRA 1,16,1`, VLC+S: `00000100111s`, R206 -/
  | acIntra_1_16_1
  /-- `AC_INTRA 1,17,1`, VLC+S: `000001011100s`, R206 -/
  | acIntra_1_17_1
  /-- `AC_INTRA 1,18,1`, VLC+S: `000001011101s`, R206 -/
  | acIntra_1_18_1
  /-- `AC_INTRA 1,19,1`, VLC+S: `000001011110s`, R206 -/
  | acIntra_1_19_1
  /-- `AC_INTRA 1,20,1`, VLC+S: `000001011111s`, R206 -/
  | acIntra_1_20_1
  /-- `AC_INTER 0,0,1`, VLC+S: `10s`, R207 -/
  | acInter_0_0_1
  /-- `AC_INTER 0,0,2`, VLC+S: `1111s`, R207 -/
  | acInter_0_0_2
  /-- `AC_INTER 0,0,3`, VLC+S: `010101s`, R207 -/
  | acInter_0_0_3
  /-- `AC_INTER 0,0,4`, VLC+S: `0010111s`, R207 -/
  | acInter_0_0_4
  /-- `AC_INTER 0,0,5`, VLC+S: `00011111s`, R207 -/
  | acInter_0_0_5
  /-- `AC_INTER 0,0,6`, VLC+S: `000100101s`, R207 -/
  | acInter_0_0_6
  /-- `AC_INTER 0,0,7`, VLC+S: `000100100s`, R207 -/
  | acInter_0_0_7
  /-- `AC_INTER 0,0,8`, VLC+S: `0000100001s`, R207 -/
  | acInter_0_0_8
  /-- `AC_INTER 0,0,9`, VLC+S: `0000100000s`, R207 -/
  | acInter_0_0_9
  /-- `AC_INTER 0,0,10`, VLC+S: `00000000111s`, R207 -/
  | acInter_0_0_10
  /-- `AC_INTER 0,0,11`, VLC+S: `00000000110s`, R207 -/
  | acInter_0_0_11
  /-- `AC_INTER 0,0,12`, VLC+S: `00000100000s`, R207 -/
  | acInter_0_0_12
  /-- `AC_INTER 0,1,1`, VLC+S: `110s`, R207 -/
  | acInter_0_1_1
  /-- `AC_INTER 0,1,2`, VLC+S: `010100s`, R207 -/
  | acInter_0_1_2
  /-- `AC_INTER 0,1,3`, VLC+S: `00011110s`, R207 -/
  | acInter_0_1_3
  /-- `AC_INTER 0,1,4`, VLC+S: `0000001111s`, R207 -/
  | acInter_0_1_4
  /-- `AC_INTER 0,1,5`, VLC+S: `00000100001s`, R207 -/
  | acInter_0_1_5
  /-- `AC_INTER 0,1,6`, VLC+S: `000001010000s`, R207 -/
  | acInter_0_1_6
  /-- `AC_INTER 0,2,1`, VLC+S: `1110s`, R207 -/
  | acInter_0_2_1
  /-- `AC_INTER 0,2,2`, VLC+S: `00011101s`, R207 -/
  | acInter_0_2_2
  /-- `AC_INTER 0,2,3`, VLC+S: `0000001110s`, R207 -/
  | acInter_0_2_3
  /-- `AC_INTER 0,2,4`, VLC+S: `000001010001s`, R207 -/
  | acInter_0_2_4
  /-- `AC_INTER 0,3,1`, VLC+S: `01101s`, R207 -/
  | acInter_0_3_1
  /-- `AC_INTER 0,3,2`, VLC+S: `000100011s`, R207 -/
  | acInter_0_3_2
  /-- `AC_INTER 0,3,3`, VLC+S: `0000001101s`, R207 -/
  | acInter_0_3_3
  /-- `AC_INTER 0,4,1`, VLC+S: `01100s`, R207 -/
  | acInter_0_4_1
  /-- `AC_INTER 0,4,2`, VLC+S: `000100010s`, R207 -/
  | acInter_0_4_2
  /-- `AC_INTER 0,4,3`, VLC+S: `000001010010s`, R207 -/
  | acInter_0_4_3
  /-- `AC_INTER 0,5,1`, VLC+S: `01011s`, R207 -/
  | acInter_0_5_1
  /-- `AC_INTER 0,5,2`, VLC+S: `0000001100s`, R207 -/
  | acInter_0_5_2
  /-- `AC_INTER 0,5,3`, VLC+S: `000001010011s`, R207 -/
  | acInter_0_5_3
  /-- `AC_INTER 0,6,1`, VLC+S: `010011s`, R207 -/
  | acInter_0_6_1
  /-- `AC_INTER 0,6,2`, VLC+S: `0000001011s`, R207 -/
  | acInter_0_6_2
  /-- `AC_INTER 0,6,3`, VLC+S: `000001010100s`, R207 -/
  | acInter_0_6_3
  /-- `AC_INTER 0,7,1`, VLC+S: `010010s`, R207 -/
  | acInter_0_7_1
  /-- `AC_INTER 0,7,2`, VLC+S: `0000001010s`, R207 -/
  | acInter_0_7_2
  /-- `AC_INTER 0,8,1`, VLC+S: `010001s`, R207 -/
  | acInter_0_8_1
  /-- `AC_INTER 0,8,2`, VLC+S: `0000001001s`, R207 -/
  | acInter_0_8_2
  /-- `AC_INTER 0,9,1`, VLC+S: `010000s`, R207 -/
  | acInter_0_9_1
  /-- `AC_INTER 0,9,2`, VLC+S: `0000001000s`, R207 -/
  | acInter_0_9_2
  /-- `AC_INTER 0,10,1`, VLC+S: `0010110s`, R207 -/
  | acInter_0_10_1
  /-- `AC_INTER 0,10,2`, VLC+S: `000001010101s`, R207 -/
  | acInter_0_10_2
  /-- `AC_INTER 0,11,1`, VLC+S: `0010101s`, R207 -/
  | acInter_0_11_1
  /-- `AC_INTER 0,12,1`, VLC+S: `0010100s`, R207 -/
  | acInter_0_12_1
  /-- `AC_INTER 0,13,1`, VLC+S: `00011100s`, R207 -/
  | acInter_0_13_1
  /-- `AC_INTER 0,14,1`, VLC+S: `00011011s`, R207 -/
  | acInter_0_14_1
  /-- `AC_INTER 0,15,1`, VLC+S: `000100001s`, R207 -/
  | acInter_0_15_1
  /-- `AC_INTER 0,16,1`, VLC+S: `000100000s`, R207 -/
  | acInter_0_16_1
  /-- `AC_INTER 0,17,1`, VLC+S: `000011111s`, R207 -/
  | acInter_0_17_1
  /-- `AC_INTER 0,18,1`, VLC+S: `000011110s`, R207 -/
  | acInter_0_18_1
  /-- `AC_INTER 0,19,1`, VLC+S: `000011101s`, R207 -/
  | acInter_0_19_1
  /-- `AC_INTER 0,20,1`, VLC+S: `000011100s`, R207 -/
  | acInter_0_20_1
  /-- `AC_INTER 0,21,1`, VLC+S: `000011011s`, R207 -/
  | acInter_0_21_1
  /-- `AC_INTER 0,22,1`, VLC+S: `000011010s`, R207 -/
  | acInter_0_22_1
  /-- `AC_INTER 0,23,1`, VLC+S: `00000100010s`, R207 -/
  | acInter_0_23_1
  /-- `AC_INTER 0,24,1`, VLC+S: `00000100011s`, R207 -/
  | acInter_0_24_1
  /-- `AC_INTER 0,25,1`, VLC+S: `000001010110s`, R207 -/
  | acInter_0_25_1
  /-- `AC_INTER 0,26,1`, VLC+S: `000001010111s`, R207 -/
  | acInter_0_26_1
  /-- `AC_INTER 1,0,1`, VLC+S: `0111s`, R207 -/
  | acInter_1_0_1
  /-- `AC_INTER 1,0,2`, VLC+S: `000011001s`, R207 -/
  | acInter_1_0_2
  /-- `AC_INTER 1,0,3`, VLC+S: `00000000101s`, R207 -/
  | acInter_1_0_3
  /-- `AC_INTER 1,1,1`, VLC+S: `001111s`, R207 -/
  | acInter_1_1_1
  /-- `AC_INTER 1,1,2`, VLC+S: `00000000100s`, R207 -/
  | acInter_1_1_2
  /-- `AC_INTER 1,2,1`, VLC+S: `001110s`, R207 -/
  | acInter_1_2_1
  /-- `AC_INTER 1,3,1`, VLC+S: `001101s`, R207 -/
  | acInter_1_3_1
  /-- `AC_INTER 1,4,1`, VLC+S: `001100s`, R207 -/
  | acInter_1_4_1
  /-- `AC_INTER 1,5,1`, VLC+S: `0010011s`, R207 -/
  | acInter_1_5_1
  /-- `AC_INTER 1,6,1`, VLC+S: `0010010s`, R207 -/
  | acInter_1_6_1
  /-- `AC_INTER 1,7,1`, VLC+S: `0010001s`, R207 -/
  | acInter_1_7_1
  /-- `AC_INTER 1,8,1`, VLC+S: `0010000s`, R207 -/
  | acInter_1_8_1
  /-- `AC_INTER 1,9,1`, VLC+S: `00011010s`, R207 -/
  | acInter_1_9_1
  /-- `AC_INTER 1,10,1`, VLC+S: `00011001s`, R207 -/
  | acInter_1_10_1
  /-- `AC_INTER 1,11,1`, VLC+S: `00011000s`, R207 -/
  | acInter_1_11_1
  /-- `AC_INTER 1,12,1`, VLC+S: `00010111s`, R207 -/
  | acInter_1_12_1
  /-- `AC_INTER 1,13,1`, VLC+S: `00010110s`, R207 -/
  | acInter_1_13_1
  /-- `AC_INTER 1,14,1`, VLC+S: `00010101s`, R207 -/
  | acInter_1_14_1
  /-- `AC_INTER 1,15,1`, VLC+S: `00010100s`, R207 -/
  | acInter_1_15_1
  /-- `AC_INTER 1,16,1`, VLC+S: `00010011s`, R207 -/
  | acInter_1_16_1
  /-- `AC_INTER 1,17,1`, VLC+S: `000011000s`, R207 -/
  | acInter_1_17_1
  /-- `AC_INTER 1,18,1`, VLC+S: `000010111s`, R207 -/
  | acInter_1_18_1
  /-- `AC_INTER 1,19,1`, VLC+S: `000010110s`, R207 -/
  | acInter_1_19_1
  /-- `AC_INTER 1,20,1`, VLC+S: `000010101s`, R207 -/
  | acInter_1_20_1
  /-- `AC_INTER 1,21,1`, VLC+S: `000010100s`, R207 -/
  | acInter_1_21_1
  /-- `AC_INTER 1,22,1`, VLC+S: `000010011s`, R207 -/
  | acInter_1_22_1
  /-- `AC_INTER 1,23,1`, VLC+S: `000010010s`, R207 -/
  | acInter_1_23_1
  /-- `AC_INTER 1,24,1`, VLC+S: `000010001s`, R207 -/
  | acInter_1_24_1
  /-- `AC_INTER 1,25,1`, VLC+S: `0000000111s`, R207 -/
  | acInter_1_25_1
  /-- `AC_INTER 1,26,1`, VLC+S: `0000000110s`, R207 -/
  | acInter_1_26_1
  /-- `AC_INTER 1,27,1`, VLC+S: `0000000101s`, R207 -/
  | acInter_1_27_1
  /-- `AC_INTER 1,28,1`, VLC+S: `0000000100s`, R207 -/
  | acInter_1_28_1
  /-- `AC_INTER 1,29,1`, VLC+S: `00000100100s`, R207 -/
  | acInter_1_29_1
  /-- `AC_INTER 1,30,1`, VLC+S: `00000100101s`, R207 -/
  | acInter_1_30_1
  /-- `AC_INTER 1,31,1`, VLC+S: `00000100110s`, R207 -/
  | acInter_1_31_1
  /-- `AC_INTER 1,32,1`, VLC+S: `00000100111s`, R207 -/
  | acInter_1_32_1
  /-- `AC_INTER 1,33,1`, VLC+S: `000001011000s`, R207 -/
  | acInter_1_33_1
  /-- `AC_INTER 1,34,1`, VLC+S: `000001011001s`, R207 -/
  | acInter_1_34_1
  /-- `AC_INTER 1,35,1`, VLC+S: `000001011010s`, R207 -/
  | acInter_1_35_1
  /-- `AC_INTER 1,36,1`, VLC+S: `000001011011s`, R207 -/
  | acInter_1_36_1
  /-- `AC_INTER 1,37,1`, VLC+S: `000001011100s`, R207 -/
  | acInter_1_37_1
  /-- `AC_INTER 1,38,1`, VLC+S: `000001011101s`, R207 -/
  | acInter_1_38_1
  /-- `AC_INTER 1,39,1`, VLC+S: `000001011110s`, R207 -/
  | acInter_1_39_1
  /-- `AC_INTER 1,40,1`, VLC+S: `000001011111s`, R207 -/
  | acInter_1_40_1
  deriving DecidableEq, Repr

end Sys2Proof
end

