-- ==== Sys2Proof/WellFormed.lean ====
section
/-! DEFINITION. Which instructions are well formed: every operand fits the width that R21, R23 or the
encoding (R100) gives it. A field whose Lean type is already exactly as wide needs no check. The match
names every constructor. -/

namespace Sys2Proof

/-- `v` fits a two's-complement field of `n` bits. -/
def fitsSigned (n : Nat) (v : Int) : Bool := decide (-(2 ^ (n - 1) : Int) ≤ v) && decide (v < 2 ^ (n - 1))

/-- Every entry of a quantization matrix fits its `u8` (R21; 0 fits the width and is refused by R424). -/
def fitsMatrix (m : Option (Vector Nat 64)) : Bool :=
  match m with
  | .none => true
  | .some v => v.toList.all (fun e => decide (e < 256))

/-- The fields of a VOL header fit the `VOL` group (R21). -/
def VolHeader.wf (v : VolHeader) : Bool :=
  decide (v.timeIncRes < 65536) && decide (v.warpPoints < 8) && decide (v.warpAccuracy < 4) && decide (v.shape < 4)
    && (match v.size with
        | .none => true
        | .some (w, h) => decide (w < 65536) && decide (h < 65536))
    && fitsMatrix v.intraMatrix && fitsMatrix v.interMatrix

/-- The fields of a VOP header fit the `VOP` group (R23). -/
def VopHeader.wf (h : VopHeader) : Bool :=
  decide (h.quant < 32) && decide (h.fcodeFwd < 8) && decide (h.fcodeBwd < 8) && decide (h.intraDcVlcThr < 8)
    && fitsSigned 32 h.trb && fitsSigned 32 h.trd && fitsSigned 64 h.poc && fitsSigned 64 h.pts
    && fitsSigned 64 h.duration

/-- A VOL header that may be absent is well formed where it is present. -/
def volWf (v : Option VolHeader) : Bool :=
  match v with
  | .none => true
  | .some v => v.wf

/-- The operand of `OPEN`: the size fits `u16` (R21). -/
def CodecParameters.wf (p : CodecParameters) : Bool :=
  decide (p.width < 65536) && decide (p.height < 65536) && volWf p.extraVol

/-- The host's parse of a packet: every header in it is well formed. -/
def HeaderParse.wf (p : HeaderParse) : Bool :=
  volWf p.vol && p.vops.all (fun o =>
    match o with
    | .none => true
    | .some v => v.header.wf)

/-- A motion-vector delta: the f_code is 1 to 7 and the residual fits `f_code - 1` bits (R106). -/
def mvdWf (f res : Nat) : Bool := decide (1 ≤ f) && decide (f ≤ 7) && decide (res < 2 ^ (f - 1))

/-- Well-formed instructions. -/
def Instr.wf (i : Instr) : Bool :=
  match i with
  | .mcbpcI_3_0 => true
  | .mcbpcI_3_1 => true
  | .mcbpcI_3_2 => true
  | .mcbpcI_3_3 => true
  | .mcbpcI_4_0 => true
  | .mcbpcI_4_1 => true
  | .mcbpcI_4_2 => true
  | .mcbpcI_4_3 => true
  | .mcbpcI_stuff => true
  | .mcbpcP_0_0 => true
  | .mcbpcP_0_1 => true
  | .mcbpcP_0_2 => true
  | .mcbpcP_0_3 => true
  | .mcbpcP_1_0 => true
  | .mcbpcP_1_1 => true
  | .mcbpcP_1_2 => true
  | .mcbpcP_1_3 => true
  | .mcbpcP_2_0 => true
  | .mcbpcP_2_1 => true
  | .mcbpcP_2_2 => true
  | .mcbpcP_2_3 => true
  | .mcbpcP_3_0 => true
  | .mcbpcP_3_1 => true
  | .mcbpcP_3_2 => true
  | .mcbpcP_3_3 => true
  | .mcbpcP_4_0 => true
  | .mcbpcP_4_1 => true
  | .mcbpcP_4_2 => true
  | .mcbpcP_4_3 => true
  | .mcbpcP_stuff => true
  | .cbpy_0 => true
  | .cbpy_1 => true
  | .cbpy_2 => true
  | .cbpy_3 => true
  | .cbpy_4 => true
  | .cbpy_5 => true
  | .cbpy_6 => true
  | .cbpy_7 => true
  | .cbpy_8 => true
  | .cbpy_9 => true
  | .cbpy_10 => true
  | .cbpy_11 => true
  | .cbpy_12 => true
  | .cbpy_13 => true
  | .cbpy_14 => true
  | .cbpy_15 => true
  | .mvd_0 => true
  | .mvd_1 f _ res => mvdWf f res
  | .mvd_2 f _ res => mvdWf f res
  | .mvd_3 f _ res => mvdWf f res
  | .mvd_4 f _ res => mvdWf f res
  | .mvd_5 f _ res => mvdWf f res
  | .mvd_6 f _ res => mvdWf f res
  | .mvd_7 f _ res => mvdWf f res
  | .mvd_8 f _ res => mvdWf f res
  | .mvd_9 f _ res => mvdWf f res
  | .mvd_10 f _ res => mvdWf f res
  | .mvd_11 f _ res => mvdWf f res
  | .mvd_12 f _ res => mvdWf f res
  | .mvd_13 f _ res => mvdWf f res
  | .mvd_14 f _ res => mvdWf f res
  | .mvd_15 f _ res => mvdWf f res
  | .mvd_16 f _ res => mvdWf f res
  | .mvd_17 f _ res => mvdWf f res
  | .mvd_18 f _ res => mvdWf f res
  | .mvd_19 f _ res => mvdWf f res
  | .mvd_20 f _ res => mvdWf f res
  | .mvd_21 f _ res => mvdWf f res
  | .mvd_22 f _ res => mvdWf f res
  | .mvd_23 f _ res => mvdWf f res
  | .mvd_24 f _ res => mvdWf f res
  | .mvd_25 f _ res => mvdWf f res
  | .mvd_26 f _ res => mvdWf f res
  | .mvd_27 f _ res => mvdWf f res
  | .mvd_28 f _ res => mvdWf f res
  | .mvd_29 f _ res => mvdWf f res
  | .mvd_30 f _ res => mvdWf f res
  | .mvd_31 f _ res => mvdWf f res
  | .mvd_32 f _ res => mvdWf f res
  | .dcszL_0 => true
  | .dcszL_1 _ => true
  | .dcszL_2 _ => true
  | .dcszL_3 _ => true
  | .dcszL_4 _ => true
  | .dcszL_5 _ => true
  | .dcszL_6 _ => true
  | .dcszL_7 _ => true
  | .dcszL_8 _ => true
  | .dcszL_9 _ _ => true
  | .dcszL_10 _ _ => true
  | .dcszL_11 _ _ => true
  | .dcszL_12 _ _ => true
  | .dcszC_0 => true
  | .dcszC_1 _ => true
  | .dcszC_2 _ => true
  | .dcszC_3 _ => true
  | .dcszC_4 _ => true
  | .dcszC_5 _ => true
  | .dcszC_6 _ => true
  | .dcszC_7 _ => true
  | .dcszC_8 _ => true
  | .dcszC_9 _ _ => true
  | .dcszC_10 _ _ => true
  | .dcszC_11 _ _ => true
  | .dcszC_12 _ _ => true
  | .dcval size v => decide (v < 2 ^ size.val)
  | .acIntra_esc1 _ _ => true
  | .acIntra_esc2 _ _ => true
  | .acIntra_esc3 _ _ _ _ _ => true
  | .acInter_esc1 _ _ => true
  | .acInter_esc2 _ _ => true
  | .acInter_esc3 _ _ _ _ _ => true
  | .modb_1 => true
  | .modb_01 => true
  | .modb_00 => true
  | .bmbtype_direct => true
  | .bmbtype_interpolate => true
  | .bmbtype_backward => true
  | .bmbtype_forward => true
  | .dbquant_0 => true
  | .dbquant_minus2 => true
  | .dbquant_plus2 => true
  | .notCoded _ => true
  | .acPred _ => true
  | .mcsel _ => true
  | .dquant_00 => true
  | .dquant_01 => true
  | .dquant_10 => true
  | .dquant_11 => true
  | .cbpb _ => true
  | .traj_0 => true
  | .traj_1 _ => true
  | .traj_2 _ => true
  | .traj_3 _ => true
  | .traj_4 _ => true
  | .traj_5 _ => true
  | .traj_6 _ => true
  | .traj_7 _ => true
  | .traj_8 _ => true
  | .traj_9 _ => true
  | .traj_10 _ => true
  | .traj_11 _ => true
  | .traj_12 _ => true
  | .sc _ => true
  | .resync _ _ => true
  | .readBits _ => true
  | .peekBits _ => true
  | .skipBits _ => true
  | .byteAligned => true
  | .findStartCode _ _ => true
  | .findStartCodeRange _ lo hi => decide (lo.toNat ≤ hi.toNat)
  | .resyncDetect _ _ => true
  | .dequant _ => true
  | .mismatch => true
  | .idct => true
  | .dcPredict _ => true
  | .dcRecon _ _ _ => true
  | .acPredict _ => true
  | .pcUpdate _ => true
  | .scanSelect _ => true
  | .decodeMb _ => true
  | .intraBlock _ => true
  | .interBlock _ => true
  | .copyMb _ _ => true
  | .recon _ _ => true
  | .mbiWrite _ => true
  | .mcLuma _ _ _ _ _ => true
  | .chromaMv_1 _ => true
  | .chromaMv_4 _ _ _ _ => true
  | .mcChroma _ _ _ _ _ _ => true
  | .spriteTrajectory => true
  | .gmcSetup => true
  | .decodeVop => true
  | .completeRef => true
  | .completeB => true
  | .push _ => true
  | .drain => true
  | .directMv _ _ => true
  | .openInst params => params.wf
  | .loadVol v => v.wf
  | .loadVop h => h.wf
  | .sendPacket pkt parse => fitsSigned 64 pkt.pts && fitsSigned 64 pkt.duration && parse.wf
  | .receiveFrame => true
  | .flush => true
  | .setBp _ => true
  | .acIntra_0_0_1 => true
  | .acIntra_0_0_2 => true
  | .acIntra_0_0_3 => true
  | .acIntra_0_0_4 => true
  | .acIntra_0_0_5 => true
  | .acIntra_0_0_6 => true
  | .acIntra_0_0_7 => true
  | .acIntra_0_0_8 => true
  | .acIntra_0_0_9 => true
  | .acIntra_0_0_10 => true
  | .acIntra_0_0_11 => true
  | .acIntra_0_0_12 => true
  | .acIntra_0_0_13 => true
  | .acIntra_0_0_14 => true
  | .acIntra_0_0_15 => true
  | .acIntra_0_0_16 => true
  | .acIntra_0_0_17 => true
  | .acIntra_0_0_18 => true
  | .acIntra_0_0_19 => true
  | .acIntra_0_0_20 => true
  | .acIntra_0_0_21 => true
  | .acIntra_0_0_22 => true
  | .acIntra_0_0_23 => true
  | .acIntra_0_0_24 => true
  | .acIntra_0_0_25 => true
  | .acIntra_0_0_26 => true
  | .acIntra_0_0_27 => true
  | .acIntra_0_1_1 => true
  | .acIntra_0_1_2 => true
  | .acIntra_0_1_3 => true
  | .acIntra_0_1_4 => true
  | .acIntra_0_1_5 => true
  | .acIntra_0_1_6 => true
  | .acIntra_0_1_7 => true
  | .acIntra_0_1_8 => true
  | .acIntra_0_1_9 => true
  | .acIntra_0_1_10 => true
  | .acIntra_0_2_1 => true
  | .acIntra_0_2_2 => true
  | .acIntra_0_2_3 => true
  | .acIntra_0_2_4 => true
  | .acIntra_0_2_5 => true
  | .acIntra_0_3_1 => true
  | .acIntra_0_3_2 => true
  | .acIntra_0_3_3 => true
  | .acIntra_0_3_4 => true
  | .acIntra_0_4_1 => true
  | .acIntra_0_4_2 => true
  | .acIntra_0_4_3 => true
  | .acIntra_0_5_1 => true
  | .acIntra_0_5_2 => true
  | .acIntra_0_5_3 => true
  | .acIntra_0_6_1 => true
  | .acIntra_0_6_2 => true
  | .acIntra_0_6_3 => true
  | .acIntra_0_7_1 => true
  | .acIntra_0_7_2 => true
  | .acIntra_0_7_3 => true
  | .acIntra_0_8_1 => true
  | .acIntra_0_8_2 => true
  | .acIntra_0_9_1 => true
  | .acIntra_0_9_2 => true
  | .acIntra_0_10_1 => true
  | .acIntra_0_11_1 => true
  | .acIntra_0_12_1 => true
  | .acIntra_0_13_1 => true
  | .acIntra_0_14_1 => true
  | .acIntra_1_0_1 => true
  | .acIntra_1_0_2 => true
  | .acIntra_1_0_3 => true
  | .acIntra_1_0_4 => true
  | .acIntra_1_0_5 => true
  | .acIntra_1_0_6 => true
  | .acIntra_1_0_7 => true
  | .acIntra_1_0_8 => true
  | .acIntra_1_1_1 => true
  | .acIntra_1_1_2 => true
  | .acIntra_1_1_3 => true
  | .acIntra_1_2_1 => true
  | .acIntra_1_2_2 => true
  | .acIntra_1_3_1 => true
  | .acIntra_1_3_2 => true
  | .acIntra_1_4_1 => true
  | .acIntra_1_4_2 => true
  | .acIntra_1_5_1 => true
  | .acIntra_1_5_2 => true
  | .acIntra_1_6_1 => true
  | .acIntra_1_6_2 => true
  | .acIntra_1_7_1 => true
  | .acIntra_1_8_1 => true
  | .acIntra_1_9_1 => true
  | .acIntra_1_10_1 => true
  | .acIntra_1_11_1 => true
  | .acIntra_1_12_1 => true
  | .acIntra_1_13_1 => true
  | .acIntra_1_14_1 => true
  | .acIntra_1_15_1 => true
  | .acIntra_1_16_1 => true
  | .acIntra_1_17_1 => true
  | .acIntra_1_18_1 => true
  | .acIntra_1_19_1 => true
  | .acIntra_1_20_1 => true
  | .acInter_0_0_1 => true
  | .acInter_0_0_2 => true
  | .acInter_0_0_3 => true
  | .acInter_0_0_4 => true
  | .acInter_0_0_5 => true
  | .acInter_0_0_6 => true
  | .acInter_0_0_7 => true
  | .acInter_0_0_8 => true
  | .acInter_0_0_9 => true
  | .acInter_0_0_10 => true
  | .acInter_0_0_11 => true
  | .acInter_0_0_12 => true
  | .acInter_0_1_1 => true
  | .acInter_0_1_2 => true
  | .acInter_0_1_3 => true
  | .acInter_0_1_4 => true
  | .acInter_0_1_5 => true
  | .acInter_0_1_6 => true
  | .acInter_0_2_1 => true
  | .acInter_0_2_2 => true
  | .acInter_0_2_3 => true
  | .acInter_0_2_4 => true
  | .acInter_0_3_1 => true
  | .acInter_0_3_2 => true
  | .acInter_0_3_3 => true
  | .acInter_0_4_1 => true
  | .acInter_0_4_2 => true
  | .acInter_0_4_3 => true
  | .acInter_0_5_1 => true
  | .acInter_0_5_2 => true
  | .acInter_0_5_3 => true
  | .acInter_0_6_1 => true
  | .acInter_0_6_2 => true
  | .acInter_0_6_3 => true
  | .acInter_0_7_1 => true
  | .acInter_0_7_2 => true
  | .acInter_0_8_1 => true
  | .acInter_0_8_2 => true
  | .acInter_0_9_1 => true
  | .acInter_0_9_2 => true
  | .acInter_0_10_1 => true
  | .acInter_0_10_2 => true
  | .acInter_0_11_1 => true
  | .acInter_0_12_1 => true
  | .acInter_0_13_1 => true
  | .acInter_0_14_1 => true
  | .acInter_0_15_1 => true
  | .acInter_0_16_1 => true
  | .acInter_0_17_1 => true
  | .acInter_0_18_1 => true
  | .acInter_0_19_1 => true
  | .acInter_0_20_1 => true
  | .acInter_0_21_1 => true
  | .acInter_0_22_1 => true
  | .acInter_0_23_1 => true
  | .acInter_0_24_1 => true
  | .acInter_0_25_1 => true
  | .acInter_0_26_1 => true
  | .acInter_1_0_1 => true
  | .acInter_1_0_2 => true
  | .acInter_1_0_3 => true
  | .acInter_1_1_1 => true
  | .acInter_1_1_2 => true
  | .acInter_1_2_1 => true
  | .acInter_1_3_1 => true
  | .acInter_1_4_1 => true
  | .acInter_1_5_1 => true
  | .acInter_1_6_1 => true
  | .acInter_1_7_1 => true
  | .acInter_1_8_1 => true
  | .acInter_1_9_1 => true
  | .acInter_1_10_1 => true
  | .acInter_1_11_1 => true
  | .acInter_1_12_1 => true
  | .acInter_1_13_1 => true
  | .acInter_1_14_1 => true
  | .acInter_1_15_1 => true
  | .acInter_1_16_1 => true
  | .acInter_1_17_1 => true
  | .acInter_1_18_1 => true
  | .acInter_1_19_1 => true
  | .acInter_1_20_1 => true
  | .acInter_1_21_1 => true
  | .acInter_1_22_1 => true
  | .acInter_1_23_1 => true
  | .acInter_1_24_1 => true
  | .acInter_1_25_1 => true
  | .acInter_1_26_1 => true
  | .acInter_1_27_1 => true
  | .acInter_1_28_1 => true
  | .acInter_1_29_1 => true
  | .acInter_1_30_1 => true
  | .acInter_1_31_1 => true
  | .acInter_1_32_1 => true
  | .acInter_1_33_1 => true
  | .acInter_1_34_1 => true
  | .acInter_1_35_1 => true
  | .acInter_1_36_1 => true
  | .acInter_1_37_1 => true
  | .acInter_1_38_1 => true
  | .acInter_1_39_1 => true
  | .acInter_1_40_1 => true

end Sys2Proof
end

