-- ==== Sys2Proof/Decode.lean ====
section
/-! DEFINITION. Decoding and encoding of the bitstream instructions (spec/30_encoding.md,
spec/41_vlc_mb_header.md, spec/42_vlc_coefficients.md): the codeword tables, the reads that parse one
instruction from the bits ahead of `BP`, and the encoder, written row by row from
spec/opcode_table.json. A parse that fails says how many bits its successful reads took, because those
stay consumed (R470). -/

namespace Sys2Proof

/-! ## Bits -/

/-- The unsigned number whose binary digits are `bs`, first bit most significant (R11). -/
def bitsVal (bs : List Bool) : Nat :=
  match bs with
  | [] => 0
  | b :: rest => b.toNat * 2 ^ rest.length + bitsVal rest

/-- The `n` low bits of `v`, most significant first (R11). -/
def toBits (n v : Nat) : List Bool :=
  match n with
  | 0 => []
  | n + 1 => v.testBit n :: toBits n v

/-! ## Codeword tables

One row per codeword (R103): the codeword as its bits in reading order, the symbol, and the
instruction the row stands for. -/

/-- Symbol of the MCBPC tables: a macroblock type with `cbpc`, or stuffing (R160). -/
inductive Mcbpc where
  | mb (mode : MbMode) (cbpc : BitVec 2)
  | stuffing
  deriving DecidableEq, Repr

/-- A row of an MCBPC table. -/
structure McbpcRow where
  code : List Bool
  sym : Mcbpc
  ctor : Instr

/-- A row of the CBPY table: the intra value (R162). -/
structure CbpyRow where
  code : List Bool
  intra : BitVec 4
  ctor : Instr

/-- A row of the MVD table: the magnitude, and the instruction from f_code, sign and residual (R174). -/
structure MvdRow where
  code : List Bool
  mag : Nat
  ctor : Nat → Bool → Nat → Instr

/-- A row of a DC size table: the size, and the instruction from the value bits and the marker (R200). -/
structure DcRow where
  code : List Bool
  size : Nat
  ctor : Nat → Bool → Instr

/-- A row of an AC event table: its number, the event with the level's magnitude, and the
instruction (R205). -/
structure AcRow where
  num : Fin 102
  code : List Bool
  last : Bool
  run : Nat
  level : Nat
  ctor : Instr

/-- What a `MODB` codeword says (R180). -/
inductive Modb where
  | directNoneMv
  | typeOnly
  | typeAndCbpb
  deriving DecidableEq, Repr

/-- A row of the MODB table. -/
structure ModbRow where
  code : List Bool
  sym : Modb
  ctor : Instr

/-- A row of the BMBTYPE table (R181). -/
structure BmbtypeRow where
  code : List Bool
  btype : BType
  ctor : Instr

/-- A row of the DBQUANT table, or of the four `dquant` codes: the change of the quantizer. -/
structure QuantRow where
  code : List Bool
  delta : Int
  ctor : Instr

/-- A row of the sprite-trajectory prefixes: `len` zeros and a 1, and the instruction from the value (R360). -/
structure TrajRow where
  code : List Bool
  len : Nat
  ctor : Nat → Instr

/-- `MCBPC_I`, R160. -/
def mcbpcITable : List McbpcRow :=
  [ ⟨[true], .mb .intra 0#2, .mcbpcI_3_0⟩,
    ⟨[false, false, true], .mb .intra 1#2, .mcbpcI_3_1⟩,
    ⟨[false, true, false], .mb .intra 2#2, .mcbpcI_3_2⟩,
    ⟨[false, true, true], .mb .intra 3#2, .mcbpcI_3_3⟩,
    ⟨[false, false, false, true], .mb .intraQ 0#2, .mcbpcI_4_0⟩,
    ⟨[false, false, false, false, false, true], .mb .intraQ 1#2, .mcbpcI_4_1⟩,
    ⟨[false, false, false, false, true, false], .mb .intraQ 2#2, .mcbpcI_4_2⟩,
    ⟨[false, false, false, false, true, true], .mb .intraQ 3#2, .mcbpcI_4_3⟩,
    ⟨[false, false, false, false, false, false, false, false, true], .stuffing, .mcbpcI_stuff⟩ ]

/-- `MCBPC_P`, R161. -/
def mcbpcPTable : List McbpcRow :=
  [ ⟨[true], .mb .inter 0#2, .mcbpcP_0_0⟩,
    ⟨[false, false, true, true], .mb .inter 1#2, .mcbpcP_0_1⟩,
    ⟨[false, false, true, false], .mb .inter 2#2, .mcbpcP_0_2⟩,
    ⟨[false, false, false, true, false, true], .mb .inter 3#2, .mcbpcP_0_3⟩,
    ⟨[false, true, true], .mb .interQ 0#2, .mcbpcP_1_0⟩,
    ⟨[false, false, false, false, true, true, true], .mb .interQ 1#2, .mcbpcP_1_1⟩,
    ⟨[false, false, false, false, true, true, false], .mb .interQ 2#2, .mcbpcP_1_2⟩,
    ⟨[false, false, false, false, false, false, true, false, true], .mb .interQ 3#2, .mcbpcP_1_3⟩,
    ⟨[false, true, false], .mb .inter4V 0#2, .mcbpcP_2_0⟩,
    ⟨[false, false, false, false, true, false, true], .mb .inter4V 1#2, .mcbpcP_2_1⟩,
    ⟨[false, false, false, false, true, false, false], .mb .inter4V 2#2, .mcbpcP_2_2⟩,
    ⟨[false, false, false, false, false, true, false, true], .mb .inter4V 3#2, .mcbpcP_2_3⟩,
    ⟨[false, false, false, true, true], .mb .intra 0#2, .mcbpcP_3_0⟩,
    ⟨[false, false, false, false, false, true, false, false], .mb .intra 1#2, .mcbpcP_3_1⟩,
    ⟨[false, false, false, false, false, false, true, true], .mb .intra 2#2, .mcbpcP_3_2⟩,
    ⟨[false, false, false, false, false, true, true], .mb .intra 3#2, .mcbpcP_3_3⟩,
    ⟨[false, false, false, true, false, false], .mb .intraQ 0#2, .mcbpcP_4_0⟩,
    ⟨[false, false, false, false, false, false, true, false, false], .mb .intraQ 1#2, .mcbpcP_4_1⟩,
    ⟨[false, false, false, false, false, false, false, true, true], .mb .intraQ 2#2, .mcbpcP_4_2⟩,
    ⟨[false, false, false, false, false, false, false, true, false], .mb .intraQ 3#2, .mcbpcP_4_3⟩,
    ⟨[false, false, false, false, false, false, false, false, true], .stuffing, .mcbpcP_stuff⟩ ]

/-- `CBPY`, R162. -/
def cbpyTable : List CbpyRow :=
  [ ⟨[false, false, true, true], 0#4, .cbpy_0⟩,
    ⟨[false, false, true, false, true], 1#4, .cbpy_1⟩,
    ⟨[false, false, true, false, false], 2#4, .cbpy_2⟩,
    ⟨[true, false, false, true], 3#4, .cbpy_3⟩,
    ⟨[false, false, false, true, true], 4#4, .cbpy_4⟩,
    ⟨[false, true, true, true], 5#4, .cbpy_5⟩,
    ⟨[false, false, false, false, true, false], 6#4, .cbpy_6⟩,
    ⟨[true, false, true, true], 7#4, .cbpy_7⟩,
    ⟨[false, false, false, true, false], 8#4, .cbpy_8⟩,
    ⟨[false, false, false, false, true, true], 9#4, .cbpy_9⟩,
    ⟨[false, true, false, true], 10#4, .cbpy_10⟩,
    ⟨[true, false, true, false], 11#4, .cbpy_11⟩,
    ⟨[false, true, false, false], 12#4, .cbpy_12⟩,
    ⟨[true, false, false, false], 13#4, .cbpy_13⟩,
    ⟨[false, true, true, false], 14#4, .cbpy_14⟩,
    ⟨[true, true], 15#4, .cbpy_15⟩ ]

/-- `MVD`, R174. -/
def mvdTable : List MvdRow :=
  [ ⟨[true], 0, fun _ _ _ => .mvd_0⟩,
    ⟨[false, true], 1, fun f s res => .mvd_1 f s res⟩,
    ⟨[false, false, true], 2, fun f s res => .mvd_2 f s res⟩,
    ⟨[false, false, false, true], 3, fun f s res => .mvd_3 f s res⟩,
    ⟨[false, false, false, false, true, true], 4, fun f s res => .mvd_4 f s res⟩,
    ⟨[false, false, false, false, true, false, true], 5, fun f s res => .mvd_5 f s res⟩,
    ⟨[false, false, false, false, true, false, false], 6, fun f s res => .mvd_6 f s res⟩,
    ⟨[false, false, false, false, false, true, true], 7, fun f s res => .mvd_7 f s res⟩,
    ⟨[false, false, false, false, false, true, false, true, true], 8, fun f s res => .mvd_8 f s res⟩,
    ⟨[false, false, false, false, false, true, false, true, false], 9, fun f s res => .mvd_9 f s res⟩,
    ⟨[false, false, false, false, false, true, false, false, true], 10, fun f s res => .mvd_10 f s res⟩,
    ⟨[false, false, false, false, false, true, false, false, false, true], 11, fun f s res => .mvd_11 f s res⟩,
    ⟨[false, false, false, false, false, true, false, false, false, false], 12, fun f s res => .mvd_12 f s res⟩,
    ⟨[false, false, false, false, false, false, true, true, true, true], 13, fun f s res => .mvd_13 f s res⟩,
    ⟨[false, false, false, false, false, false, true, true, true, false], 14, fun f s res => .mvd_14 f s res⟩,
    ⟨[false, false, false, false, false, false, true, true, false, true], 15, fun f s res => .mvd_15 f s res⟩,
    ⟨[false, false, false, false, false, false, true, true, false, false], 16, fun f s res => .mvd_16 f s res⟩,
    ⟨[false, false, false, false, false, false, true, false, true, true], 17, fun f s res => .mvd_17 f s res⟩,
    ⟨[false, false, false, false, false, false, true, false, true, false], 18, fun f s res => .mvd_18 f s res⟩,
    ⟨[false, false, false, false, false, false, true, false, false, true], 19, fun f s res => .mvd_19 f s res⟩,
    ⟨[false, false, false, false, false, false, true, false, false, false], 20, fun f s res => .mvd_20 f s res⟩,
    ⟨[false, false, false, false, false, false, false, true, true, true], 21, fun f s res => .mvd_21 f s res⟩,
    ⟨[false, false, false, false, false, false, false, true, true, false], 22, fun f s res => .mvd_22 f s res⟩,
    ⟨[false, false, false, false, false, false, false, true, false, true], 23, fun f s res => .mvd_23 f s res⟩,
    ⟨[false, false, false, false, false, false, false, true, false, false], 24, fun f s res => .mvd_24 f s res⟩,
    ⟨[false, false, false, false, false, false, false, false, true, true, true], 25, fun f s res => .mvd_25 f s res⟩,
    ⟨[false, false, false, false, false, false, false, false, true, true, false], 26, fun f s res => .mvd_26 f s res⟩,
    ⟨[false, false, false, false, false, false, false, false, true, false, true], 27, fun f s res => .mvd_27 f s res⟩,
    ⟨[false, false, false, false, false, false, false, false, true, false, false], 28, fun f s res => .mvd_28 f s res⟩,
    ⟨[false, false, false, false, false, false, false, false, false, true, true], 29, fun f s res => .mvd_29 f s res⟩,
    ⟨[false, false, false, false, false, false, false, false, false, true, false], 30, fun f s res => .mvd_30 f s res⟩,
    ⟨[false, false, false, false, false, false, false, false, false, false, true, true], 31, fun f s res => .mvd_31 f s res⟩,
    ⟨[false, false, false, false, false, false, false, false, false, false, true, false], 32, fun f s res => .mvd_32 f s res⟩ ]

/-- `DCSZ_L`, R200. -/
def dcszLTable : List DcRow :=
  [ ⟨[false, true, true], 0, fun _ _ => .dcszL_0⟩,
    ⟨[true, true], 1, fun v _ => .dcszL_1 (BitVec.ofNat 1 v)⟩,
    ⟨[true, false], 2, fun v _ => .dcszL_2 (BitVec.ofNat 2 v)⟩,
    ⟨[false, true, false], 3, fun v _ => .dcszL_3 (BitVec.ofNat 3 v)⟩,
    ⟨[false, false, true], 4, fun v _ => .dcszL_4 (BitVec.ofNat 4 v)⟩,
    ⟨[false, false, false, true], 5, fun v _ => .dcszL_5 (BitVec.ofNat 5 v)⟩,
    ⟨[false, false, false, false, true], 6, fun v _ => .dcszL_6 (BitVec.ofNat 6 v)⟩,
    ⟨[false, false, false, false, false, true], 7, fun v _ => .dcszL_7 (BitVec.ofNat 7 v)⟩,
    ⟨[false, false, false, false, false, false, true], 8, fun v _ => .dcszL_8 (BitVec.ofNat 8 v)⟩,
    ⟨[false, false, false, false, false, false, false, true], 9, fun v m => .dcszL_9 (BitVec.ofNat 9 v) m⟩,
    ⟨[false, false, false, false, false, false, false, false, true], 10, fun v m => .dcszL_10 (BitVec.ofNat 10 v) m⟩,
    ⟨[false, false, false, false, false, false, false, false, false, true], 11, fun v m => .dcszL_11 (BitVec.ofNat 11 v) m⟩,
    ⟨[false, false, false, false, false, false, false, false, false, false, true], 12, fun v m => .dcszL_12 (BitVec.ofNat 12 v) m⟩ ]

/-- `DCSZ_C`, R201. -/
def dcszCTable : List DcRow :=
  [ ⟨[true, true], 0, fun _ _ => .dcszC_0⟩,
    ⟨[true, false], 1, fun v _ => .dcszC_1 (BitVec.ofNat 1 v)⟩,
    ⟨[false, true], 2, fun v _ => .dcszC_2 (BitVec.ofNat 2 v)⟩,
    ⟨[false, false, true], 3, fun v _ => .dcszC_3 (BitVec.ofNat 3 v)⟩,
    ⟨[false, false, false, true], 4, fun v _ => .dcszC_4 (BitVec.ofNat 4 v)⟩,
    ⟨[false, false, false, false, true], 5, fun v _ => .dcszC_5 (BitVec.ofNat 5 v)⟩,
    ⟨[false, false, false, false, false, true], 6, fun v _ => .dcszC_6 (BitVec.ofNat 6 v)⟩,
    ⟨[false, false, false, false, false, false, true], 7, fun v _ => .dcszC_7 (BitVec.ofNat 7 v)⟩,
    ⟨[false, false, false, false, false, false, false, true], 8, fun v _ => .dcszC_8 (BitVec.ofNat 8 v)⟩,
    ⟨[false, false, false, false, false, false, false, false, true], 9, fun v m => .dcszC_9 (BitVec.ofNat 9 v) m⟩,
    ⟨[false, false, false, false, false, false, false, false, false, true], 10, fun v m => .dcszC_10 (BitVec.ofNat 10 v) m⟩,
    ⟨[false, false, false, false, false, false, false, false, false, false, true], 11, fun v m => .dcszC_11 (BitVec.ofNat 11 v) m⟩,
    ⟨[false, false, false, false, false, false, false, false, false, false, false, true], 12, fun v m => .dcszC_12 (BitVec.ofNat 12 v) m⟩ ]

/-- Part 1 of the table below. -/
def acIntraTableA : List AcRow :=
  [ ⟨0, [true, false], false, 0, 1, .acIntra_0_0_1⟩,
    ⟨1, [true, true, false], false, 0, 2, .acIntra_0_0_2⟩,
    ⟨2, [true, true, true, true], false, 0, 3, .acIntra_0_0_3⟩,
    ⟨3, [false, true, true, false, true], false, 0, 4, .acIntra_0_0_4⟩,
    ⟨4, [false, true, true, false, false], false, 0, 5, .acIntra_0_0_5⟩,
    ⟨5, [false, true, false, true, false, true], false, 0, 6, .acIntra_0_0_6⟩,
    ⟨6, [false, true, false, false, true, true], false, 0, 7, .acIntra_0_0_7⟩,
    ⟨7, [false, true, false, false, true, false], false, 0, 8, .acIntra_0_0_8⟩,
    ⟨8, [false, false, true, false, true, true, true], false, 0, 9, .acIntra_0_0_9⟩,
    ⟨9, [false, false, false, true, true, true, true, true], false, 0, 10, .acIntra_0_0_10⟩,
    ⟨10, [false, false, false, true, true, true, true, false], false, 0, 11, .acIntra_0_0_11⟩,
    ⟨11, [false, false, false, true, true, true, false, true], false, 0, 12, .acIntra_0_0_12⟩,
    ⟨12, [false, false, false, true, false, false, true, false, true], false, 0, 13, .acIntra_0_0_13⟩,
    ⟨13, [false, false, false, true, false, false, true, false, false], false, 0, 14, .acIntra_0_0_14⟩,
    ⟨14, [false, false, false, true, false, false, false, true, true], false, 0, 15, .acIntra_0_0_15⟩,
    ⟨15, [false, false, false, true, false, false, false, false, true], false, 0, 16, .acIntra_0_0_16⟩,
    ⟨16, [false, false, false, false, true, false, false, false, false, true], false, 0, 17, .acIntra_0_0_17⟩,
    ⟨17, [false, false, false, false, true, false, false, false, false, false], false, 0, 18, .acIntra_0_0_18⟩,
    ⟨18, [false, false, false, false, false, false, true, true, true, true], false, 0, 19, .acIntra_0_0_19⟩,
    ⟨19, [false, false, false, false, false, false, true, true, true, false], false, 0, 20, .acIntra_0_0_20⟩,
    ⟨20, [false, false, false, false, false, false, false, false, true, true, true], false, 0, 21, .acIntra_0_0_21⟩,
    ⟨21, [false, false, false, false, false, false, false, false, true, true, false], false, 0, 22, .acIntra_0_0_22⟩,
    ⟨22, [false, false, false, false, false, true, false, false, false, false, false], false, 0, 23, .acIntra_0_0_23⟩,
    ⟨23, [false, false, false, false, false, true, false, false, false, false, true], false, 0, 24, .acIntra_0_0_24⟩,
    ⟨24, [false, false, false, false, false, true, false, true, false, false, false, false], false, 0, 25, .acIntra_0_0_25⟩,
    ⟨25, [false, false, false, false, false, true, false, true, false, false, false, true], false, 0, 26, .acIntra_0_0_26⟩,
    ⟨26, [false, false, false, false, false, true, false, true, false, false, true, false], false, 0, 27, .acIntra_0_0_27⟩,
    ⟨27, [true, true, true, false], false, 1, 1, .acIntra_0_1_1⟩,
    ⟨28, [false, true, false, true, false, false], false, 1, 2, .acIntra_0_1_2⟩,
    ⟨29, [false, false, true, false, true, true, false], false, 1, 3, .acIntra_0_1_3⟩,
    ⟨30, [false, false, false, true, true, true, false, false], false, 1, 4, .acIntra_0_1_4⟩,
    ⟨31, [false, false, false, true, false, false, false, false, false], false, 1, 5, .acIntra_0_1_5⟩,
    ⟨32, [false, false, false, false, true, true, true, true, true], false, 1, 6, .acIntra_0_1_6⟩,
    ⟨33, [false, false, false, false, false, false, true, true, false, true], false, 1, 7, .acIntra_0_1_7⟩ ]

/-- Part 2 of the table below. -/
def acIntraTableB : List AcRow :=
  [ ⟨34, [false, false, false, false, false, true, false, false, false, true, false], false, 1, 8, .acIntra_0_1_8⟩,
    ⟨35, [false, false, false, false, false, true, false, true, false, false, true, true], false, 1, 9, .acIntra_0_1_9⟩,
    ⟨36, [false, false, false, false, false, true, false, true, false, true, false, true], false, 1, 10, .acIntra_0_1_10⟩,
    ⟨37, [false, true, false, true, true], false, 2, 1, .acIntra_0_2_1⟩,
    ⟨38, [false, false, true, false, true, false, true], false, 2, 2, .acIntra_0_2_2⟩,
    ⟨39, [false, false, false, false, true, true, true, true, false], false, 2, 3, .acIntra_0_2_3⟩,
    ⟨40, [false, false, false, false, false, false, true, true, false, false], false, 2, 4, .acIntra_0_2_4⟩,
    ⟨41, [false, false, false, false, false, true, false, true, false, true, true, false], false, 2, 5, .acIntra_0_2_5⟩,
    ⟨42, [false, true, false, false, false, true], false, 3, 1, .acIntra_0_3_1⟩,
    ⟨43, [false, false, false, true, true, false, true, true], false, 3, 2, .acIntra_0_3_2⟩,
    ⟨44, [false, false, false, false, true, true, true, false, true], false, 3, 3, .acIntra_0_3_3⟩,
    ⟨45, [false, false, false, false, false, false, true, false, true, true], false, 3, 4, .acIntra_0_3_4⟩,
    ⟨46, [false, true, false, false, false, false], false, 4, 1, .acIntra_0_4_1⟩,
    ⟨47, [false, false, false, true, false, false, false, true, false], false, 4, 2, .acIntra_0_4_2⟩,
    ⟨48, [false, false, false, false, false, false, true, false, true, false], false, 4, 3, .acIntra_0_4_3⟩,
    ⟨49, [false, false, true, true, false, true], false, 5, 1, .acIntra_0_5_1⟩,
    ⟨50, [false, false, false, false, true, true, true, false, false], false, 5, 2, .acIntra_0_5_2⟩,
    ⟨51, [false, false, false, false, false, false, true, false, false, false], false, 5, 3, .acIntra_0_5_3⟩,
    ⟨52, [false, false, true, false, false, true, false], false, 6, 1, .acIntra_0_6_1⟩,
    ⟨53, [false, false, false, false, true, true, false, true, true], false, 6, 2, .acIntra_0_6_2⟩,
    ⟨54, [false, false, false, false, false, true, false, true, false, true, false, false], false, 6, 3, .acIntra_0_6_3⟩,
    ⟨55, [false, false, true, false, true, false, false], false, 7, 1, .acIntra_0_7_1⟩,
    ⟨56, [false, false, false, false, true, true, false, true, false], false, 7, 2, .acIntra_0_7_2⟩,
    ⟨57, [false, false, false, false, false, true, false, true, false, true, true, true], false, 7, 3, .acIntra_0_7_3⟩,
    ⟨58, [false, false, false, true, true, false, false, true], false, 8, 1, .acIntra_0_8_1⟩,
    ⟨59, [false, false, false, false, false, false, true, false, false, true], false, 8, 2, .acIntra_0_8_2⟩,
    ⟨60, [false, false, false, true, true, false, false, false], false, 9, 1, .acIntra_0_9_1⟩,
    ⟨61, [false, false, false, false, false, true, false, false, false, true, true], false, 9, 2, .acIntra_0_9_2⟩,
    ⟨62, [false, false, false, true, false, true, true, true], false, 10, 1, .acIntra_0_10_1⟩,
    ⟨63, [false, false, false, false, true, true, false, false, true], false, 11, 1, .acIntra_0_11_1⟩,
    ⟨64, [false, false, false, false, true, true, false, false, false], false, 12, 1, .acIntra_0_12_1⟩,
    ⟨65, [false, false, false, false, false, false, false, true, true, true], false, 13, 1, .acIntra_0_13_1⟩,
    ⟨66, [false, false, false, false, false, true, false, true, true, false, false, false], false, 14, 1, .acIntra_0_14_1⟩,
    ⟨67, [false, true, true, true], true, 0, 1, .acIntra_1_0_1⟩ ]

/-- Part 3 of the table below. -/
def acIntraTableC : List AcRow :=
  [ ⟨68, [false, false, true, true, false, false], true, 0, 2, .acIntra_1_0_2⟩,
    ⟨69, [false, false, false, true, false, true, true, false], true, 0, 3, .acIntra_1_0_3⟩,
    ⟨70, [false, false, false, false, true, false, true, true, true], true, 0, 4, .acIntra_1_0_4⟩,
    ⟨71, [false, false, false, false, false, false, false, true, true, false], true, 0, 5, .acIntra_1_0_5⟩,
    ⟨72, [false, false, false, false, false, false, false, false, true, false, true], true, 0, 6, .acIntra_1_0_6⟩,
    ⟨73, [false, false, false, false, false, false, false, false, true, false, false], true, 0, 7, .acIntra_1_0_7⟩,
    ⟨74, [false, false, false, false, false, true, false, true, true, false, false, true], true, 0, 8, .acIntra_1_0_8⟩,
    ⟨75, [false, false, true, true, true, true], true, 1, 1, .acIntra_1_1_1⟩,
    ⟨76, [false, false, false, false, true, false, true, true, false], true, 1, 2, .acIntra_1_1_2⟩,
    ⟨77, [false, false, false, false, false, false, false, true, false, true], true, 1, 3, .acIntra_1_1_3⟩,
    ⟨78, [false, false, true, true, true, false], true, 2, 1, .acIntra_1_2_1⟩,
    ⟨79, [false, false, false, false, false, false, false, true, false, false], true, 2, 2, .acIntra_1_2_2⟩,
    ⟨80, [false, false, true, false, false, false, true], true, 3, 1, .acIntra_1_3_1⟩,
    ⟨81, [false, false, false, false, false, true, false, false, true, false, false], true, 3, 2, .acIntra_1_3_2⟩,
    ⟨82, [false, false, true, false, false, false, false], true, 4, 1, .acIntra_1_4_1⟩,
    ⟨83, [false, false, false, false, false, true, false, false, true, false, true], true, 4, 2, .acIntra_1_4_2⟩,
    ⟨84, [false, false, true, false, false, true, true], true, 5, 1, .acIntra_1_5_1⟩,
    ⟨85, [false, false, false, false, false, true, false, true, true, false, true, false], true, 5, 2, .acIntra_1_5_2⟩,
    ⟨86, [false, false, false, true, false, true, false, true], true, 6, 1, .acIntra_1_6_1⟩,
    ⟨87, [false, false, false, false, false, true, false, true, true, false, true, true], true, 6, 2, .acIntra_1_6_2⟩,
    ⟨88, [false, false, false, true, false, true, false, false], true, 7, 1, .acIntra_1_7_1⟩,
    ⟨89, [false, false, false, true, false, false, true, true], true, 8, 1, .acIntra_1_8_1⟩,
    ⟨90, [false, false, false, true, true, false, true, false], true, 9, 1, .acIntra_1_9_1⟩,
    ⟨91, [false, false, false, false, true, false, true, false, true], true, 10, 1, .acIntra_1_10_1⟩,
    ⟨92, [false, false, false, false, true, false, true, false, false], true, 11, 1, .acIntra_1_11_1⟩,
    ⟨93, [false, false, false, false, true, false, false, true, true], true, 12, 1, .acIntra_1_12_1⟩,
    ⟨94, [false, false, false, false, true, false, false, true, false], true, 13, 1, .acIntra_1_13_1⟩,
    ⟨95, [false, false, false, false, true, false, false, false, true], true, 14, 1, .acIntra_1_14_1⟩,
    ⟨96, [false, false, false, false, false, true, false, false, true, true, false], true, 15, 1, .acIntra_1_15_1⟩,
    ⟨97, [false, false, false, false, false, true, false, false, true, true, true], true, 16, 1, .acIntra_1_16_1⟩,
    ⟨98, [false, false, false, false, false, true, false, true, true, true, false, false], true, 17, 1, .acIntra_1_17_1⟩,
    ⟨99, [false, false, false, false, false, true, false, true, true, true, false, true], true, 18, 1, .acIntra_1_18_1⟩,
    ⟨100, [false, false, false, false, false, true, false, true, true, true, true, false], true, 19, 1, .acIntra_1_19_1⟩,
    ⟨101, [false, false, false, false, false, true, false, true, true, true, true, true], true, 20, 1, .acIntra_1_20_1⟩ ]

/-- `AC_INTRA`, R206: the 102 events. -/
def acIntraTable : List AcRow :=
  acIntraTableA ++ acIntraTableB ++ acIntraTableC

/-- Part 1 of the table below. -/
def acInterTableA : List AcRow :=
  [ ⟨0, [true, false], false, 0, 1, .acInter_0_0_1⟩,
    ⟨1, [true, true, true, true], false, 0, 2, .acInter_0_0_2⟩,
    ⟨2, [false, true, false, true, false, true], false, 0, 3, .acInter_0_0_3⟩,
    ⟨3, [false, false, true, false, true, true, true], false, 0, 4, .acInter_0_0_4⟩,
    ⟨4, [false, false, false, true, true, true, true, true], false, 0, 5, .acInter_0_0_5⟩,
    ⟨5, [false, false, false, true, false, false, true, false, true], false, 0, 6, .acInter_0_0_6⟩,
    ⟨6, [false, false, false, true, false, false, true, false, false], false, 0, 7, .acInter_0_0_7⟩,
    ⟨7, [false, false, false, false, true, false, false, false, false, true], false, 0, 8, .acInter_0_0_8⟩,
    ⟨8, [false, false, false, false, true, false, false, false, false, false], false, 0, 9, .acInter_0_0_9⟩,
    ⟨9, [false, false, false, false, false, false, false, false, true, true, true], false, 0, 10, .acInter_0_0_10⟩,
    ⟨10, [false, false, false, false, false, false, false, false, true, true, false], false, 0, 11, .acInter_0_0_11⟩,
    ⟨11, [false, false, false, false, false, true, false, false, false, false, false], false, 0, 12, .acInter_0_0_12⟩,
    ⟨12, [true, true, false], false, 1, 1, .acInter_0_1_1⟩,
    ⟨13, [false, true, false, true, false, false], false, 1, 2, .acInter_0_1_2⟩,
    ⟨14, [false, false, false, true, true, true, true, false], false, 1, 3, .acInter_0_1_3⟩,
    ⟨15, [false, false, false, false, false, false, true, true, true, true], false, 1, 4, .acInter_0_1_4⟩,
    ⟨16, [false, false, false, false, false, true, false, false, false, false, true], false, 1, 5, .acInter_0_1_5⟩,
    ⟨17, [false, false, false, false, false, true, false, true, false, false, false, false], false, 1, 6, .acInter_0_1_6⟩,
    ⟨18, [true, true, true, false], false, 2, 1, .acInter_0_2_1⟩,
    ⟨19, [false, false, false, true, true, true, false, true], false, 2, 2, .acInter_0_2_2⟩,
    ⟨20, [false, false, false, false, false, false, true, true, true, false], false, 2, 3, .acInter_0_2_3⟩,
    ⟨21, [false, false, false, false, false, true, false, true, false, false, false, true], false, 2, 4, .acInter_0_2_4⟩,
    ⟨22, [false, true, true, false, true], false, 3, 1, .acInter_0_3_1⟩,
    ⟨23, [false, false, false, true, false, false, false, true, true], false, 3, 2, .acInter_0_3_2⟩,
    ⟨24, [false, false, false, false, false, false, true, true, false, true], false, 3, 3, .acInter_0_3_3⟩,
    ⟨25, [false, true, true, false, false], false, 4, 1, .acInter_0_4_1⟩,
    ⟨26, [false, false, false, true, false, false, false, true, false], false, 4, 2, .acInter_0_4_2⟩,
    ⟨27, [false, false, false, false, false, true, false, true, false, false, true, false], false, 4, 3, .acInter_0_4_3⟩,
    ⟨28, [false, true, false, true, true], false, 5, 1, .acInter_0_5_1⟩,
    ⟨29, [false, false, false, false, false, false, true, true, false, false], false, 5, 2, .acInter_0_5_2⟩,
    ⟨30, [false, false, false, false, false, true, false, true, false, false, true, true], false, 5, 3, .acInter_0_5_3⟩,
    ⟨31, [false, true, false, false, true, true], false, 6, 1, .acInter_0_6_1⟩,
    ⟨32, [false, false, false, false, false, false, true, false, true, true], false, 6, 2, .acInter_0_6_2⟩,
    ⟨33, [false, false, false, false, false, true, false, true, false, true, false, false], false, 6, 3, .acInter_0_6_3⟩ ]

/-- Part 2 of the table below. -/
def acInterTableB : List AcRow :=
  [ ⟨34, [false, true, false, false, true, false], false, 7, 1, .acInter_0_7_1⟩,
    ⟨35, [false, false, false, false, false, false, true, false, true, false], false, 7, 2, .acInter_0_7_2⟩,
    ⟨36, [false, true, false, false, false, true], false, 8, 1, .acInter_0_8_1⟩,
    ⟨37, [false, false, false, false, false, false, true, false, false, true], false, 8, 2, .acInter_0_8_2⟩,
    ⟨38, [false, true, false, false, false, false], false, 9, 1, .acInter_0_9_1⟩,
    ⟨39, [false, false, false, false, false, false, true, false, false, false], false, 9, 2, .acInter_0_9_2⟩,
    ⟨40, [false, false, true, false, true, true, false], false, 10, 1, .acInter_0_10_1⟩,
    ⟨41, [false, false, false, false, false, true, false, true, false, true, false, true], false, 10, 2, .acInter_0_10_2⟩,
    ⟨42, [false, false, true, false, true, false, true], false, 11, 1, .acInter_0_11_1⟩,
    ⟨43, [false, false, true, false, true, false, false], false, 12, 1, .acInter_0_12_1⟩,
    ⟨44, [false, false, false, true, true, true, false, false], false, 13, 1, .acInter_0_13_1⟩,
    ⟨45, [false, false, false, true, true, false, true, true], false, 14, 1, .acInter_0_14_1⟩,
    ⟨46, [false, false, false, true, false, false, false, false, true], false, 15, 1, .acInter_0_15_1⟩,
    ⟨47, [false, false, false, true, false, false, false, false, false], false, 16, 1, .acInter_0_16_1⟩,
    ⟨48, [false, false, false, false, true, true, true, true, true], false, 17, 1, .acInter_0_17_1⟩,
    ⟨49, [false, false, false, false, true, true, true, true, false], false, 18, 1, .acInter_0_18_1⟩,
    ⟨50, [false, false, false, false, true, true, true, false, true], false, 19, 1, .acInter_0_19_1⟩,
    ⟨51, [false, false, false, false, true, true, true, false, false], false, 20, 1, .acInter_0_20_1⟩,
    ⟨52, [false, false, false, false, true, true, false, true, true], false, 21, 1, .acInter_0_21_1⟩,
    ⟨53, [false, false, false, false, true, true, false, true, false], false, 22, 1, .acInter_0_22_1⟩,
    ⟨54, [false, false, false, false, false, true, false, false, false, true, false], false, 23, 1, .acInter_0_23_1⟩,
    ⟨55, [false, false, false, false, false, true, false, false, false, true, true], false, 24, 1, .acInter_0_24_1⟩,
    ⟨56, [false, false, false, false, false, true, false, true, false, true, true, false], false, 25, 1, .acInter_0_25_1⟩,
    ⟨57, [false, false, false, false, false, true, false, true, false, true, true, true], false, 26, 1, .acInter_0_26_1⟩,
    ⟨58, [false, true, true, true], true, 0, 1, .acInter_1_0_1⟩,
    ⟨59, [false, false, false, false, true, true, false, false, true], true, 0, 2, .acInter_1_0_2⟩,
    ⟨60, [false, false, false, false, false, false, false, false, true, false, true], true, 0, 3, .acInter_1_0_3⟩,
    ⟨61, [false, false, true, true, true, true], true, 1, 1, .acInter_1_1_1⟩,
    ⟨62, [false, false, false, false, false, false, false, false, true, false, false], true, 1, 2, .acInter_1_1_2⟩,
    ⟨63, [false, false, true, true, true, false], true, 2, 1, .acInter_1_2_1⟩,
    ⟨64, [false, false, true, true, false, true], true, 3, 1, .acInter_1_3_1⟩,
    ⟨65, [false, false, true, true, false, false], true, 4, 1, .acInter_1_4_1⟩,
    ⟨66, [false, false, true, false, false, true, true], true, 5, 1, .acInter_1_5_1⟩,
    ⟨67, [false, false, true, false, false, true, false], true, 6, 1, .acInter_1_6_1⟩ ]

/-- Part 3 of the table below. -/
def acInterTableC : List AcRow :=
  [ ⟨68, [false, false, true, false, false, false, true], true, 7, 1, .acInter_1_7_1⟩,
    ⟨69, [false, false, true, false, false, false, false], true, 8, 1, .acInter_1_8_1⟩,
    ⟨70, [false, false, false, true, true, false, true, false], true, 9, 1, .acInter_1_9_1⟩,
    ⟨71, [false, false, false, true, true, false, false, true], true, 10, 1, .acInter_1_10_1⟩,
    ⟨72, [false, false, false, true, true, false, false, false], true, 11, 1, .acInter_1_11_1⟩,
    ⟨73, [false, false, false, true, false, true, true, true], true, 12, 1, .acInter_1_12_1⟩,
    ⟨74, [false, false, false, true, false, true, true, false], true, 13, 1, .acInter_1_13_1⟩,
    ⟨75, [false, false, false, true, false, true, false, true], true, 14, 1, .acInter_1_14_1⟩,
    ⟨76, [false, false, false, true, false, true, false, false], true, 15, 1, .acInter_1_15_1⟩,
    ⟨77, [false, false, false, true, false, false, true, true], true, 16, 1, .acInter_1_16_1⟩,
    ⟨78, [false, false, false, false, true, true, false, false, false], true, 17, 1, .acInter_1_17_1⟩,
    ⟨79, [false, false, false, false, true, false, true, true, true], true, 18, 1, .acInter_1_18_1⟩,
    ⟨80, [false, false, false, false, true, false, true, true, false], true, 19, 1, .acInter_1_19_1⟩,
    ⟨81, [false, false, false, false, true, false, true, false, true], true, 20, 1, .acInter_1_20_1⟩,
    ⟨82, [false, false, false, false, true, false, true, false, false], true, 21, 1, .acInter_1_21_1⟩,
    ⟨83, [false, false, false, false, true, false, false, true, true], true, 22, 1, .acInter_1_22_1⟩,
    ⟨84, [false, false, false, false, true, false, false, true, false], true, 23, 1, .acInter_1_23_1⟩,
    ⟨85, [false, false, false, false, true, false, false, false, true], true, 24, 1, .acInter_1_24_1⟩,
    ⟨86, [false, false, false, false, false, false, false, true, true, true], true, 25, 1, .acInter_1_25_1⟩,
    ⟨87, [false, false, false, false, false, false, false, true, true, false], true, 26, 1, .acInter_1_26_1⟩,
    ⟨88, [false, false, false, false, false, false, false, true, false, true], true, 27, 1, .acInter_1_27_1⟩,
    ⟨89, [false, false, false, false, false, false, false, true, false, false], true, 28, 1, .acInter_1_28_1⟩,
    ⟨90, [false, false, false, false, false, true, false, false, true, false, false], true, 29, 1, .acInter_1_29_1⟩,
    ⟨91, [false, false, false, false, false, true, false, false, true, false, true], true, 30, 1, .acInter_1_30_1⟩,
    ⟨92, [false, false, false, false, false, true, false, false, true, true, false], true, 31, 1, .acInter_1_31_1⟩,
    ⟨93, [false, false, false, false, false, true, false, false, true, true, true], true, 32, 1, .acInter_1_32_1⟩,
    ⟨94, [false, false, false, false, false, true, false, true, true, false, false, false], true, 33, 1, .acInter_1_33_1⟩,
    ⟨95, [false, false, false, false, false, true, false, true, true, false, false, true], true, 34, 1, .acInter_1_34_1⟩,
    ⟨96, [false, false, false, false, false, true, false, true, true, false, true, false], true, 35, 1, .acInter_1_35_1⟩,
    ⟨97, [false, false, false, false, false, true, false, true, true, false, true, true], true, 36, 1, .acInter_1_36_1⟩,
    ⟨98, [false, false, false, false, false, true, false, true, true, true, false, false], true, 37, 1, .acInter_1_37_1⟩,
    ⟨99, [false, false, false, false, false, true, false, true, true, true, false, true], true, 38, 1, .acInter_1_38_1⟩,
    ⟨100, [false, false, false, false, false, true, false, true, true, true, true, false], true, 39, 1, .acInter_1_39_1⟩,
    ⟨101, [false, false, false, false, false, true, false, true, true, true, true, true], true, 40, 1, .acInter_1_40_1⟩ ]

/-- `AC_INTER`, R207: the 102 events. -/
def acInterTable : List AcRow :=
  acInterTableA ++ acInterTableB ++ acInterTableC

/-- `MODB`, R180. -/
def modbTable : List ModbRow :=
  [ ⟨[true], .directNoneMv, .modb_1⟩,
    ⟨[false, true], .typeOnly, .modb_01⟩,
    ⟨[false, false], .typeAndCbpb, .modb_00⟩ ]

/-- `BMBTYPE`, R181. -/
def bmbtypeTable : List BmbtypeRow :=
  [ ⟨[true], .direct, .bmbtype_direct⟩,
    ⟨[false, true], .interpolate, .bmbtype_interpolate⟩,
    ⟨[false, false, true], .backward, .bmbtype_backward⟩,
    ⟨[false, false, false, true], .forward, .bmbtype_forward⟩ ]

/-- `DBQUANT`, R183. -/
def dbquantTable : List QuantRow :=
  [ ⟨[false], 0, .dbquant_0⟩,
    ⟨[true, false], -2, .dbquant_minus2⟩,
    ⟨[true, true], 2, .dbquant_plus2⟩ ]

/-- The four codes of `dquant`, R101 and R172. -/
def dquantTable : List QuantRow :=
  [ ⟨[false, false], -1, .dquant_00⟩,
    ⟨[false, true], -2, .dquant_01⟩,
    ⟨[true, false], 1, .dquant_10⟩,
    ⟨[true, true], 2, .dquant_11⟩ ]

/-- The thirteen prefixes of a sprite-trajectory component, R360. -/
def trajTable : List TrajRow :=
  [ ⟨[true], 0, fun _ => .traj_0⟩,
    ⟨[false, true], 1, fun v => .traj_1 (BitVec.ofNat 1 v)⟩,
    ⟨[false, false, true], 2, fun v => .traj_2 (BitVec.ofNat 2 v)⟩,
    ⟨[false, false, false, true], 3, fun v => .traj_3 (BitVec.ofNat 3 v)⟩,
    ⟨[false, false, false, false, true], 4, fun v => .traj_4 (BitVec.ofNat 4 v)⟩,
    ⟨[false, false, false, false, false, true], 5, fun v => .traj_5 (BitVec.ofNat 5 v)⟩,
    ⟨[false, false, false, false, false, false, true], 6, fun v => .traj_6 (BitVec.ofNat 6 v)⟩,
    ⟨[false, false, false, false, false, false, false, true], 7, fun v => .traj_7 (BitVec.ofNat 7 v)⟩,
    ⟨[false, false, false, false, false, false, false, false, true], 8, fun v => .traj_8 (BitVec.ofNat 8 v)⟩,
    ⟨[false, false, false, false, false, false, false, false, false, true], 9, fun v => .traj_9 (BitVec.ofNat 9 v)⟩,
    ⟨[false, false, false, false, false, false, false, false, false, false, true], 10, fun v => .traj_10 (BitVec.ofNat 10 v)⟩,
    ⟨[false, false, false, false, false, false, false, false, false, false, false, true], 11, fun v => .traj_11 (BitVec.ofNat 11 v)⟩,
    ⟨[false, false, false, false, false, false, false, false, false, false, false, false, true], 12, fun v => .traj_12 (BitVec.ofNat 12 v)⟩ ]

/-- The escape codeword `0000011` of both AC tables (R205). -/
def escapeCode : List Bool := [false, false, false, false, false, true, true]

/-- Which of the two AC tables is meant (R205). -/
inductive AcSel where
  | intra
  | inter
  deriving DecidableEq, Repr

/-- The rows of an AC table. -/
def AcSel.rows (t : AcSel) : List AcRow :=
  match t with
  | .intra => acIntraTable
  | .inter => acInterTable

/-- The row of a given number: rows are numbered as they stand in the table. -/
def AcSel.row (t : AcSel) (n : Fin 102) : AcRow :=
  match t with
  | .intra => acIntraTable.getD n.val ⟨0, [true, false], false, 0, 1, .acIntra_0_0_1⟩
  | .inter => acInterTable.getD n.val ⟨0, [true, false], false, 0, 1, .acInter_0_0_1⟩

/-! ## Reads of the parser -/

/-- Why a parse fails, by name: the window ends inside a field or codeword, the bits start no codeword
of the table (R104, R120), an escape stands inside an escape (R215), or a trajectory prefix has more
than twelve zeros (R109). Each becomes `InvalidData` (R461). -/
inductive Reject where
  | windowEnds
  | noCodeword
  | escapeInEscape
  | runTooLong
  deriving DecidableEq, Repr

/-- The bits not yet read and the number of bits read so far. -/
structure Cursor where
  rest : List Bool
  used : Nat
  deriving DecidableEq, Repr

/-- A parser of bits. On failure the cursor stands after the last read that succeeded (R470). -/
abbrev Dec := EStateM Reject Cursor

/-- Moves the cursor over `n` bits. -/
def Cursor.skip (c : Cursor) (n : Nat) : Cursor := ⟨c.rest.drop n, c.used + n⟩

/-- Reads `n` bits as a number, all or nothing (R140). -/
def takeBits (n : Nat) : Dec Nat := fun c =>
  if n ≤ c.rest.length then .ok (bitsVal (c.rest.take n)) (c.skip n) else .error .windowEnds c

/-- Reads one bit. -/
def takeBit : Dec Bool := do
  let v ← takeBits 1
  return v == 1

/-- `Vlc(T)`, R104: the row of table `T` whose codeword stands at the cursor. All or nothing. As no
codeword is the head of another (R103), the first row that matches is the only one. -/
def vlc {α : Type} (code : α → List Bool) (t : List α) : Dec α := fun c =>
  match t.find? (fun r => (code r).isPrefixOf c.rest) with
  | some r => .ok r (c.skip (code r).length)
  | none =>
    if t.any (fun r => c.rest.isPrefixOf (code r)) then .error .windowEnds c else .error .noCodeword c

/-- Parse of the MVD format, R106: magnitude row, sign, residual of `f - 1` bits. -/
def parseMvd (f : Nat) : Dec (MvdRow × Bool × Nat) := do
  let r ← vlc MvdRow.code mvdTable
  if r.mag = 0 then
    return (r, false, 0)
  else
    let s ← takeBit
    let res ← takeBits (f - 1)
    return (r, s, res)

/-- Parse of the DC format, R107: size row, value bits, and the marker after a size of more than 8. -/
def parseDc (t : List DcRow) : Dec (DcRow × Nat × Bool) := do
  let r ← vlc DcRow.code t
  let v ← takeBits r.size
  if r.size > 8 then
    let m ← takeBit
    return (r, v, m)
  else
    return (r, v, true)

/-- What stands at the head of an AC instruction: a row of the table, whose sign bit is read next, or
one of the three escapes with all its fields (R212). -/
inductive AcForm where
  | row (r : AcRow)
  | esc1 (r : AcRow) (s : Bool)
  | esc2 (r : AcRow) (s : Bool)
  | esc3 (last : Bool) (run : BitVec 6) (m1 : Bool) (level : BitVec 12) (m2 : Bool)

/-- `Vlc` of an AC table: `none` is the escape codeword. -/
def acCode (o : Option AcRow) : List Bool :=
  match o with
  | none => escapeCode
  | some r => r.code

/-- The codeword inside an escape, `esc_inner` of R212: an escape there is rejected (R215). -/
def parseInner (t : AcSel) : Dec AcRow := do
  match ← vlc acCode (none :: t.rows.map some) with
  | some r => return r
  | none => throw .escapeInEscape

/-- Parse of one AC instruction, R212; the sign bit after a table row is left to its meaning. -/
def parseAc (t : AcSel) : Dec AcForm := do
  match ← vlc acCode (none :: t.rows.map some) with
  | some r => return .row r
  | none =>
    let e1 ← takeBit
    if e1 = false then
      let r ← parseInner t
      let s ← takeBit
      return .esc1 r s
    else
      let e2 ← takeBit
      if e2 = false then
        let r ← parseInner t
        let s ← takeBit
        return .esc2 r s
      else
        let last ← takeBit
        let run ← takeBits 6
        let m1 ← takeBit
        let level ← takeBits 12
        let m2 ← takeBit
        return .esc3 last (BitVec.ofNat 6 run) m1 (BitVec.ofNat 12 level) m2

/-- The unary prefix of R109: counts zeros up to the first 1, and fails at the thirteenth zero. `fuel`
is 13 at the call, more than any run of the loop needs. -/
def parsePrefix (fuel len : Nat) : Dec Nat := do
  match fuel with
  | 0 => throw .runTooLong
  | fuel + 1 =>
    let b ← takeBit
    if b then
      return len
    else if len + 1 > 12 then
      throw .runTooLong
    else
      parsePrefix fuel (len + 1)

/-- Parse of one sprite-trajectory component, R109. -/
def parseTraj : Dec (Nat × Nat) := do
  let len ← parsePrefix 13 0
  let v ← takeBits len
  return (len, v)

/-- The length of the run of `b` at the head of a list. -/
def runLength (b : Bool) (bs : List Bool) : Nat := (bs.takeWhile (fun c => c == b)).length

/-- Recognizes the pattern of a resync marker, R115: `0`, then `k` ones, `16 + f` zeros and a `1`.
Where the pattern ends on a byte boundary is a matter of `BP` and is checked by R146. -/
def parseResync : Dec (Nat × Nat) := fun c =>
  let k := runLength true (c.rest.drop 1)
  let z := runLength false (c.rest.drop (1 + k))
  if c.rest.head? = some false ∧ k ≤ 7 ∧ 16 ≤ z ∧ z ≤ 23 ∧ (c.rest.drop (1 + k + z)).head? = some true then
    .ok (k, z - 16) (c.skip (1 + k + z + 1))
  else .error .noCodeword c

/-- The head of a start code, bytes `00 00 01` (R114). -/
def startCodeHead : List Bool := toBits 24 1

/-- Recognizes a start code, R114: its four bytes as one read. Where they are not a start code, or the window ends
inside them, no bit is taken: R130 lists no change of `BP` by a start code (log entry 14). -/
def parseStartCode : Dec (BitVec 8) := fun c =>
  match takeBits 32 c with
  | .ok v d => if v / 256 = 1 then .ok (BitVec.ofNat 8 v) d else .error .noCodeword c
  | .error e _ => .error e c

/-- The instruction an AC form stands for. -/
def AcForm.instr (t : AcSel) (a : AcForm) : Instr :=
  match t, a with
  | _, .row r => r.ctor
  | .intra, .esc1 r s => .acIntra_esc1 r.num s
  | .intra, .esc2 r s => .acIntra_esc2 r.num s
  | .intra, .esc3 last run m1 level m2 => .acIntra_esc3 last run m1 level m2
  | .inter, .esc1 r s => .acInter_esc1 r.num s
  | .inter, .esc2 r s => .acInter_esc2 r.num s
  | .inter, .esc3 last run m1 level m2 => .acInter_esc3 last run m1 level m2

/-- The instruction of a trajectory component. -/
def trajInstr (len v : Nat) : Instr :=
  match trajTable.find? (fun r => r.len == len) with
  | some r => r.ctor v
  | none => .traj_0

/-- The numbers 0 to 7 as a marker's fields; larger ones do not arise (R115). -/
def low3 (n : Nat) : Fin 8 := ⟨n % 8, Nat.mod_lt _ (by decide)⟩

/-- Reads one instruction with a table (R102). -/
def parseInstr (t : Table) : Dec Instr :=
  match t with
  | .mcbpcI => do return (← vlc McbpcRow.code mcbpcITable).ctor
  | .mcbpcP => do return (← vlc McbpcRow.code mcbpcPTable).ctor
  | .cbpy => do return (← vlc CbpyRow.code cbpyTable).ctor
  | .mvd f => do
    let (r, s, res) ← parseMvd f
    return r.ctor f s res
  | .dcszL => do
    let (r, v, m) ← parseDc dcszLTable
    return r.ctor v m
  | .dcszC => do
    let (r, v, m) ← parseDc dcszCTable
    return r.ctor v m
  | .acIntra => do return (← parseAc .intra).instr .intra
  | .acInter => do return (← parseAc .inter).instr .inter
  | .modb => do return (← vlc ModbRow.code modbTable).ctor
  | .bmbtype => do return (← vlc BmbtypeRow.code bmbtypeTable).ctor
  | .dbquant => do return (← vlc QuantRow.code dbquantTable).ctor
  | .notCoded => do return .notCoded (← takeBit)
  | .acPred => do return .acPred (← takeBit)
  | .mcsel => do return .mcsel (← takeBit)
  | .dquant => do return (← vlc QuantRow.code dquantTable).ctor
  | .cbpb => do return .cbpb (BitVec.ofNat 6 (← takeBits 6))
  | .traj => do
    let (len, v) ← parseTraj
    return trajInstr len v
  | .sc => do return .sc (← parseStartCode)
  | .resync => do
    let (k, f) ← parseResync
    return .resync (low3 k) (low3 f)

/-- The result of decoding: an instruction and its length in bits, or a rejection by name with the
number of bits the reads before it took. -/
inductive Decoded where
  | ok (i : Instr) (len : Nat)
  | reject (why : Reject) (used : Nat)
  deriving DecidableEq, Repr

/-- Decodes the instruction at the head of `bits` with table `t`. Total on any bits. -/
def decode (t : Table) (bits : List Bool) : Decoded :=
  match parseInstr t ⟨bits, 0⟩ with
  | .ok i c => .ok i c.used
  | .error e c => .reject e c.used

/-! ## Encoding -/

/-- The bits of a bit-vector field, most significant first. -/
def fieldBits {n : Nat} (v : BitVec n) : List Bool := toBits n v.toNat

/-- The bits of an instruction in reading order, from the `encoding` column of
spec/opcode_table.json. A command or internal operation has none (format `CMD`, R100). For a row of an AC event table these are
the codeword; the sign bit follows it in the stream. -/
def encode (i : Instr) : List Bool :=
  match i with
  | .mcbpcI_3_0 => [true]
  | .mcbpcI_3_1 => [false, false, true]
  | .mcbpcI_3_2 => [false, true, false]
  | .mcbpcI_3_3 => [false, true, true]
  | .mcbpcI_4_0 => [false, false, false, true]
  | .mcbpcI_4_1 => [false, false, false, false, false, true]
  | .mcbpcI_4_2 => [false, false, false, false, true, false]
  | .mcbpcI_4_3 => [false, false, false, false, true, true]
  | .mcbpcI_stuff => [false, false, false, false, false, false, false, false, true]
  | .mcbpcP_0_0 => [true]
  | .mcbpcP_0_1 => [false, false, true, true]
  | .mcbpcP_0_2 => [false, false, true, false]
  | .mcbpcP_0_3 => [false, false, false, true, false, true]
  | .mcbpcP_1_0 => [false, true, true]
  | .mcbpcP_1_1 => [false, false, false, false, true, true, true]
  | .mcbpcP_1_2 => [false, false, false, false, true, true, false]
  | .mcbpcP_1_3 => [false, false, false, false, false, false, true, false, true]
  | .mcbpcP_2_0 => [false, true, false]
  | .mcbpcP_2_1 => [false, false, false, false, true, false, true]
  | .mcbpcP_2_2 => [false, false, false, false, true, false, false]
  | .mcbpcP_2_3 => [false, false, false, false, false, true, false, true]
  | .mcbpcP_3_0 => [false, false, false, true, true]
  | .mcbpcP_3_1 => [false, false, false, false, false, true, false, false]
  | .mcbpcP_3_2 => [false, false, false, false, false, false, true, true]
  | .mcbpcP_3_3 => [false, false, false, false, false, true, true]
  | .mcbpcP_4_0 => [false, false, false, true, false, false]
  | .mcbpcP_4_1 => [false, false, false, false, false, false, true, false, false]
  | .mcbpcP_4_2 => [false, false, false, false, false, false, false, true, true]
  | .mcbpcP_4_3 => [false, false, false, false, false, false, false, true, false]
  | .mcbpcP_stuff => [false, false, false, false, false, false, false, false, true]
  | .cbpy_0 => [false, false, true, true]
  | .cbpy_1 => [false, false, true, false, true]
  | .cbpy_2 => [false, false, true, false, false]
  | .cbpy_3 => [true, false, false, true]
  | .cbpy_4 => [false, false, false, true, true]
  | .cbpy_5 => [false, true, true, true]
  | .cbpy_6 => [false, false, false, false, true, false]
  | .cbpy_7 => [true, false, true, true]
  | .cbpy_8 => [false, false, false, true, false]
  | .cbpy_9 => [false, false, false, false, true, true]
  | .cbpy_10 => [false, true, false, true]
  | .cbpy_11 => [true, false, true, false]
  | .cbpy_12 => [false, true, false, false]
  | .cbpy_13 => [true, false, false, false]
  | .cbpy_14 => [false, true, true, false]
  | .cbpy_15 => [true, true]
  | .mvd_0 => [true]
  | .mvd_1 f s res => [false, true] ++ s :: toBits (f - 1) res
  | .mvd_2 f s res => [false, false, true] ++ s :: toBits (f - 1) res
  | .mvd_3 f s res => [false, false, false, true] ++ s :: toBits (f - 1) res
  | .mvd_4 f s res => [false, false, false, false, true, true] ++ s :: toBits (f - 1) res
  | .mvd_5 f s res => [false, false, false, false, true, false, true] ++ s :: toBits (f - 1) res
  | .mvd_6 f s res => [false, false, false, false, true, false, false] ++ s :: toBits (f - 1) res
  | .mvd_7 f s res => [false, false, false, false, false, true, true] ++ s :: toBits (f - 1) res
  | .mvd_8 f s res => [false, false, false, false, false, true, false, true, true] ++ s :: toBits (f - 1) res
  | .mvd_9 f s res => [false, false, false, false, false, true, false, true, false] ++ s :: toBits (f - 1) res
  | .mvd_10 f s res => [false, false, false, false, false, true, false, false, true] ++ s :: toBits (f - 1) res
  | .mvd_11 f s res => [false, false, false, false, false, true, false, false, false, true] ++ s :: toBits (f - 1) res
  | .mvd_12 f s res => [false, false, false, false, false, true, false, false, false, false] ++ s :: toBits (f - 1) res
  | .mvd_13 f s res => [false, false, false, false, false, false, true, true, true, true] ++ s :: toBits (f - 1) res
  | .mvd_14 f s res => [false, false, false, false, false, false, true, true, true, false] ++ s :: toBits (f - 1) res
  | .mvd_15 f s res => [false, false, false, false, false, false, true, true, false, true] ++ s :: toBits (f - 1) res
  | .mvd_16 f s res => [false, false, false, false, false, false, true, true, false, false] ++ s :: toBits (f - 1) res
  | .mvd_17 f s res => [false, false, false, false, false, false, true, false, true, true] ++ s :: toBits (f - 1) res
  | .mvd_18 f s res => [false, false, false, false, false, false, true, false, true, false] ++ s :: toBits (f - 1) res
  | .mvd_19 f s res => [false, false, false, false, false, false, true, false, false, true] ++ s :: toBits (f - 1) res
  | .mvd_20 f s res => [false, false, false, false, false, false, true, false, false, false] ++ s :: toBits (f - 1) res
  | .mvd_21 f s res => [false, false, false, false, false, false, false, true, true, true] ++ s :: toBits (f - 1) res
  | .mvd_22 f s res => [false, false, false, false, false, false, false, true, true, false] ++ s :: toBits (f - 1) res
  | .mvd_23 f s res => [false, false, false, false, false, false, false, true, false, true] ++ s :: toBits (f - 1) res
  | .mvd_24 f s res => [false, false, false, false, false, false, false, true, false, false] ++ s :: toBits (f - 1) res
  | .mvd_25 f s res => [false, false, false, false, false, false, false, false, true, true, true] ++ s :: toBits (f - 1) res
  | .mvd_26 f s res => [false, false, false, false, false, false, false, false, true, true, false] ++ s :: toBits (f - 1) res
  | .mvd_27 f s res => [false, false, false, false, false, false, false, false, true, false, true] ++ s :: toBits (f - 1) res
  | .mvd_28 f s res => [false, false, false, false, false, false, false, false, true, false, false] ++ s :: toBits (f - 1) res
  | .mvd_29 f s res => [false, false, false, false, false, false, false, false, false, true, true] ++ s :: toBits (f - 1) res
  | .mvd_30 f s res => [false, false, false, false, false, false, false, false, false, true, false] ++ s :: toBits (f - 1) res
  | .mvd_31 f s res => [false, false, false, false, false, false, false, false, false, false, true, true] ++ s :: toBits (f - 1) res
  | .mvd_32 f s res => [false, false, false, false, false, false, false, false, false, false, true, false] ++ s :: toBits (f - 1) res
  | .dcszL_0 => [false, true, true]
  | .dcszL_1 v => [true, true] ++ fieldBits v
  | .dcszL_2 v => [true, false] ++ fieldBits v
  | .dcszL_3 v => [false, true, false] ++ fieldBits v
  | .dcszL_4 v => [false, false, true] ++ fieldBits v
  | .dcszL_5 v => [false, false, false, true] ++ fieldBits v
  | .dcszL_6 v => [false, false, false, false, true] ++ fieldBits v
  | .dcszL_7 v => [false, false, false, false, false, true] ++ fieldBits v
  | .dcszL_8 v => [false, false, false, false, false, false, true] ++ fieldBits v
  | .dcszL_9 v m => [false, false, false, false, false, false, false, true] ++ fieldBits v ++ [m]
  | .dcszL_10 v m => [false, false, false, false, false, false, false, false, true] ++ fieldBits v ++ [m]
  | .dcszL_11 v m => [false, false, false, false, false, false, false, false, false, true] ++ fieldBits v ++ [m]
  | .dcszL_12 v m => [false, false, false, false, false, false, false, false, false, false, true] ++ fieldBits v ++ [m]
  | .dcszC_0 => [true, true]
  | .dcszC_1 v => [true, false] ++ fieldBits v
  | .dcszC_2 v => [false, true] ++ fieldBits v
  | .dcszC_3 v => [false, false, true] ++ fieldBits v
  | .dcszC_4 v => [false, false, false, true] ++ fieldBits v
  | .dcszC_5 v => [false, false, false, false, true] ++ fieldBits v
  | .dcszC_6 v => [false, false, false, false, false, true] ++ fieldBits v
  | .dcszC_7 v => [false, false, false, false, false, false, true] ++ fieldBits v
  | .dcszC_8 v => [false, false, false, false, false, false, false, true] ++ fieldBits v
  | .dcszC_9 v m => [false, false, false, false, false, false, false, false, true] ++ fieldBits v ++ [m]
  | .dcszC_10 v m => [false, false, false, false, false, false, false, false, false, true] ++ fieldBits v ++ [m]
  | .dcszC_11 v m => [false, false, false, false, false, false, false, false, false, false, true] ++ fieldBits v ++ [m]
  | .dcszC_12 v m => [false, false, false, false, false, false, false, false, false, false, false, true] ++ fieldBits v ++ [m]
  | .dcval _ _ => []
  | .acIntra_esc1 inner s => escapeCode ++ [false] ++ (AcSel.row .intra inner).code ++ [s]
  | .acIntra_esc2 inner s => escapeCode ++ [true, false] ++ (AcSel.row .intra inner).code ++ [s]
  | .acIntra_esc3 last run m1 level m2 => escapeCode ++ [true, true, last] ++ fieldBits run ++ [m1] ++ fieldBits level ++ [m2]
  | .acInter_esc1 inner s => escapeCode ++ [false] ++ (AcSel.row .inter inner).code ++ [s]
  | .acInter_esc2 inner s => escapeCode ++ [true, false] ++ (AcSel.row .inter inner).code ++ [s]
  | .acInter_esc3 last run m1 level m2 => escapeCode ++ [true, true, last] ++ fieldBits run ++ [m1] ++ fieldBits level ++ [m2]
  | .modb_1 => [true]
  | .modb_01 => [false, true]
  | .modb_00 => [false, false]
  | .bmbtype_direct => [true]
  | .bmbtype_interpolate => [false, true]
  | .bmbtype_backward => [false, false, true]
  | .bmbtype_forward => [false, false, false, true]
  | .dbquant_0 => [false]
  | .dbquant_minus2 => [true, false]
  | .dbquant_plus2 => [true, true]
  | .notCoded b => [b]
  | .acPred b => [b]
  | .mcsel b => [b]
  | .dquant_00 => [false, false]
  | .dquant_01 => [false, true]
  | .dquant_10 => [true, false]
  | .dquant_11 => [true, true]
  | .cbpb v => fieldBits v
  | .traj_0 => [true]
  | .traj_1 v => [false, true] ++ fieldBits v
  | .traj_2 v => [false, false, true] ++ fieldBits v
  | .traj_3 v => [false, false, false, true] ++ fieldBits v
  | .traj_4 v => [false, false, false, false, true] ++ fieldBits v
  | .traj_5 v => [false, false, false, false, false, true] ++ fieldBits v
  | .traj_6 v => [false, false, false, false, false, false, true] ++ fieldBits v
  | .traj_7 v => [false, false, false, false, false, false, false, true] ++ fieldBits v
  | .traj_8 v => [false, false, false, false, false, false, false, false, true] ++ fieldBits v
  | .traj_9 v => [false, false, false, false, false, false, false, false, false, true] ++ fieldBits v
  | .traj_10 v => [false, false, false, false, false, false, false, false, false, false, true] ++ fieldBits v
  | .traj_11 v => [false, false, false, false, false, false, false, false, false, false, false, true] ++ fieldBits v
  | .traj_12 v => [false, false, false, false, false, false, false, false, false, false, false, false, true] ++ fieldBits v
  | .sc code => startCodeHead ++ fieldBits code
  | .resync k f => false :: List.replicate k.val true ++ List.replicate (16 + f.val) false ++ [true]
  | .readBits _ => []
  | .peekBits _ => []
  | .skipBits _ => []
  | .byteAligned => []
  | .findStartCode _ _ => []
  | .findStartCodeRange _ _ _ => []
  | .resyncDetect _ _ => []
  | .dequant _ => []
  | .mismatch => []
  | .idct => []
  | .dcPredict _ => []
  | .dcRecon _ _ _ => []
  | .acPredict _ => []
  | .pcUpdate _ => []
  | .scanSelect _ => []
  | .decodeMb _ => []
  | .intraBlock _ => []
  | .interBlock _ => []
  | .copyMb _ _ => []
  | .recon _ _ => []
  | .mbiWrite _ => []
  | .mcLuma _ _ _ _ _ => []
  | .chromaMv_1 _ => []
  | .chromaMv_4 _ _ _ _ => []
  | .mcChroma _ _ _ _ _ _ => []
  | .spriteTrajectory => []
  | .gmcSetup => []
  | .decodeVop => []
  | .completeRef => []
  | .completeB => []
  | .push _ => []
  | .drain => []
  | .directMv _ _ => []
  | .openInst _ => []
  | .loadVol _ => []
  | .loadVop _ => []
  | .sendPacket _ _ => []
  | .receiveFrame => []
  | .flush => []
  | .setBp _ => []
  | .acIntra_0_0_1 => [true, false]
  | .acIntra_0_0_2 => [true, true, false]
  | .acIntra_0_0_3 => [true, true, true, true]
  | .acIntra_0_0_4 => [false, true, true, false, true]
  | .acIntra_0_0_5 => [false, true, true, false, false]
  | .acIntra_0_0_6 => [false, true, false, true, false, true]
  | .acIntra_0_0_7 => [false, true, false, false, true, true]
  | .acIntra_0_0_8 => [false, true, false, false, true, false]
  | .acIntra_0_0_9 => [false, false, true, false, true, true, true]
  | .acIntra_0_0_10 => [false, false, false, true, true, true, true, true]
  | .acIntra_0_0_11 => [false, false, false, true, true, true, true, false]
  | .acIntra_0_0_12 => [false, false, false, true, true, true, false, true]
  | .acIntra_0_0_13 => [false, false, false, true, false, false, true, false, true]
  | .acIntra_0_0_14 => [false, false, false, true, false, false, true, false, false]
  | .acIntra_0_0_15 => [false, false, false, true, false, false, false, true, true]
  | .acIntra_0_0_16 => [false, false, false, true, false, false, false, false, true]
  | .acIntra_0_0_17 => [false, false, false, false, true, false, false, false, false, true]
  | .acIntra_0_0_18 => [false, false, false, false, true, false, false, false, false, false]
  | .acIntra_0_0_19 => [false, false, false, false, false, false, true, true, true, true]
  | .acIntra_0_0_20 => [false, false, false, false, false, false, true, true, true, false]
  | .acIntra_0_0_21 => [false, false, false, false, false, false, false, false, true, true, true]
  | .acIntra_0_0_22 => [false, false, false, false, false, false, false, false, true, true, false]
  | .acIntra_0_0_23 => [false, false, false, false, false, true, false, false, false, false, false]
  | .acIntra_0_0_24 => [false, false, false, false, false, true, false, false, false, false, true]
  | .acIntra_0_0_25 => [false, false, false, false, false, true, false, true, false, false, false, false]
  | .acIntra_0_0_26 => [false, false, false, false, false, true, false, true, false, false, false, true]
  | .acIntra_0_0_27 => [false, false, false, false, false, true, false, true, false, false, true, false]
  | .acIntra_0_1_1 => [true, true, true, false]
  | .acIntra_0_1_2 => [false, true, false, true, false, false]
  | .acIntra_0_1_3 => [false, false, true, false, true, true, false]
  | .acIntra_0_1_4 => [false, false, false, true, true, true, false, false]
  | .acIntra_0_1_5 => [false, false, false, true, false, false, false, false, false]
  | .acIntra_0_1_6 => [false, false, false, false, true, true, true, true, true]
  | .acIntra_0_1_7 => [false, false, false, false, false, false, true, true, false, true]
  | .acIntra_0_1_8 => [false, false, false, false, false, true, false, false, false, true, false]
  | .acIntra_0_1_9 => [false, false, false, false, false, true, false, true, false, false, true, true]
  | .acIntra_0_1_10 => [false, false, false, false, false, true, false, true, false, true, false, true]
  | .acIntra_0_2_1 => [false, true, false, true, true]
  | .acIntra_0_2_2 => [false, false, true, false, true, false, true]
  | .acIntra_0_2_3 => [false, false, false, false, true, true, true, true, false]
  | .acIntra_0_2_4 => [false, false, false, false, false, false, true, true, false, false]
  | .acIntra_0_2_5 => [false, false, false, false, false, true, false, true, false, true, true, false]
  | .acIntra_0_3_1 => [false, true, false, false, false, true]
  | .acIntra_0_3_2 => [false, false, false, true, true, false, true, true]
  | .acIntra_0_3_3 => [false, false, false, false, true, true, true, false, true]
  | .acIntra_0_3_4 => [false, false, false, false, false, false, true, false, true, true]
  | .acIntra_0_4_1 => [false, true, false, false, false, false]
  | .acIntra_0_4_2 => [false, false, false, true, false, false, false, true, false]
  | .acIntra_0_4_3 => [false, false, false, false, false, false, true, false, true, false]
  | .acIntra_0_5_1 => [false, false, true, true, false, true]
  | .acIntra_0_5_2 => [false, false, false, false, true, true, true, false, false]
  | .acIntra_0_5_3 => [false, false, false, false, false, false, true, false, false, false]
  | .acIntra_0_6_1 => [false, false, true, false, false, true, false]
  | .acIntra_0_6_2 => [false, false, false, false, true, true, false, true, true]
  | .acIntra_0_6_3 => [false, false, false, false, false, true, false, true, false, true, false, false]
  | .acIntra_0_7_1 => [false, false, true, false, true, false, false]
  | .acIntra_0_7_2 => [false, false, false, false, true, true, false, true, false]
  | .acIntra_0_7_3 => [false, false, false, false, false, true, false, true, false, true, true, true]
  | .acIntra_0_8_1 => [false, false, false, true, true, false, false, true]
  | .acIntra_0_8_2 => [false, false, false, false, false, false, true, false, false, true]
  | .acIntra_0_9_1 => [false, false, false, true, true, false, false, false]
  | .acIntra_0_9_2 => [false, false, false, false, false, true, false, false, false, true, true]
  | .acIntra_0_10_1 => [false, false, false, true, false, true, true, true]
  | .acIntra_0_11_1 => [false, false, false, false, true, true, false, false, true]
  | .acIntra_0_12_1 => [false, false, false, false, true, true, false, false, false]
  | .acIntra_0_13_1 => [false, false, false, false, false, false, false, true, true, true]
  | .acIntra_0_14_1 => [false, false, false, false, false, true, false, true, true, false, false, false]
  | .acIntra_1_0_1 => [false, true, true, true]
  | .acIntra_1_0_2 => [false, false, true, true, false, false]
  | .acIntra_1_0_3 => [false, false, false, true, false, true, true, false]
  | .acIntra_1_0_4 => [false, false, false, false, true, false, true, true, true]
  | .acIntra_1_0_5 => [false, false, false, false, false, false, false, true, true, false]
  | .acIntra_1_0_6 => [false, false, false, false, false, false, false, false, true, false, true]
  | .acIntra_1_0_7 => [false, false, false, false, false, false, false, false, true, false, false]
  | .acIntra_1_0_8 => [false, false, false, false, false, true, false, true, true, false, false, true]
  | .acIntra_1_1_1 => [false, false, true, true, true, true]
  | .acIntra_1_1_2 => [false, false, false, false, true, false, true, true, false]
  | .acIntra_1_1_3 => [false, false, false, false, false, false, false, true, false, true]
  | .acIntra_1_2_1 => [false, false, true, true, true, false]
  | .acIntra_1_2_2 => [false, false, false, false, false, false, false, true, false, false]
  | .acIntra_1_3_1 => [false, false, true, false, false, false, true]
  | .acIntra_1_3_2 => [false, false, false, false, false, true, false, false, true, false, false]
  | .acIntra_1_4_1 => [false, false, true, false, false, false, false]
  | .acIntra_1_4_2 => [false, false, false, false, false, true, false, false, true, false, true]
  | .acIntra_1_5_1 => [false, false, true, false, false, true, true]
  | .acIntra_1_5_2 => [false, false, false, false, false, true, false, true, true, false, true, false]
  | .acIntra_1_6_1 => [false, false, false, true, false, true, false, true]
  | .acIntra_1_6_2 => [false, false, false, false, false, true, false, true, true, false, true, true]
  | .acIntra_1_7_1 => [false, false, false, true, false, true, false, false]
  | .acIntra_1_8_1 => [false, false, false, true, false, false, true, true]
  | .acIntra_1_9_1 => [false, false, false, true, true, false, true, false]
  | .acIntra_1_10_1 => [false, false, false, false, true, false, true, false, true]
  | .acIntra_1_11_1 => [false, false, false, false, true, false, true, false, false]
  | .acIntra_1_12_1 => [false, false, false, false, true, false, false, true, true]
  | .acIntra_1_13_1 => [false, false, false, false, true, false, false, true, false]
  | .acIntra_1_14_1 => [false, false, false, false, true, false, false, false, true]
  | .acIntra_1_15_1 => [false, false, false, false, false, true, false, false, true, true, false]
  | .acIntra_1_16_1 => [false, false, false, false, false, true, false, false, true, true, true]
  | .acIntra_1_17_1 => [false, false, false, false, false, true, false, true, true, true, false, false]
  | .acIntra_1_18_1 => [false, false, false, false, false, true, false, true, true, true, false, true]
  | .acIntra_1_19_1 => [false, false, false, false, false, true, false, true, true, true, true, false]
  | .acIntra_1_20_1 => [false, false, false, false, false, true, false, true, true, true, true, true]
  | .acInter_0_0_1 => [true, false]
  | .acInter_0_0_2 => [true, true, true, true]
  | .acInter_0_0_3 => [false, true, false, true, false, true]
  | .acInter_0_0_4 => [false, false, true, false, true, true, true]
  | .acInter_0_0_5 => [false, false, false, true, true, true, true, true]
  | .acInter_0_0_6 => [false, false, false, true, false, false, true, false, true]
  | .acInter_0_0_7 => [false, false, false, true, false, false, true, false, false]
  | .acInter_0_0_8 => [false, false, false, false, true, false, false, false, false, true]
  | .acInter_0_0_9 => [false, false, false, false, true, false, false, false, false, false]
  | .acInter_0_0_10 => [false, false, false, false, false, false, false, false, true, true, true]
  | .acInter_0_0_11 => [false, false, false, false, false, false, false, false, true, true, false]
  | .acInter_0_0_12 => [false, false, false, false, false, true, false, false, false, false, false]
  | .acInter_0_1_1 => [true, true, false]
  | .acInter_0_1_2 => [false, true, false, true, false, false]
  | .acInter_0_1_3 => [false, false, false, true, true, true, true, false]
  | .acInter_0_1_4 => [false, false, false, false, false, false, true, true, true, true]
  | .acInter_0_1_5 => [false, false, false, false, false, true, false, false, false, false, true]
  | .acInter_0_1_6 => [false, false, false, false, false, true, false, true, false, false, false, false]
  | .acInter_0_2_1 => [true, true, true, false]
  | .acInter_0_2_2 => [false, false, false, true, true, true, false, true]
  | .acInter_0_2_3 => [false, false, false, false, false, false, true, true, true, false]
  | .acInter_0_2_4 => [false, false, false, false, false, true, false, true, false, false, false, true]
  | .acInter_0_3_1 => [false, true, true, false, true]
  | .acInter_0_3_2 => [false, false, false, true, false, false, false, true, true]
  | .acInter_0_3_3 => [false, false, false, false, false, false, true, true, false, true]
  | .acInter_0_4_1 => [false, true, true, false, false]
  | .acInter_0_4_2 => [false, false, false, true, false, false, false, true, false]
  | .acInter_0_4_3 => [false, false, false, false, false, true, false, true, false, false, true, false]
  | .acInter_0_5_1 => [false, true, false, true, true]
  | .acInter_0_5_2 => [false, false, false, false, false, false, true, true, false, false]
  | .acInter_0_5_3 => [false, false, false, false, false, true, false, true, false, false, true, true]
  | .acInter_0_6_1 => [false, true, false, false, true, true]
  | .acInter_0_6_2 => [false, false, false, false, false, false, true, false, true, true]
  | .acInter_0_6_3 => [false, false, false, false, false, true, false, true, false, true, false, false]
  | .acInter_0_7_1 => [false, true, false, false, true, false]
  | .acInter_0_7_2 => [false, false, false, false, false, false, true, false, true, false]
  | .acInter_0_8_1 => [false, true, false, false, false, true]
  | .acInter_0_8_2 => [false, false, false, false, false, false, true, false, false, true]
  | .acInter_0_9_1 => [false, true, false, false, false, false]
  | .acInter_0_9_2 => [false, false, false, false, false, false, true, false, false, false]
  | .acInter_0_10_1 => [false, false, true, false, true, true, false]
  | .acInter_0_10_2 => [false, false, false, false, false, true, false, true, false, true, false, true]
  | .acInter_0_11_1 => [false, false, true, false, true, false, true]
  | .acInter_0_12_1 => [false, false, true, false, true, false, false]
  | .acInter_0_13_1 => [false, false, false, true, true, true, false, false]
  | .acInter_0_14_1 => [false, false, false, true, true, false, true, true]
  | .acInter_0_15_1 => [false, false, false, true, false, false, false, false, true]
  | .acInter_0_16_1 => [false, false, false, true, false, false, false, false, false]
  | .acInter_0_17_1 => [false, false, false, false, true, true, true, true, true]
  | .acInter_0_18_1 => [false, false, false, false, true, true, true, true, false]
  | .acInter_0_19_1 => [false, false, false, false, true, true, true, false, true]
  | .acInter_0_20_1 => [false, false, false, false, true, true, true, false, false]
  | .acInter_0_21_1 => [false, false, false, false, true, true, false, true, true]
  | .acInter_0_22_1 => [false, false, false, false, true, true, false, true, false]
  | .acInter_0_23_1 => [false, false, false, false, false, true, false, false, false, true, false]
  | .acInter_0_24_1 => [false, false, false, false, false, true, false, false, false, true, true]
  | .acInter_0_25_1 => [false, false, false, false, false, true, false, true, false, true, true, false]
  | .acInter_0_26_1 => [false, false, false, false, false, true, false, true, false, true, true, true]
  | .acInter_1_0_1 => [false, true, true, true]
  | .acInter_1_0_2 => [false, false, false, false, true, true, false, false, true]
  | .acInter_1_0_3 => [false, false, false, false, false, false, false, false, true, false, true]
  | .acInter_1_1_1 => [false, false, true, true, true, true]
  | .acInter_1_1_2 => [false, false, false, false, false, false, false, false, true, false, false]
  | .acInter_1_2_1 => [false, false, true, true, true, false]
  | .acInter_1_3_1 => [false, false, true, true, false, true]
  | .acInter_1_4_1 => [false, false, true, true, false, false]
  | .acInter_1_5_1 => [false, false, true, false, false, true, true]
  | .acInter_1_6_1 => [false, false, true, false, false, true, false]
  | .acInter_1_7_1 => [false, false, true, false, false, false, true]
  | .acInter_1_8_1 => [false, false, true, false, false, false, false]
  | .acInter_1_9_1 => [false, false, false, true, true, false, true, false]
  | .acInter_1_10_1 => [false, false, false, true, true, false, false, true]
  | .acInter_1_11_1 => [false, false, false, true, true, false, false, false]
  | .acInter_1_12_1 => [false, false, false, true, false, true, true, true]
  | .acInter_1_13_1 => [false, false, false, true, false, true, true, false]
  | .acInter_1_14_1 => [false, false, false, true, false, true, false, true]
  | .acInter_1_15_1 => [false, false, false, true, false, true, false, false]
  | .acInter_1_16_1 => [false, false, false, true, false, false, true, true]
  | .acInter_1_17_1 => [false, false, false, false, true, true, false, false, false]
  | .acInter_1_18_1 => [false, false, false, false, true, false, true, true, true]
  | .acInter_1_19_1 => [false, false, false, false, true, false, true, true, false]
  | .acInter_1_20_1 => [false, false, false, false, true, false, true, false, true]
  | .acInter_1_21_1 => [false, false, false, false, true, false, true, false, false]
  | .acInter_1_22_1 => [false, false, false, false, true, false, false, true, true]
  | .acInter_1_23_1 => [false, false, false, false, true, false, false, true, false]
  | .acInter_1_24_1 => [false, false, false, false, true, false, false, false, true]
  | .acInter_1_25_1 => [false, false, false, false, false, false, false, true, true, true]
  | .acInter_1_26_1 => [false, false, false, false, false, false, false, true, true, false]
  | .acInter_1_27_1 => [false, false, false, false, false, false, false, true, false, true]
  | .acInter_1_28_1 => [false, false, false, false, false, false, false, true, false, false]
  | .acInter_1_29_1 => [false, false, false, false, false, true, false, false, true, false, false]
  | .acInter_1_30_1 => [false, false, false, false, false, true, false, false, true, false, true]
  | .acInter_1_31_1 => [false, false, false, false, false, true, false, false, true, true, false]
  | .acInter_1_32_1 => [false, false, false, false, false, true, false, false, true, true, true]
  | .acInter_1_33_1 => [false, false, false, false, false, true, false, true, true, false, false, false]
  | .acInter_1_34_1 => [false, false, false, false, false, true, false, true, true, false, false, true]
  | .acInter_1_35_1 => [false, false, false, false, false, true, false, true, true, false, true, false]
  | .acInter_1_36_1 => [false, false, false, false, false, true, false, true, true, false, true, true]
  | .acInter_1_37_1 => [false, false, false, false, false, true, false, true, true, true, false, false]
  | .acInter_1_38_1 => [false, false, false, false, false, true, false, true, true, true, false, true]
  | .acInter_1_39_1 => [false, false, false, false, false, true, false, true, true, true, true, false]
  | .acInter_1_40_1 => [false, false, false, false, false, true, false, true, true, true, true, true]

/-- The MVD table, under any f_code. -/
def Table.isMvd (t : Table) : Bool :=
  match t with
  | .mvd _ => true
  | _ => false

/-- Which instructions a table can hold: `i.inTable t` says that reading with `t` can give `i`. -/
def Instr.inTable (i : Instr) (t : Table) : Bool :=
  match i with
  | .mcbpcI_3_0 => t == .mcbpcI
  | .mcbpcI_3_1 => t == .mcbpcI
  | .mcbpcI_3_2 => t == .mcbpcI
  | .mcbpcI_3_3 => t == .mcbpcI
  | .mcbpcI_4_0 => t == .mcbpcI
  | .mcbpcI_4_1 => t == .mcbpcI
  | .mcbpcI_4_2 => t == .mcbpcI
  | .mcbpcI_4_3 => t == .mcbpcI
  | .mcbpcI_stuff => t == .mcbpcI
  | .mcbpcP_0_0 => t == .mcbpcP
  | .mcbpcP_0_1 => t == .mcbpcP
  | .mcbpcP_0_2 => t == .mcbpcP
  | .mcbpcP_0_3 => t == .mcbpcP
  | .mcbpcP_1_0 => t == .mcbpcP
  | .mcbpcP_1_1 => t == .mcbpcP
  | .mcbpcP_1_2 => t == .mcbpcP
  | .mcbpcP_1_3 => t == .mcbpcP
  | .mcbpcP_2_0 => t == .mcbpcP
  | .mcbpcP_2_1 => t == .mcbpcP
  | .mcbpcP_2_2 => t == .mcbpcP
  | .mcbpcP_2_3 => t == .mcbpcP
  | .mcbpcP_3_0 => t == .mcbpcP
  | .mcbpcP_3_1 => t == .mcbpcP
  | .mcbpcP_3_2 => t == .mcbpcP
  | .mcbpcP_3_3 => t == .mcbpcP
  | .mcbpcP_4_0 => t == .mcbpcP
  | .mcbpcP_4_1 => t == .mcbpcP
  | .mcbpcP_4_2 => t == .mcbpcP
  | .mcbpcP_4_3 => t == .mcbpcP
  | .mcbpcP_stuff => t == .mcbpcP
  | .cbpy_0 => t == .cbpy
  | .cbpy_1 => t == .cbpy
  | .cbpy_2 => t == .cbpy
  | .cbpy_3 => t == .cbpy
  | .cbpy_4 => t == .cbpy
  | .cbpy_5 => t == .cbpy
  | .cbpy_6 => t == .cbpy
  | .cbpy_7 => t == .cbpy
  | .cbpy_8 => t == .cbpy
  | .cbpy_9 => t == .cbpy
  | .cbpy_10 => t == .cbpy
  | .cbpy_11 => t == .cbpy
  | .cbpy_12 => t == .cbpy
  | .cbpy_13 => t == .cbpy
  | .cbpy_14 => t == .cbpy
  | .cbpy_15 => t == .cbpy
  | .mvd_0 => t.isMvd
  | .mvd_1 f _ _ => t == .mvd f
  | .mvd_2 f _ _ => t == .mvd f
  | .mvd_3 f _ _ => t == .mvd f
  | .mvd_4 f _ _ => t == .mvd f
  | .mvd_5 f _ _ => t == .mvd f
  | .mvd_6 f _ _ => t == .mvd f
  | .mvd_7 f _ _ => t == .mvd f
  | .mvd_8 f _ _ => t == .mvd f
  | .mvd_9 f _ _ => t == .mvd f
  | .mvd_10 f _ _ => t == .mvd f
  | .mvd_11 f _ _ => t == .mvd f
  | .mvd_12 f _ _ => t == .mvd f
  | .mvd_13 f _ _ => t == .mvd f
  | .mvd_14 f _ _ => t == .mvd f
  | .mvd_15 f _ _ => t == .mvd f
  | .mvd_16 f _ _ => t == .mvd f
  | .mvd_17 f _ _ => t == .mvd f
  | .mvd_18 f _ _ => t == .mvd f
  | .mvd_19 f _ _ => t == .mvd f
  | .mvd_20 f _ _ => t == .mvd f
  | .mvd_21 f _ _ => t == .mvd f
  | .mvd_22 f _ _ => t == .mvd f
  | .mvd_23 f _ _ => t == .mvd f
  | .mvd_24 f _ _ => t == .mvd f
  | .mvd_25 f _ _ => t == .mvd f
  | .mvd_26 f _ _ => t == .mvd f
  | .mvd_27 f _ _ => t == .mvd f
  | .mvd_28 f _ _ => t == .mvd f
  | .mvd_29 f _ _ => t == .mvd f
  | .mvd_30 f _ _ => t == .mvd f
  | .mvd_31 f _ _ => t == .mvd f
  | .mvd_32 f _ _ => t == .mvd f
  | .dcszL_0 => t == .dcszL
  | .dcszL_1 _ => t == .dcszL
  | .dcszL_2 _ => t == .dcszL
  | .dcszL_3 _ => t == .dcszL
  | .dcszL_4 _ => t == .dcszL
  | .dcszL_5 _ => t == .dcszL
  | .dcszL_6 _ => t == .dcszL
  | .dcszL_7 _ => t == .dcszL
  | .dcszL_8 _ => t == .dcszL
  | .dcszL_9 _ _ => t == .dcszL
  | .dcszL_10 _ _ => t == .dcszL
  | .dcszL_11 _ _ => t == .dcszL
  | .dcszL_12 _ _ => t == .dcszL
  | .dcszC_0 => t == .dcszC
  | .dcszC_1 _ => t == .dcszC
  | .dcszC_2 _ => t == .dcszC
  | .dcszC_3 _ => t == .dcszC
  | .dcszC_4 _ => t == .dcszC
  | .dcszC_5 _ => t == .dcszC
  | .dcszC_6 _ => t == .dcszC
  | .dcszC_7 _ => t == .dcszC
  | .dcszC_8 _ => t == .dcszC
  | .dcszC_9 _ _ => t == .dcszC
  | .dcszC_10 _ _ => t == .dcszC
  | .dcszC_11 _ _ => t == .dcszC
  | .dcszC_12 _ _ => t == .dcszC
  | .dcval _ _ => false
  | .acIntra_esc1 _ _ => t == .acIntra
  | .acIntra_esc2 _ _ => t == .acIntra
  | .acIntra_esc3 _ _ _ _ _ => t == .acIntra
  | .acInter_esc1 _ _ => t == .acInter
  | .acInter_esc2 _ _ => t == .acInter
  | .acInter_esc3 _ _ _ _ _ => t == .acInter
  | .modb_1 => t == .modb
  | .modb_01 => t == .modb
  | .modb_00 => t == .modb
  | .bmbtype_direct => t == .bmbtype
  | .bmbtype_interpolate => t == .bmbtype
  | .bmbtype_backward => t == .bmbtype
  | .bmbtype_forward => t == .bmbtype
  | .dbquant_0 => t == .dbquant
  | .dbquant_minus2 => t == .dbquant
  | .dbquant_plus2 => t == .dbquant
  | .notCoded _ => t == .notCoded
  | .acPred _ => t == .acPred
  | .mcsel _ => t == .mcsel
  | .dquant_00 => t == .dquant
  | .dquant_01 => t == .dquant
  | .dquant_10 => t == .dquant
  | .dquant_11 => t == .dquant
  | .cbpb _ => t == .cbpb
  | .traj_0 => t == .traj
  | .traj_1 _ => t == .traj
  | .traj_2 _ => t == .traj
  | .traj_3 _ => t == .traj
  | .traj_4 _ => t == .traj
  | .traj_5 _ => t == .traj
  | .traj_6 _ => t == .traj
  | .traj_7 _ => t == .traj
  | .traj_8 _ => t == .traj
  | .traj_9 _ => t == .traj
  | .traj_10 _ => t == .traj
  | .traj_11 _ => t == .traj
  | .traj_12 _ => t == .traj
  | .sc _ => t == .sc
  | .resync _ _ => t == .resync
  | .readBits _ => false
  | .peekBits _ => false
  | .skipBits _ => false
  | .byteAligned => false
  | .findStartCode _ _ => false
  | .findStartCodeRange _ _ _ => false
  | .resyncDetect _ _ => false
  | .dequant _ => false
  | .mismatch => false
  | .idct => false
  | .dcPredict _ => false
  | .dcRecon _ _ _ => false
  | .acPredict _ => false
  | .pcUpdate _ => false
  | .scanSelect _ => false
  | .decodeMb _ => false
  | .intraBlock _ => false
  | .interBlock _ => false
  | .copyMb _ _ => false
  | .recon _ _ => false
  | .mbiWrite _ => false
  | .mcLuma _ _ _ _ _ => false
  | .chromaMv_1 _ => false
  | .chromaMv_4 _ _ _ _ => false
  | .mcChroma _ _ _ _ _ _ => false
  | .spriteTrajectory => false
  | .gmcSetup => false
  | .decodeVop => false
  | .completeRef => false
  | .completeB => false
  | .push _ => false
  | .drain => false
  | .directMv _ _ => false
  | .openInst _ => false
  | .loadVol _ => false
  | .loadVop _ => false
  | .sendPacket _ _ => false
  | .receiveFrame => false
  | .flush => false
  | .setBp _ => false
  | .acIntra_0_0_1 => t == .acIntra
  | .acIntra_0_0_2 => t == .acIntra
  | .acIntra_0_0_3 => t == .acIntra
  | .acIntra_0_0_4 => t == .acIntra
  | .acIntra_0_0_5 => t == .acIntra
  | .acIntra_0_0_6 => t == .acIntra
  | .acIntra_0_0_7 => t == .acIntra
  | .acIntra_0_0_8 => t == .acIntra
  | .acIntra_0_0_9 => t == .acIntra
  | .acIntra_0_0_10 => t == .acIntra
  | .acIntra_0_0_11 => t == .acIntra
  | .acIntra_0_0_12 => t == .acIntra
  | .acIntra_0_0_13 => t == .acIntra
  | .acIntra_0_0_14 => t == .acIntra
  | .acIntra_0_0_15 => t == .acIntra
  | .acIntra_0_0_16 => t == .acIntra
  | .acIntra_0_0_17 => t == .acIntra
  | .acIntra_0_0_18 => t == .acIntra
  | .acIntra_0_0_19 => t == .acIntra
  | .acIntra_0_0_20 => t == .acIntra
  | .acIntra_0_0_21 => t == .acIntra
  | .acIntra_0_0_22 => t == .acIntra
  | .acIntra_0_0_23 => t == .acIntra
  | .acIntra_0_0_24 => t == .acIntra
  | .acIntra_0_0_25 => t == .acIntra
  | .acIntra_0_0_26 => t == .acIntra
  | .acIntra_0_0_27 => t == .acIntra
  | .acIntra_0_1_1 => t == .acIntra
  | .acIntra_0_1_2 => t == .acIntra
  | .acIntra_0_1_3 => t == .acIntra
  | .acIntra_0_1_4 => t == .acIntra
  | .acIntra_0_1_5 => t == .acIntra
  | .acIntra_0_1_6 => t == .acIntra
  | .acIntra_0_1_7 => t == .acIntra
  | .acIntra_0_1_8 => t == .acIntra
  | .acIntra_0_1_9 => t == .acIntra
  | .acIntra_0_1_10 => t == .acIntra
  | .acIntra_0_2_1 => t == .acIntra
  | .acIntra_0_2_2 => t == .acIntra
  | .acIntra_0_2_3 => t == .acIntra
  | .acIntra_0_2_4 => t == .acIntra
  | .acIntra_0_2_5 => t == .acIntra
  | .acIntra_0_3_1 => t == .acIntra
  | .acIntra_0_3_2 => t == .acIntra
  | .acIntra_0_3_3 => t == .acIntra
  | .acIntra_0_3_4 => t == .acIntra
  | .acIntra_0_4_1 => t == .acIntra
  | .acIntra_0_4_2 => t == .acIntra
  | .acIntra_0_4_3 => t == .acIntra
  | .acIntra_0_5_1 => t == .acIntra
  | .acIntra_0_5_2 => t == .acIntra
  | .acIntra_0_5_3 => t == .acIntra
  | .acIntra_0_6_1 => t == .acIntra
  | .acIntra_0_6_2 => t == .acIntra
  | .acIntra_0_6_3 => t == .acIntra
  | .acIntra_0_7_1 => t == .acIntra
  | .acIntra_0_7_2 => t == .acIntra
  | .acIntra_0_7_3 => t == .acIntra
  | .acIntra_0_8_1 => t == .acIntra
  | .acIntra_0_8_2 => t == .acIntra
  | .acIntra_0_9_1 => t == .acIntra
  | .acIntra_0_9_2 => t == .acIntra
  | .acIntra_0_10_1 => t == .acIntra
  | .acIntra_0_11_1 => t == .acIntra
  | .acIntra_0_12_1 => t == .acIntra
  | .acIntra_0_13_1 => t == .acIntra
  | .acIntra_0_14_1 => t == .acIntra
  | .acIntra_1_0_1 => t == .acIntra
  | .acIntra_1_0_2 => t == .acIntra
  | .acIntra_1_0_3 => t == .acIntra
  | .acIntra_1_0_4 => t == .acIntra
  | .acIntra_1_0_5 => t == .acIntra
  | .acIntra_1_0_6 => t == .acIntra
  | .acIntra_1_0_7 => t == .acIntra
  | .acIntra_1_0_8 => t == .acIntra
  | .acIntra_1_1_1 => t == .acIntra
  | .acIntra_1_1_2 => t == .acIntra
  | .acIntra_1_1_3 => t == .acIntra
  | .acIntra_1_2_1 => t == .acIntra
  | .acIntra_1_2_2 => t == .acIntra
  | .acIntra_1_3_1 => t == .acIntra
  | .acIntra_1_3_2 => t == .acIntra
  | .acIntra_1_4_1 => t == .acIntra
  | .acIntra_1_4_2 => t == .acIntra
  | .acIntra_1_5_1 => t == .acIntra
  | .acIntra_1_5_2 => t == .acIntra
  | .acIntra_1_6_1 => t == .acIntra
  | .acIntra_1_6_2 => t == .acIntra
  | .acIntra_1_7_1 => t == .acIntra
  | .acIntra_1_8_1 => t == .acIntra
  | .acIntra_1_9_1 => t == .acIntra
  | .acIntra_1_10_1 => t == .acIntra
  | .acIntra_1_11_1 => t == .acIntra
  | .acIntra_1_12_1 => t == .acIntra
  | .acIntra_1_13_1 => t == .acIntra
  | .acIntra_1_14_1 => t == .acIntra
  | .acIntra_1_15_1 => t == .acIntra
  | .acIntra_1_16_1 => t == .acIntra
  | .acIntra_1_17_1 => t == .acIntra
  | .acIntra_1_18_1 => t == .acIntra
  | .acIntra_1_19_1 => t == .acIntra
  | .acIntra_1_20_1 => t == .acIntra
  | .acInter_0_0_1 => t == .acInter
  | .acInter_0_0_2 => t == .acInter
  | .acInter_0_0_3 => t == .acInter
  | .acInter_0_0_4 => t == .acInter
  | .acInter_0_0_5 => t == .acInter
  | .acInter_0_0_6 => t == .acInter
  | .acInter_0_0_7 => t == .acInter
  | .acInter_0_0_8 => t == .acInter
  | .acInter_0_0_9 => t == .acInter
  | .acInter_0_0_10 => t == .acInter
  | .acInter_0_0_11 => t == .acInter
  | .acInter_0_0_12 => t == .acInter
  | .acInter_0_1_1 => t == .acInter
  | .acInter_0_1_2 => t == .acInter
  | .acInter_0_1_3 => t == .acInter
  | .acInter_0_1_4 => t == .acInter
  | .acInter_0_1_5 => t == .acInter
  | .acInter_0_1_6 => t == .acInter
  | .acInter_0_2_1 => t == .acInter
  | .acInter_0_2_2 => t == .acInter
  | .acInter_0_2_3 => t == .acInter
  | .acInter_0_2_4 => t == .acInter
  | .acInter_0_3_1 => t == .acInter
  | .acInter_0_3_2 => t == .acInter
  | .acInter_0_3_3 => t == .acInter
  | .acInter_0_4_1 => t == .acInter
  | .acInter_0_4_2 => t == .acInter
  | .acInter_0_4_3 => t == .acInter
  | .acInter_0_5_1 => t == .acInter
  | .acInter_0_5_2 => t == .acInter
  | .acInter_0_5_3 => t == .acInter
  | .acInter_0_6_1 => t == .acInter
  | .acInter_0_6_2 => t == .acInter
  | .acInter_0_6_3 => t == .acInter
  | .acInter_0_7_1 => t == .acInter
  | .acInter_0_7_2 => t == .acInter
  | .acInter_0_8_1 => t == .acInter
  | .acInter_0_8_2 => t == .acInter
  | .acInter_0_9_1 => t == .acInter
  | .acInter_0_9_2 => t == .acInter
  | .acInter_0_10_1 => t == .acInter
  | .acInter_0_10_2 => t == .acInter
  | .acInter_0_11_1 => t == .acInter
  | .acInter_0_12_1 => t == .acInter
  | .acInter_0_13_1 => t == .acInter
  | .acInter_0_14_1 => t == .acInter
  | .acInter_0_15_1 => t == .acInter
  | .acInter_0_16_1 => t == .acInter
  | .acInter_0_17_1 => t == .acInter
  | .acInter_0_18_1 => t == .acInter
  | .acInter_0_19_1 => t == .acInter
  | .acInter_0_20_1 => t == .acInter
  | .acInter_0_21_1 => t == .acInter
  | .acInter_0_22_1 => t == .acInter
  | .acInter_0_23_1 => t == .acInter
  | .acInter_0_24_1 => t == .acInter
  | .acInter_0_25_1 => t == .acInter
  | .acInter_0_26_1 => t == .acInter
  | .acInter_1_0_1 => t == .acInter
  | .acInter_1_0_2 => t == .acInter
  | .acInter_1_0_3 => t == .acInter
  | .acInter_1_1_1 => t == .acInter
  | .acInter_1_1_2 => t == .acInter
  | .acInter_1_2_1 => t == .acInter
  | .acInter_1_3_1 => t == .acInter
  | .acInter_1_4_1 => t == .acInter
  | .acInter_1_5_1 => t == .acInter
  | .acInter_1_6_1 => t == .acInter
  | .acInter_1_7_1 => t == .acInter
  | .acInter_1_8_1 => t == .acInter
  | .acInter_1_9_1 => t == .acInter
  | .acInter_1_10_1 => t == .acInter
  | .acInter_1_11_1 => t == .acInter
  | .acInter_1_12_1 => t == .acInter
  | .acInter_1_13_1 => t == .acInter
  | .acInter_1_14_1 => t == .acInter
  | .acInter_1_15_1 => t == .acInter
  | .acInter_1_16_1 => t == .acInter
  | .acInter_1_17_1 => t == .acInter
  | .acInter_1_18_1 => t == .acInter
  | .acInter_1_19_1 => t == .acInter
  | .acInter_1_20_1 => t == .acInter
  | .acInter_1_21_1 => t == .acInter
  | .acInter_1_22_1 => t == .acInter
  | .acInter_1_23_1 => t == .acInter
  | .acInter_1_24_1 => t == .acInter
  | .acInter_1_25_1 => t == .acInter
  | .acInter_1_26_1 => t == .acInter
  | .acInter_1_27_1 => t == .acInter
  | .acInter_1_28_1 => t == .acInter
  | .acInter_1_29_1 => t == .acInter
  | .acInter_1_30_1 => t == .acInter
  | .acInter_1_31_1 => t == .acInter
  | .acInter_1_32_1 => t == .acInter
  | .acInter_1_33_1 => t == .acInter
  | .acInter_1_34_1 => t == .acInter
  | .acInter_1_35_1 => t == .acInter
  | .acInter_1_36_1 => t == .acInter
  | .acInter_1_37_1 => t == .acInter
  | .acInter_1_38_1 => t == .acInter
  | .acInter_1_39_1 => t == .acInter
  | .acInter_1_40_1 => t == .acInter

/-- The second layer of the instruction set (R2): host commands and internal operations (format `CMD`)
and `DCVAL`, which has no bits of its own. Such an instruction is given, never fetched. -/
def Instr.isCommand (i : Instr) : Bool :=
  match i with
  | .mcbpcI_3_0 => false
  | .mcbpcI_3_1 => false
  | .mcbpcI_3_2 => false
  | .mcbpcI_3_3 => false
  | .mcbpcI_4_0 => false
  | .mcbpcI_4_1 => false
  | .mcbpcI_4_2 => false
  | .mcbpcI_4_3 => false
  | .mcbpcI_stuff => false
  | .mcbpcP_0_0 => false
  | .mcbpcP_0_1 => false
  | .mcbpcP_0_2 => false
  | .mcbpcP_0_3 => false
  | .mcbpcP_1_0 => false
  | .mcbpcP_1_1 => false
  | .mcbpcP_1_2 => false
  | .mcbpcP_1_3 => false
  | .mcbpcP_2_0 => false
  | .mcbpcP_2_1 => false
  | .mcbpcP_2_2 => false
  | .mcbpcP_2_3 => false
  | .mcbpcP_3_0 => false
  | .mcbpcP_3_1 => false
  | .mcbpcP_3_2 => false
  | .mcbpcP_3_3 => false
  | .mcbpcP_4_0 => false
  | .mcbpcP_4_1 => false
  | .mcbpcP_4_2 => false
  | .mcbpcP_4_3 => false
  | .mcbpcP_stuff => false
  | .cbpy_0 => false
  | .cbpy_1 => false
  | .cbpy_2 => false
  | .cbpy_3 => false
  | .cbpy_4 => false
  | .cbpy_5 => false
  | .cbpy_6 => false
  | .cbpy_7 => false
  | .cbpy_8 => false
  | .cbpy_9 => false
  | .cbpy_10 => false
  | .cbpy_11 => false
  | .cbpy_12 => false
  | .cbpy_13 => false
  | .cbpy_14 => false
  | .cbpy_15 => false
  | .mvd_0 => false
  | .mvd_1 _ _ _ => false
  | .mvd_2 _ _ _ => false
  | .mvd_3 _ _ _ => false
  | .mvd_4 _ _ _ => false
  | .mvd_5 _ _ _ => false
  | .mvd_6 _ _ _ => false
  | .mvd_7 _ _ _ => false
  | .mvd_8 _ _ _ => false
  | .mvd_9 _ _ _ => false
  | .mvd_10 _ _ _ => false
  | .mvd_11 _ _ _ => false
  | .mvd_12 _ _ _ => false
  | .mvd_13 _ _ _ => false
  | .mvd_14 _ _ _ => false
  | .mvd_15 _ _ _ => false
  | .mvd_16 _ _ _ => false
  | .mvd_17 _ _ _ => false
  | .mvd_18 _ _ _ => false
  | .mvd_19 _ _ _ => false
  | .mvd_20 _ _ _ => false
  | .mvd_21 _ _ _ => false
  | .mvd_22 _ _ _ => false
  | .mvd_23 _ _ _ => false
  | .mvd_24 _ _ _ => false
  | .mvd_25 _ _ _ => false
  | .mvd_26 _ _ _ => false
  | .mvd_27 _ _ _ => false
  | .mvd_28 _ _ _ => false
  | .mvd_29 _ _ _ => false
  | .mvd_30 _ _ _ => false
  | .mvd_31 _ _ _ => false
  | .mvd_32 _ _ _ => false
  | .dcszL_0 => false
  | .dcszL_1 _ => false
  | .dcszL_2 _ => false
  | .dcszL_3 _ => false
  | .dcszL_4 _ => false
  | .dcszL_5 _ => false
  | .dcszL_6 _ => false
  | .dcszL_7 _ => false
  | .dcszL_8 _ => false
  | .dcszL_9 _ _ => false
  | .dcszL_10 _ _ => false
  | .dcszL_11 _ _ => false
  | .dcszL_12 _ _ => false
  | .dcszC_0 => false
  | .dcszC_1 _ => false
  | .dcszC_2 _ => false
  | .dcszC_3 _ => false
  | .dcszC_4 _ => false
  | .dcszC_5 _ => false
  | .dcszC_6 _ => false
  | .dcszC_7 _ => false
  | .dcszC_8 _ => false
  | .dcszC_9 _ _ => false
  | .dcszC_10 _ _ => false
  | .dcszC_11 _ _ => false
  | .dcszC_12 _ _ => false
  | .dcval _ _ => true
  | .acIntra_esc1 _ _ => false
  | .acIntra_esc2 _ _ => false
  | .acIntra_esc3 _ _ _ _ _ => false
  | .acInter_esc1 _ _ => false
  | .acInter_esc2 _ _ => false
  | .acInter_esc3 _ _ _ _ _ => false
  | .modb_1 => false
  | .modb_01 => false
  | .modb_00 => false
  | .bmbtype_direct => false
  | .bmbtype_interpolate => false
  | .bmbtype_backward => false
  | .bmbtype_forward => false
  | .dbquant_0 => false
  | .dbquant_minus2 => false
  | .dbquant_plus2 => false
  | .notCoded _ => false
  | .acPred _ => false
  | .mcsel _ => false
  | .dquant_00 => false
  | .dquant_01 => false
  | .dquant_10 => false
  | .dquant_11 => false
  | .cbpb _ => false
  | .traj_0 => false
  | .traj_1 _ => false
  | .traj_2 _ => false
  | .traj_3 _ => false
  | .traj_4 _ => false
  | .traj_5 _ => false
  | .traj_6 _ => false
  | .traj_7 _ => false
  | .traj_8 _ => false
  | .traj_9 _ => false
  | .traj_10 _ => false
  | .traj_11 _ => false
  | .traj_12 _ => false
  | .sc _ => false
  | .resync _ _ => false
  | .readBits _ => true
  | .peekBits _ => true
  | .skipBits _ => true
  | .byteAligned => true
  | .findStartCode _ _ => true
  | .findStartCodeRange _ _ _ => true
  | .resyncDetect _ _ => true
  | .dequant _ => true
  | .mismatch => true
  | .idct => true
  | .dcPredict _ => true
  | .dcRecon _ _ _ => true
  | .acPredict _ => true
  | .pcUpdate _ => true
  | .scanSelect _ => true
  | .decodeMb _ => true
  | .intraBlock _ => true
  | .interBlock _ => true
  | .copyMb _ _ => true
  | .recon _ _ => true
  | .mbiWrite _ => true
  | .mcLuma _ _ _ _ _ => true
  | .chromaMv_1 _ => true
  | .chromaMv_4 _ _ _ _ => true
  | .mcChroma _ _ _ _ _ _ => true
  | .spriteTrajectory => true
  | .gmcSetup => true
  | .decodeVop => true
  | .completeRef => true
  | .completeB => true
  | .push _ => true
  | .drain => true
  | .directMv _ _ => true
  | .openInst _ => true
  | .loadVol _ => true
  | .loadVop _ => true
  | .sendPacket _ _ => true
  | .receiveFrame => true
  | .flush => true
  | .setBp _ => true
  | .acIntra_0_0_1 => false
  | .acIntra_0_0_2 => false
  | .acIntra_0_0_3 => false
  | .acIntra_0_0_4 => false
  | .acIntra_0_0_5 => false
  | .acIntra_0_0_6 => false
  | .acIntra_0_0_7 => false
  | .acIntra_0_0_8 => false
  | .acIntra_0_0_9 => false
  | .acIntra_0_0_10 => false
  | .acIntra_0_0_11 => false
  | .acIntra_0_0_12 => false
  | .acIntra_0_0_13 => false
  | .acIntra_0_0_14 => false
  | .acIntra_0_0_15 => false
  | .acIntra_0_0_16 => false
  | .acIntra_0_0_17 => false
  | .acIntra_0_0_18 => false
  | .acIntra_0_0_19 => false
  | .acIntra_0_0_20 => false
  | .acIntra_0_0_21 => false
  | .acIntra_0_0_22 => false
  | .acIntra_0_0_23 => false
  | .acIntra_0_0_24 => false
  | .acIntra_0_0_25 => false
  | .acIntra_0_0_26 => false
  | .acIntra_0_0_27 => false
  | .acIntra_0_1_1 => false
  | .acIntra_0_1_2 => false
  | .acIntra_0_1_3 => false
  | .acIntra_0_1_4 => false
  | .acIntra_0_1_5 => false
  | .acIntra_0_1_6 => false
  | .acIntra_0_1_7 => false
  | .acIntra_0_1_8 => false
  | .acIntra_0_1_9 => false
  | .acIntra_0_1_10 => false
  | .acIntra_0_2_1 => false
  | .acIntra_0_2_2 => false
  | .acIntra_0_2_3 => false
  | .acIntra_0_2_4 => false
  | .acIntra_0_2_5 => false
  | .acIntra_0_3_1 => false
  | .acIntra_0_3_2 => false
  | .acIntra_0_3_3 => false
  | .acIntra_0_3_4 => false
  | .acIntra_0_4_1 => false
  | .acIntra_0_4_2 => false
  | .acIntra_0_4_3 => false
  | .acIntra_0_5_1 => false
  | .acIntra_0_5_2 => false
  | .acIntra_0_5_3 => false
  | .acIntra_0_6_1 => false
  | .acIntra_0_6_2 => false
  | .acIntra_0_6_3 => false
  | .acIntra_0_7_1 => false
  | .acIntra_0_7_2 => false
  | .acIntra_0_7_3 => false
  | .acIntra_0_8_1 => false
  | .acIntra_0_8_2 => false
  | .acIntra_0_9_1 => false
  | .acIntra_0_9_2 => false
  | .acIntra_0_10_1 => false
  | .acIntra_0_11_1 => false
  | .acIntra_0_12_1 => false
  | .acIntra_0_13_1 => false
  | .acIntra_0_14_1 => false
  | .acIntra_1_0_1 => false
  | .acIntra_1_0_2 => false
  | .acIntra_1_0_3 => false
  | .acIntra_1_0_4 => false
  | .acIntra_1_0_5 => false
  | .acIntra_1_0_6 => false
  | .acIntra_1_0_7 => false
  | .acIntra_1_0_8 => false
  | .acIntra_1_1_1 => false
  | .acIntra_1_1_2 => false
  | .acIntra_1_1_3 => false
  | .acIntra_1_2_1 => false
  | .acIntra_1_2_2 => false
  | .acIntra_1_3_1 => false
  | .acIntra_1_3_2 => false
  | .acIntra_1_4_1 => false
  | .acIntra_1_4_2 => false
  | .acIntra_1_5_1 => false
  | .acIntra_1_5_2 => false
  | .acIntra_1_6_1 => false
  | .acIntra_1_6_2 => false
  | .acIntra_1_7_1 => false
  | .acIntra_1_8_1 => false
  | .acIntra_1_9_1 => false
  | .acIntra_1_10_1 => false
  | .acIntra_1_11_1 => false
  | .acIntra_1_12_1 => false
  | .acIntra_1_13_1 => false
  | .acIntra_1_14_1 => false
  | .acIntra_1_15_1 => false
  | .acIntra_1_16_1 => false
  | .acIntra_1_17_1 => false
  | .acIntra_1_18_1 => false
  | .acIntra_1_19_1 => false
  | .acIntra_1_20_1 => false
  | .acInter_0_0_1 => false
  | .acInter_0_0_2 => false
  | .acInter_0_0_3 => false
  | .acInter_0_0_4 => false
  | .acInter_0_0_5 => false
  | .acInter_0_0_6 => false
  | .acInter_0_0_7 => false
  | .acInter_0_0_8 => false
  | .acInter_0_0_9 => false
  | .acInter_0_0_10 => false
  | .acInter_0_0_11 => false
  | .acInter_0_0_12 => false
  | .acInter_0_1_1 => false
  | .acInter_0_1_2 => false
  | .acInter_0_1_3 => false
  | .acInter_0_1_4 => false
  | .acInter_0_1_5 => false
  | .acInter_0_1_6 => false
  | .acInter_0_2_1 => false
  | .acInter_0_2_2 => false
  | .acInter_0_2_3 => false
  | .acInter_0_2_4 => false
  | .acInter_0_3_1 => false
  | .acInter_0_3_2 => false
  | .acInter_0_3_3 => false
  | .acInter_0_4_1 => false
  | .acInter_0_4_2 => false
  | .acInter_0_4_3 => false
  | .acInter_0_5_1 => false
  | .acInter_0_5_2 => false
  | .acInter_0_5_3 => false
  | .acInter_0_6_1 => false
  | .acInter_0_6_2 => false
  | .acInter_0_6_3 => false
  | .acInter_0_7_1 => false
  | .acInter_0_7_2 => false
  | .acInter_0_8_1 => false
  | .acInter_0_8_2 => false
  | .acInter_0_9_1 => false
  | .acInter_0_9_2 => false
  | .acInter_0_10_1 => false
  | .acInter_0_10_2 => false
  | .acInter_0_11_1 => false
  | .acInter_0_12_1 => false
  | .acInter_0_13_1 => false
  | .acInter_0_14_1 => false
  | .acInter_0_15_1 => false
  | .acInter_0_16_1 => false
  | .acInter_0_17_1 => false
  | .acInter_0_18_1 => false
  | .acInter_0_19_1 => false
  | .acInter_0_20_1 => false
  | .acInter_0_21_1 => false
  | .acInter_0_22_1 => false
  | .acInter_0_23_1 => false
  | .acInter_0_24_1 => false
  | .acInter_0_25_1 => false
  | .acInter_0_26_1 => false
  | .acInter_1_0_1 => false
  | .acInter_1_0_2 => false
  | .acInter_1_0_3 => false
  | .acInter_1_1_1 => false
  | .acInter_1_1_2 => false
  | .acInter_1_2_1 => false
  | .acInter_1_3_1 => false
  | .acInter_1_4_1 => false
  | .acInter_1_5_1 => false
  | .acInter_1_6_1 => false
  | .acInter_1_7_1 => false
  | .acInter_1_8_1 => false
  | .acInter_1_9_1 => false
  | .acInter_1_10_1 => false
  | .acInter_1_11_1 => false
  | .acInter_1_12_1 => false
  | .acInter_1_13_1 => false
  | .acInter_1_14_1 => false
  | .acInter_1_15_1 => false
  | .acInter_1_16_1 => false
  | .acInter_1_17_1 => false
  | .acInter_1_18_1 => false
  | .acInter_1_19_1 => false
  | .acInter_1_20_1 => false
  | .acInter_1_21_1 => false
  | .acInter_1_22_1 => false
  | .acInter_1_23_1 => false
  | .acInter_1_24_1 => false
  | .acInter_1_25_1 => false
  | .acInter_1_26_1 => false
  | .acInter_1_27_1 => false
  | .acInter_1_28_1 => false
  | .acInter_1_29_1 => false
  | .acInter_1_30_1 => false
  | .acInter_1_31_1 => false
  | .acInter_1_32_1 => false
  | .acInter_1_33_1 => false
  | .acInter_1_34_1 => false
  | .acInter_1_35_1 => false
  | .acInter_1_36_1 => false
  | .acInter_1_37_1 => false
  | .acInter_1_38_1 => false
  | .acInter_1_39_1 => false
  | .acInter_1_40_1 => false

/-! ## A word of spec/opcode_table.json

The table writes an instruction's head at the top of a 32-bit word whose bit 31 is the first bit of
the stream. Rows of different tables have the same words (R102: the selector is state), so a word
alone does not name a row. Asked about a bare word, the model takes the first table of `bareTables`
that has a codeword there (log entry 4). -/

/-- The tables tried on a bare word, in order. -/
def bareTables : List Table := [.acInter, .mvd 1, .traj, .sc]

/-- The bits of a table word in stream order: the top bit of the word first, then zeros up to the 32
bits of the longest instruction. -/
def wordBits (nbits w : Nat) : List Bool := toBits nbits w ++ List.replicate (32 - nbits) false

/-- The first of `ts` that takes `bits`, with its instruction. A table that rejects after it has read
a codeword ends the search: the row was found and its operands are refused. -/
def firstTable (ts : List Table) (bits : List Bool) : Option (Table × Instr) :=
  match ts with
  | [] => none
  | t :: ts =>
    match decode t bits with
    | .ok i _ => some (t, i)
    | .reject _ used => if used = 0 then firstTable ts bits else none

/-- The instruction the decoder reads from a table word. -/
def decodeTableWord (nbits w : Nat) : Option Instr := (firstTable bareTables (wordBits nbits w)).map (fun p => p.2)

end Sys2Proof
end

