-- ==== Sys2Proof/Machine/Tables.lean ====
section
/-! DEFINITION. The table ROM (spec/10_state.md R35): the constants of the datapath that are not
codeword tables. The codeword tables stand in `Decode.lean`. -/

namespace Sys2Proof.Machine

/-- The three scan orders of R290. -/
inductive Scan where
  | zigzag
  | altH
  | altV
  deriving DecidableEq, Repr

/-- `ZIGZAG`, R291: entry `p` is the raster index of the coefficient at coded position `p`. -/
def zigzagTable : Vector (Fin 64) 64 :=
  #v[0, 1, 8, 16, 9, 2, 3, 10, 17, 24, 32, 25, 18, 11, 4, 5,
    12, 19, 26, 33, 40, 48, 41, 34, 27, 20, 13, 6, 7, 14, 21, 28,
    35, 42, 49, 56, 57, 50, 43, 36, 29, 22, 15, 23, 30, 37, 44, 51,
    58, 59, 52, 45, 38, 31, 39, 46, 53, 60, 61, 54, 47, 55, 62, 63]

/-- `ALT_H`, R291. -/
def altHTable : Vector (Fin 64) 64 :=
  #v[0, 1, 2, 3, 8, 9, 16, 17, 10, 11, 4, 5, 6, 7, 15, 14,
    13, 12, 19, 18, 24, 25, 32, 33, 26, 27, 20, 21, 22, 23, 28, 29,
    30, 31, 34, 35, 40, 41, 48, 49, 42, 43, 36, 37, 38, 39, 44, 45,
    46, 47, 50, 51, 56, 57, 58, 59, 52, 53, 54, 55, 60, 61, 62, 63]

/-- `ALT_V`, R291. -/
def altVTable : Vector (Fin 64) 64 :=
  #v[0, 8, 16, 24, 1, 9, 2, 10, 17, 25, 32, 40, 48, 56, 57, 49,
    41, 33, 26, 18, 3, 11, 4, 12, 19, 27, 34, 42, 50, 58, 35, 43,
    51, 59, 20, 28, 5, 13, 6, 14, 21, 29, 36, 44, 52, 60, 37, 45,
    53, 61, 22, 30, 7, 15, 23, 31, 38, 46, 54, 62, 39, 47, 55, 63]

/-- The table of a scan order. -/
def Scan.table (t : Scan) : Vector (Fin 64) 64 :=
  match t with
  | .zigzag => zigzagTable
  | .altH => altHTable
  | .altV => altVTable

/-- Default of `QM_INTRA`, raster order, R246. -/
def defaultIntraMatrix : Vector Nat 64 :=
  #v[8, 17, 18, 19, 21, 23, 25, 27,
    17, 18, 19, 21, 23, 25, 27, 28,
    20, 21, 22, 23, 24, 26, 28, 30,
    21, 22, 23, 24, 26, 28, 30, 32,
    22, 23, 24, 26, 28, 30, 32, 35,
    23, 24, 26, 28, 30, 32, 35, 38,
    25, 26, 28, 30, 32, 35, 38, 41,
    27, 28, 30, 32, 35, 38, 41, 45]

/-- Default of `QM_INTER`, raster order, R246. -/
def defaultInterMatrix : Vector Nat 64 :=
  #v[16, 17, 18, 19, 20, 21, 22, 23,
    17, 18, 19, 20, 21, 22, 23, 24,
    18, 19, 20, 21, 22, 23, 24, 25,
    19, 20, 21, 22, 23, 24, 26, 27,
    20, 21, 22, 23, 25, 26, 27, 28,
    21, 22, 23, 24, 26, 27, 28, 30,
    22, 23, 24, 26, 27, 28, 30, 31,
    23, 24, 25, 27, 28, 30, 31, 33]

/-- `THR`, R281. -/
def dcThreshold : Vector Nat 8 := #v[32, 13, 15, 17, 19, 21, 23, 0]

/-- `dc_scaler(b, QP)`, R282. -/
def dcScaler (luma : Bool) (qp : Nat) : Nat :=
  if qp ≤ 4 then 8
  else if luma then
    if qp ≤ 8 then 2 * qp else if qp ≤ 24 then qp + 8 else 2 * qp - 16
  else
    if qp ≤ 24 then (qp + 13) / 2 else qp - 6

/-- The matrix `M[k][n]` of the inverse transform, R262. -/
def idctMatrix : Vector (Vector Int 8) 8 :=
  #v[#v[16384, 16384, 16384, 16384, 16384, 16384, 16384, 16384],
     #v[22725, 19266, 12873, 4520, -4520, -12873, -19266, -22725],
     #v[21407, 8867, -8867, -21407, -21407, -8867, 8867, 21407],
     #v[19266, -4520, -22725, -12873, 12873, 22725, 4520, -19266],
     #v[16384, -16384, -16384, 16384, 16384, -16384, -16384, 16384],
     #v[12873, -22725, 4520, 19266, -19266, -4520, 22725, -12873],
     #v[8867, -21407, 21407, -8867, -8867, 21407, -21407, 8867],
     #v[4520, -12873, 19266, -22725, 22725, -19266, 12873, -4520]]

/-- The chroma rounding table `T`, R346. -/
def chromaRound : Vector Int 16 := #v[0, 0, 0, 1, 1, 1, 1, 1, 1, 1, 1, 1, 1, 1, 2, 2]

/-- `LMAX(T, last, run)`, R208: the largest level of the events of table `T` with that `last` and
`run`, computed from the table (0 where the pair does not occur). -/
def lmax (t : AcSel) (last : Bool) (run : Nat) : Nat :=
  t.rows.foldl (fun m r => if r.last = last ∧ r.run = run then max m r.level else m) 0

/-- `RMAX(T, last, level)`, R209: the largest run of the events of table `T` with that `last` and
level (0 where the pair does not occur). -/
def rmax (t : AcSel) (last : Bool) (level : Nat) : Nat :=
  t.rows.foldl (fun m r => if r.last = last ∧ r.level = level then max m r.run else m) 0

end Sys2Proof.Machine
end

