-- ==== Sys2Proof/Machine/State.lean ====
section
/-! DEFINITION. The state of M4VD as plain data (spec/10_state.md), its reset value (R39, the column
"creation"), and the reasons a step can stop. -/

namespace Sys2Proof.Machine

/-! ## Kinds and results -/

/-- The four kinds a command can return instead of a result (R460). -/
inductive Kind where
  | invalidData
  | unsupported
  | needMoreData
  | eof
  deriving DecidableEq, Repr

/-- What a command returned: `Ok`, or a kind (R460). The model's own field of the state: in the spec it
is handed to the caller and kept nowhere (log entry 10). -/
inductive Status where
  | ok
  | failed (k : Kind)
  deriving DecidableEq, Repr

/-- The codes of R460. -/
def Status.code (s : Status) : Nat :=
  match s with
  | .ok => 0
  | .failed .invalidData => 1
  | .failed .unsupported => 2
  | .failed .needMoreData => 3
  | .failed .eof => 4

/-! ## Memory -/

/-- A byte memory or a plane of samples: `(address, byte)` pairs. The address of a sample is its linear
offset `y * stride + x` (R71). The canonical form is addresses strictly rising. A byte that nothing
has written has no entry, and reads as a free value (log entry 2). -/
abbrev Memory := List Host.Cell

/-! ## Register files -/

/-- `EV`, the AC event register (R25). -/
structure Event where
  last : Bool
  run : Nat
  level : Int
  deriving DecidableEq, Repr

/-- The `MB` registers (R25). `btype` is the prediction type of a B-VOP macroblock (R181). -/
structure MbRegs where
  mode : MbMode
  btype : BType
  cbp : BitVec 6
  acPred : Bool
  mcsel : Bool
  mv : Vector MV 4
  mvb : Vector MV 4
  deriving DecidableEq, Repr

/-- An entry of `MBI` or of `REFMV` (R28, R29). -/
structure MbInfo where
  mode : MbMode
  quant : Nat
  mv : Vector MV 4
  deriving DecidableEq, Repr

/-- The value every `MBI` and `REFMV` entry is reset to (R28). -/
def MbInfo.reset : MbInfo := ⟨.notCoded, 0, Vector.replicate 4 MV.zero⟩

/-- A slot of the predictor cache `PC` (R30): `row[1..7]` and `col[1..7]` stand at indices 0 to 6. -/
structure PcSlot where
  dc : Int
  row : Vector Int 7
  col : Vector Int 7
  deriving DecidableEq, Repr

/-- A slot as the model makes it; the spec leaves it unspecified (log entry 6). -/
def PcSlot.zero : PcSlot := ⟨0, Vector.replicate 7 0, Vector.replicate 7 0⟩

/-- `GMC`, the sprite parameters (R31). -/
structure Gmc where
  du : Vector Int 3
  dv : Vector Int 3
  gmv : MV
  deriving DecidableEq, Repr

/-- `GMC` after reset (R31). -/
def Gmc.zero : Gmc := ⟨Vector.replicate 3 0, Vector.replicate 3 0, MV.zero⟩

/-! ## Frames -/

/-- The metadata record `meta` of a frame store (R32). -/
structure FrameInfo where
  poc : Int
  pts : Int
  duration : Int
  timeBase : TimeBase
  pictureType : PictureType
  isKeyframe : Bool
  deriving DecidableEq, Repr

/-- A metadata record as the model makes it; the spec leaves it unspecified (log entry 6). -/
def FrameInfo.zero : FrameInfo := ⟨0, 0, 0, ⟨0, 1⟩, .i, false⟩

/-- A frame store: three planes, a valid bit and the metadata (R32). -/
structure FrameStore where
  y : Memory
  u : Memory
  v : Memory
  valid : Bool
  info : FrameInfo
  deriving DecidableEq, Repr

/-- A store at its reset value (R32): not valid, no sample written. -/
def FrameStore.reset : FrameStore := ⟨[], [], [], false, FrameInfo.zero⟩

/-- The pixel format of every output frame, `Yuv420p` (R432). -/
inductive PixelFormat where
  | yuv420p
  deriving DecidableEq, Repr

/-- An output frame, the document's `Frame::Video` (R432): the planes, the three strides in `linesize`,
the display size, and the metadata. -/
structure Frame where
  y : Memory
  u : Memory
  v : Memory
  linesize : Nat × Nat × Nat
  width : Nat
  height : Nat
  pixelFormat : PixelFormat
  info : FrameInfo
  deriving DecidableEq, Repr

/-- A slot of the reorder buffer (R33). -/
structure RobSlot where
  frame : Frame
  seq : Nat
  deriving DecidableEq, Repr

/-! ## Sequence-level registers -/

/-- The `VOL` register group (R21), the two matrices apart. -/
structure VolRegs where
  valid : Bool
  timeIncRes : Nat
  quantType : QuantType
  interlaced : Bool
  quarterpel : Bool
  spriteEnable : SpriteEnable
  warpPoints : Nat
  warpAccuracy : Nat
  resyncMarkerDisable : Bool
  dataPartitioned : Bool
  shape : Nat
  notEightBit : Bool
  width : Nat
  height : Nat
  deriving DecidableEq, Repr

/-! ## Results -/

/-- What an instruction hands back beside its effect on the registers; the model's own (log entry 10).
Each constructor names the instruction that returns it. -/
inductive Result where
  /-- no result -/
  | none
  /-- `READ_BITS`, `PEEK_BITS`: `Some v` or `None` (R140, R141) -/
  | bits (v : Option Nat)
  /-- `SKIP_BITS`: `Some ()` or `None` (R142) -/
  | done (ok : Bool)
  /-- `BYTE_ALIGNED`, `RESYNC_DETECT`, `RESYNC` (R143, R146) -/
  | flag (b : Bool)
  /-- `FIND_START_CODE`, `SC`: the offset just past the code (R144) -/
  | offset (a : Option Nat)
  /-- `FIND_START_CODE_RANGE`: the offset and the code (R145) -/
  | offsetCode (a : Option (Nat × Byte))
  /-- `MVD`, a DC code, `DCVAL`, `TRAJ`: the delta, differential or displacement (R106, R107, R109) -/
  | int (v : Int)
  /-- `DC_PREDICT`: direction, predictor, neighbour slot (R285) -/
  | prediction (dir : Direction) (pr : Int) (n : PcSlot)
  /-- `SCAN_SELECT` (R290) -/
  | scan (t : Scan)
  /-- `RECON` (R322) -/
  | sample (v : Byte)
  /-- `MC_LUMA`, `MC_CHROMA`: an 8x8 block (R342, R347) -/
  | samples (v : Vector Byte 64)
  /-- `CHROMA_MV_1`, `CHROMA_MV_4` (R345, R346) -/
  | vector (v : MV)
  /-- `RECEIVE_FRAME` (R430) -/
  | frame (f : Frame)
  deriving DecidableEq, Repr

/-- A request the host has given and the block has not begun: a command or internal operation, or the
order to fetch one bitstream instruction with a table at `BP`. The model's own (log entry 8). -/
inductive Request where
  | command (i : Instr)
  | fetch (t : Table)
  deriving DecidableEq, Repr

/-! ## The state -/

/-- The state of one instance. Registers hold integers or naturals without a width, as decision D50
has every expression evaluated in unbounded integers (log entry 7). The last four fields are the
model's own. -/
structure State where
  /-- `BS`, the bitstream window (R20, R70) -/
  bs : Memory
  /-- `BSLEN`, its length in bytes (R20) -/
  bslen : Nat
  /-- `BP`, the bit pointer, the block's program counter (R20) -/
  bp : Nat
  /-- the `VOL` group (R21) -/
  vol : VolRegs
  /-- `QM_INTRA`, raster order (R21) -/
  qmIntra : Vector Nat 64
  /-- `QM_INTER`, raster order (R21) -/
  qmInter : Vector Nat 64
  /-- the `VOP` group (R23) -/
  vop : VopHeader
  /-- `QF`, quantized levels (R25) -/
  qf : Vector Int 64
  /-- `F`, dequantized coefficients (R25) -/
  coef : Vector Int 64
  /-- `f`, residual samples (R25) -/
  residual : Vector Int 64
  /-- `PRED`, six prediction blocks (R25) -/
  pred : Vector (Vector Byte 64) 6
  /-- `EV` (R25) -/
  ev : Event
  /-- `MB.*` (R25) -/
  mb : MbRegs
  /-- `PMV_F` (R25) -/
  pmvF : MV
  /-- `PMV_B` (R25) -/
  pmvB : MV
  /-- `QP`, the working quantizer (R26) -/
  qp : Nat
  /-- `PREV_QUANT` (R26) -/
  prevQuant : Nat
  /-- `MBK`, the macroblock being decoded (R27) -/
  mbk : Nat
  /-- `FAIL` (R27) -/
  fail : Bool
  /-- `MBI` (R28) -/
  mbi : List MbInfo
  /-- `REFMV` (R29) -/
  refmv : List MbInfo
  /-- `REFMV_VALID` (R29) -/
  refmvValid : Bool
  /-- `PC`, the predictor cache (R30) -/
  pc : List PcSlot
  /-- `GMC` (R31) -/
  gmc : Gmc
  /-- `CUR` (R32) -/
  cur : FrameStore
  /-- `REF_NEW` (R32) -/
  refNew : FrameStore
  /-- `REF_OLD` (R32) -/
  refOld : FrameStore
  /-- `ROB`, in push order (R33) -/
  rob : List RobSlot
  /-- `ROB_SEQ` (R33) -/
  robSeq : Nat
  /-- `OUTQ`, head first (R33) -/
  outq : List Frame
  /-- `ST.state`: `true` is `Opened` (R34) -/
  opened : Bool
  /-- `ST.flushing` (R34) -/
  flushing : Bool
  /-- `ST.wait_keyframe` (R34) -/
  waitKeyframe : Bool
  /-- the implementation's OPEN parameters (R9; log entry 1) -/
  params : Params
  /-- requests not yet begun (log entry 8) -/
  inq : List Request
  /-- what the last instruction returned (R460; log entry 10) -/
  status : Status
  /-- the result it handed back (log entry 10) -/
  result : Result
  deriving DecidableEq, Repr

/-! ## Why a step stops -/

/-- Faults. -/
inductive Fault where
  /-- raised by an operation on a macroblock whose index is not below `MBW * MBH`: `MBI` and the stores
  have no such entry (R27, R70). Safe: the model stops where the spec gives no meaning (log entry 12). -/
  | noSuchMacroblock
  deriving DecidableEq, Repr

/-- Refusals. -/
inductive Refusal where
  /-- raised by an arm of `exec` whose instruction has no meaning yet; safe -/
  | notModelled (mnemonic : String)
  /-- raised by `step` for a request that gives a bitstream instruction as a command: such an
  instruction has bits and is only ever fetched (R2); safe (log entry 13) -/
  | notACommand
  deriving DecidableEq, Repr

/-! ## Reset -/

/-- The `VOP` group as the model makes it; the spec leaves it unspecified (R23; log entry 6). -/
def vopReset : VopHeader :=
  { pictureType := .i, vopCoded := false, quant := 0, roundingType := false, fcodeFwd := 0, fcodeBwd := 0,
    intraDcVlcThr := 0, isSprite := false, trb := 0, trd := 0, poc := 0, pts := 0, duration := 0,
    timeBase := ⟨0, 1⟩, isKeyframe := false, mbStart := 0 }

/-- The `VOL` group after creation: not valid, the other fields unspecified (R21; log entry 6). -/
def volReset : VolRegs :=
  { valid := false, timeIncRes := 1, quantType := .h263, interlaced := false, quarterpel := false,
    spriteEnable := .none, warpPoints := 0, warpAccuracy := 0, resyncMarkerDisable := false,
    dataPartitioned := false, shape := 0, notEightBit := false, width := 0, height := 0 }

/-- The `MB` registers after creation; unspecified in the spec (R25; log entry 6). -/
def mbReset : MbRegs :=
  { mode := .inter, btype := .direct, cbp := 0#6, acPred := false, mcsel := false,
    mv := Vector.replicate 4 MV.zero, mvb := Vector.replicate 4 MV.zero }

/-- An instance right after creation, with the given parameters and pending requests (R39, column
"creation"). Registers the spec leaves unspecified hold 0, but `QP` and `VOL.time_inc_res`, which hold
1, the least legal value (log entry 6). -/
def State.creation (p : Params) (inq : List Request) : State :=
  { bs := [], bslen := 0, bp := 0
    vol := volReset, qmIntra := defaultIntraMatrix, qmInter := defaultInterMatrix
    vop := vopReset
    qf := Vector.replicate 64 0, coef := Vector.replicate 64 0, residual := Vector.replicate 64 0
    pred := Vector.replicate 6 (Vector.replicate 64 0#8)
    ev := ⟨false, 0, 0⟩, mb := mbReset, pmvF := MV.zero, pmvB := MV.zero
    qp := 1, prevQuant := 0, mbk := 0, fail := false
    mbi := [], refmv := [], refmvValid := false, pc := [], gmc := Gmc.zero
    cur := FrameStore.reset, refNew := FrameStore.reset, refOld := FrameStore.reset
    rob := [], robSeq := 0, outq := []
    opened := false, flushing := false, waitKeyframe := false
    params := p, inq := inq, status := .ok, result := .none }

/-- The machine right after reset: an instance just created, with `REORDER_DEPTH = 1` and the
recommended values of the two other OPEN parameters (R9; log entry 1), and no request pending. -/
def State.reset : State := State.creation ⟨1, true, .floor⟩ []

end Sys2Proof.Machine
end

