-- ==== Sys2Proof/Machine/Operands.lean ====
section
/-! DEFINITION. Operands and the arithmetic of the spec: the operators of R10, the values assembled from
bits (R105 to R109, R176), the median, and the positions of macroblocks and blocks (R13, R71, R312). -/

namespace Sys2Proof.Machine

/-! ## Operators of R10 -/

/-- `a >> n`: `floor(a / 2^n)`. -/
def asr (a : Int) (n : Nat) : Int := a / 2 ^ n

/-- `a / b`: division truncating toward zero. By zero: a free value (log entry 3). -/
def quot (a b : Int) : Int := if b = 0 then Config.quotientByZero a else a.tdiv b

/-- `a // b`: division to the nearest integer, halves away from zero. By zero: a free value (log entry 3). -/
def roundDiv (a b : Int) : Int :=
  if b = 0 then Config.quotientByZero a
  else a.sign * b.sign * ((2 * (a.natAbs : Int) + b.natAbs) / (2 * b.natAbs))

/-- `clamp(v, lo, hi)`. -/
def clamp (v lo hi : Int) : Int := if v < lo then lo else if v > hi then hi else v

/-- The clamp of levels and coefficients to `-2048..2047`. -/
def clampCoef (v : Int) : Int := clamp v (-2048) 2047

/-- A sample from an integer: `clamp(v, 0, 255)` as a `u8` (R322). -/
def toSample (v : Int) : Byte := BitVec.ofInt 8 (clamp v 0 255)

/-- `median(a, b, c)`: the middle value of three. -/
def median (a b c : Int) : Int := max (min a b) (min (max a b) c)

/-- The quantizer after an offset: `clamp(QP + d, 1, 31)` (R172, R183). -/
def adjustQuant (qp : Nat) (d : Int) : Nat := (clamp (qp + d) 1 31).toNat

/-! ## Values assembled from bits -/

/-- A magnitude with its sign bit: 1 is negative (R105). -/
def signed (s : Bool) (v : Int) : Int := if s then -v else v

/-- A motion-vector delta from magnitude, f_code, sign and residual (R106). -/
def mvDelta (mag f : Nat) (s : Bool) (res : Nat) : Int :=
  if mag = 0 then 0 else signed s (((mag - 1) * 2 ^ (f - 1) + res + 1 : Nat) : Int)

/-- A value of `size` bits whose first bit is its sign: R107 for the intra DC differential, and R109 for
a sprite displacement, "the same value code". -/
def signedField (size v : Nat) : Int :=
  if size = 0 then 0
  else if v / 2 ^ (size - 1) = 1 then v
  else (v : Int) - (2 ^ size - 1)

/-- `wrap(v, f)`, R176. -/
def wrapMv (v : Int) (f : Nat) : Int :=
  let range : Int := 2 ^ (f + 4)
  if v < -range then v + 2 * range else if v > range - 1 then v - 2 * range else v

/-! ## Vectors of one component after another -/

/-- Component-wise sum. -/
def addMV (a b : MV) : MV := ⟨a.x + b.x, a.y + b.y⟩

/-- A function applied to both components. -/
def mapMV (g : Int → Int) (a : MV) : MV := ⟨g a.x, g a.y⟩

/-- The four vectors of a macroblock with one vector. -/
def allFour (v : MV) : Vector MV 4 := Vector.replicate 4 v

/-! ## Positions -/

/-- `MBW`, the number of macroblock columns (R13). -/
def State.mbw (s : State) : Nat := (s.vol.width + 15) / 16

/-- `MBH`, the number of macroblock rows (R13). -/
def State.mbh (s : State) : Nat := (s.vol.height + 15) / 16

/-- `MBW * MBH`, the number of macroblocks of a frame. -/
def State.mbCount (s : State) : Nat := s.mbw * s.mbh

/-- The column `mx` of macroblock `k = my * MBW + mx` (R13). -/
def State.mbX (s : State) (k : Nat) : Nat := k % s.mbw

/-- The row `my` of macroblock `k` (R13). -/
def State.mbY (s : State) (k : Nat) : Nat := k / s.mbw

/-- Row and column of a coefficient or sample in its block: `i = 8 * row + col` (R13). -/
def rowOf (i : Fin 64) : Nat := i.val / 8

/-- The column of raster index `i`. -/
def colOf (i : Fin 64) : Nat := i.val % 8

/-- The three planes of a store. -/
inductive Plane where
  | y
  | u
  | v
  deriving DecidableEq, Repr

/-- The plane block `b` stands in (R312). -/
def blockPlane (b : Fin 6) : Plane := if b.val < 4 then .y else if b.val = 4 then .u else .v

/-- Is block `b` a luma block? -/
def isLuma (b : Fin 6) : Bool := decide (b.val < 4)

/-- The column `x0` of block `b` of a macroblock in column `mx` (R312). -/
def blockX (mx : Nat) (b : Fin 6) : Nat := if b.val < 4 then 16 * mx + 8 * (b.val % 2) else 8 * mx

/-- The row `y0` of block `b` of a macroblock in row `my` (R312). -/
def blockY (my : Nat) (b : Fin 6) : Nat := if b.val < 4 then 16 * my + 8 * (b.val / 2) else 8 * my

/-- `stride(plane)`, R71. -/
def State.stride (s : State) (p : Plane) : Nat :=
  match p with
  | .y => 16 * s.mbw
  | .u => 8 * s.mbw
  | .v => 8 * s.mbw

/-- `rows(plane)`, R71. -/
def State.rows (s : State) (p : Plane) : Nat :=
  match p with
  | .y => 16 * s.mbh
  | .u => 8 * s.mbh
  | .v => 8 * s.mbh

/-- The plane of a chroma selector. -/
def chromaPlane (c : ChromaSel) : Plane :=
  match c with
  | .u => .u
  | .v => .v

/-- Index of the predictor-cache slot of block `b` of macroblock `(mx, my)` (R30). -/
def State.pcIndex (s : State) (mx my : Nat) (b : Nat) : Nat := (my * s.mbw + mx) * 6 + b

end Sys2Proof.Machine
end

