-- ==== Sys2Proof/Machine/Ops.lean ====
section
/-! DEFINITION. The shared operations: memory, the bit reader's primitives, the raise of a kind and the
return of a result, and how a command and a codeword run. Every meaning is written with these. -/

namespace Sys2Proof.Machine

/-! ## Memory -/

/-- The byte listed at an address, if there is one. -/
def Memory.find (m : Memory) (a : Nat) : Option Byte :=
  match m with
  | [] => none
  | c :: rest => if c.1 = a then some c.2 else Memory.find rest a

/-- Reads a byte. One that nothing has written reads as a free value (R502, log entry 2). -/
def Memory.read (m : Memory) (a : Nat) : Byte := (m.find a).getD (Config.unwrittenSample a)

/-- Writes a byte, keeping the addresses rising. -/
def Memory.write (m : Memory) (a : Nat) (v : Byte) : Memory :=
  match m with
  | [] => [(a, v)]
  | c :: rest =>
    if a < c.1 then (a, v) :: c :: rest
    else if a = c.1 then (a, v) :: rest
    else c :: Memory.write rest a v

/-- The canonical form: addresses strictly rising. -/
def Memory.wf (m : Memory) : Bool :=
  match m with
  | [] => true
  | c :: rest =>
    match rest with
    | [] => true
    | d :: _ => decide (c.1 < d.1) && Memory.wf rest

/-- The memory that holds `data` at addresses `base`, `base + 1`, and so on. -/
def Memory.ofBytes (base : Nat) (data : List Byte) : Memory :=
  match data with
  | [] => []
  | b :: rest => (base, b) :: Memory.ofBytes (base + 1) rest

/-- The 64 raster indices of a block in order. -/
def raster : List (Fin 64) := List.finRange 64

/-- Writes an 8x8 block with its first sample at `(x0, y0)` of a plane of the given stride (R312). -/
def Memory.writeBlock (m : Memory) (stride x0 y0 : Nat) (v : Vector Byte 64) : Memory :=
  raster.foldl (fun m i => m.write ((y0 + rowOf i) * stride + (x0 + colOf i)) v[i]) m

/-! ## Stores -/

/-- A plane of a store. -/
def FrameStore.plane (f : FrameStore) (p : Plane) : Memory :=
  match p with
  | .y => f.y
  | .u => f.u
  | .v => f.v

/-- Replaces a plane of a store. -/
def FrameStore.setPlane (f : FrameStore) (p : Plane) (m : Memory) : FrameStore :=
  match p with
  | .y => { f with y := m }
  | .u => { f with u := m }
  | .v => { f with v := m }

/-- The store a selector names, any of the three (log entry 37). -/
def State.store (s : State) (r : StoreSel) : FrameStore :=
  match r with
  | .cur => s.cur
  | .refNew => s.refNew
  | .refOld => s.refOld

/-- Writes block `b` of macroblock `k` into `CUR` (R312, R314, R315). -/
def State.writeBlock (s : State) (k : Nat) (b : Fin 6) (v : Vector Byte 64) : State :=
  let p := blockPlane b
  { s with cur := s.cur.setPlane p ((s.cur.plane p).writeBlock (s.stride p) (blockX (s.mbX k) b) (blockY (s.mbY k) b) v) }

/-! ## Named updates of registers -/

/-- `BP <- BP + n`, case 3 of R130. -/
def State.advance (s : State) (n : Nat) : State := { s with bp := s.bp + n }

/-- Writes `QP` (R26, R172, R183). -/
def State.setQp (s : State) (q : Nat) : State := { s with qp := q }

/-- Writes `EV` (R212). -/
def State.setEv (s : State) (e : Event) : State := { s with ev := e }

/-- Writes the `MB` registers. -/
def State.setMb (s : State) (m : MbRegs) : State := { s with mb := m }

/-- Writes `QF`. -/
def State.setQf (s : State) (q : Vector Int 64) : State := { s with qf := q }

/-! ## Raising a kind, and returning -/

/-- Taking an exception: the command ends and returns kind `k` to the caller. There is no vector, no
saved program counter and no mode to change (R460, R477): the kind is all the caller is told, and every
register keeps what the operation had written up to the raise (R470). The return from an exception is
the caller's next command (R477), so no operation stands beside this one. -/
def State.raise (s : State) (k : Kind) : State := { s with status := .failed k, result := .none }

/-- A command ends with `Ok` and hands back a result (R460). -/
def State.finish (s : State) (r : Result) : State := { s with status := .ok, result := r }

/-- An operation inside a command: it ends with a value, or raises a kind and leaves the state it had
reached (R12, R470). -/
abbrev Act := EStateM Kind State

/-- An operation given by what it answers in each state. -/
def Act.of {α : Type} (f : State → EStateM.Result Kind State α) : Act α := f

/-- How a command's operation becomes an outcome: a raise is the next state, not a stop (R477). -/
def outcomeOf (r : EStateM.Result Kind State Result) : Host.Outcome State Fault Refusal :=
  match r with
  | .ok v s => .next (s.finish v)
  | .error k s => .next (s.raise k)

/-- Runs a command that needs `Opened`: in `Closed` it raises `InvalidData` and changes nothing (R420). -/
def runCommand (a : Act Result) (s : State) : Host.Outcome State Fault Refusal :=
  if s.opened then outcomeOf (a s) else .next (s.raise .invalidData)

/-- Runs a command on macroblock `k`; there is no macroblock beyond the last (R27; log entry 12). -/
def runOnMacroblock (k : Nat) (a : Act Result) (s : State) : Host.Outcome State Fault Refusal :=
  if s.opened then
    if k < s.mbCount then outcomeOf (a s) else .fault .noSuchMacroblock
  else .next (s.raise .invalidData)

/-- Runs a bitstream instruction of `n` bits with effect `g` and result `r`: where the window holds the
bits they are consumed and the effect happens; where it ends inside them, `InvalidData` and `BP` stays
(R104, R461). -/
def runCode (n : Nat) (g : State → State) (r : Result) (s : State) : Host.Outcome State Fault Refusal :=
  if s.bp + n ≤ 8 * s.bslen then .next ((g (s.advance n)).finish r) else .next (s.raise .invalidData)

/-- The bits that a run of reads, of the given lengths, takes from `n` bits: each read is all or nothing, and the
first one that fails ends the run (R104, R140, R470). -/
def wholeReads (l : List Nat) (n : Nat) : Nat :=
  match l with
  | [] => 0
  | a :: rest => if a ≤ n then a + wholeReads rest (n - a) else 0

/-- Runs a bitstream instruction made of several reads of the given lengths: where the window holds them all the
effect `g` happens; where it ends inside one, `InvalidData`, and `BP` stands after the last read that succeeded
(R461, R470). No such instruction writes a register before its last read (R212, R175, R202, R361). -/
def runReads (l : List Nat) (g : State → State) (r : Result) (s : State) : Host.Outcome State Fault Refusal :=
  if s.bp + l.sum ≤ 8 * s.bslen then .next ((g (s.advance l.sum)).finish r)
  else .next ((s.advance (wholeReads l (8 * s.bslen - s.bp))).raise .invalidData)

/-! ## The bit reader's primitives -/

/-- `Bit(p)`, R11: bit `7 - (p mod 8)` of byte `p div 8`. -/
def State.bit (s : State) (p : Nat) : Bool := (s.bs.read (p / 8)).getLsbD (7 - p % 8)

/-- The `n` bits from position `p`, in reading order. -/
def State.bitList (s : State) (p n : Nat) : List Bool :=
  match n with
  | 0 => []
  | n + 1 => s.bit p :: s.bitList (p + 1) n

/-- `Bits(p, n)`, R11. -/
def State.bits (s : State) (p n : Nat) : Nat := bitsVal (s.bitList p n)

/-- The bits a parse can see: from `BP`, at most 32 (no instruction is longer), fewer at the end of the
window. -/
def State.ahead (s : State) : List Bool := s.bitList s.bp (min 32 (8 * s.bslen - s.bp))

/-- `ReadBits(n)` inside an operation: a `None` becomes `InvalidData` there (R140, R461). -/
def readBits (n : Nat) : Act Nat := fun s =>
  if s.bp + n ≤ 8 * s.bslen then .ok (s.bits s.bp n) (s.advance n) else .error .invalidData s

/-- `ReadBits(1)` as a flag. -/
def readBit : Act Bool := do
  let v ← readBits 1
  return v == 1

/-- Runs a parser of `Decode.lean` at `BP`. `BP` moves over the reads that succeeded (R470); a failure
is `InvalidData` (R461). -/
def parse {α : Type} (d : Dec α) : Act α := fun s =>
  match d ⟨s.ahead, 0⟩ with
  | .ok v c => .ok v (s.advance c.used)
  | .error _ c => .error .invalidData (s.advance c.used)

/-! ## Control -/

/-- Applies a change to the state. -/
def update (g : State → State) : Act Unit := fun s => .ok () (g s)

/-- Raises a kind. -/
def raiseKind {α : Type} (k : Kind) : Act α := fun s => .error k s

/-- Raises `k` where the condition fails, before anything else is done. -/
def require (c : Bool) (k : Kind) : Act Unit := if c then pure () else raiseKind k

/-- Does `f` for each element in order; the first raise ends it. -/
def forEach {α : Type} (l : List α) (f : α → Act Unit) : Act Unit :=
  match l with
  | [] => pure ()
  | a :: rest => do
    f a
    forEach rest f

/-- The six blocks in the order of processing (R311). -/
def blocks : List (Fin 6) := [0, 1, 2, 3, 4, 5]

end Sys2Proof.Machine
end

