-- ==== Sys2Proof/Machine/Flags.lean ====
section
/-! DEFINITION. Flags and conditions (spec/10_state.md R34): the coded-block flags, the choices the
sequencer makes from state alone (R102), and the checks of spec/60_exceptions.md. -/

namespace Sys2Proof.Machine

/-! ## Macroblock conditions -/

/-- Is a mode Intra or IntraQ? -/
def isIntraMode (m : MbMode) : Bool :=
  match m with
  | .intra => true
  | .intraQ => true
  | .inter => false
  | .interQ => false
  | .inter4V => false
  | .notCoded => false

/-- Does a mode carry motion vectors (Inter, InterQ, Inter4V: R324)? -/
def hasVectors (m : MbMode) : Bool :=
  match m with
  | .inter => true
  | .interQ => true
  | .inter4V => true
  | .intra => false
  | .intraQ => false
  | .notCoded => false

/-- Does a mode carry a quantizer change (InterQ, IntraQ: R172)? -/
def hasDquant (m : MbMode) : Bool :=
  match m with
  | .interQ => true
  | .intraQ => true
  | .inter => false
  | .inter4V => false
  | .intra => false
  | .notCoded => false

/-- The coded flag of block `b`: bit `5 - b` of `MB.cbp` (R25). -/
def codedFlag (cbp : BitVec 6) (b : Fin 6) : Bool := cbp.getLsbD (5 - b.val)

/-- `MB.cbp` from the luma and chroma patterns: `(cbpy << 2) | cbpc` (R162). -/
def joinCbp (cbpy : BitVec 4) (cbpc : BitVec 2) : BitVec 6 := BitVec.ofNat 6 (4 * cbpy.toNat + cbpc.toNat)

/-- The chroma part of `MB.cbp`. -/
def cbpcOf (cbp : BitVec 6) : BitVec 2 := cbp.extractLsb' 0 2

/-- The luma part of `MB.cbp`. -/
def cbpyOf (cbp : BitVec 6) : BitVec 4 := cbp.extractLsb' 2 4

/-- The luma pattern a CBPY symbol means: itself in an intra macroblock, `15 - intra` otherwise (R162). -/
def cbpyValue (intra : Bool) (c : BitVec 4) : BitVec 4 := if intra then c else 15#4 - c

/-- Is the current macroblock intra? In a B VOP none is (R384, log entry 16). -/
def State.mbIntra (s : State) : Bool := isIntraMode s.mb.mode && decide (s.vop.pictureType ≠ .b)

/-- `use_dc_vlc`, R281. -/
def State.useDcVlc (s : State) : Bool := decide (s.qp < dcThreshold.toList.getD s.vop.intraDcVlcThr 0)

/-- The rounding control of the interpolator: `VOP.rounding_type` in P and S VOPs, 0 in I and B (R23). -/
def State.rounding (s : State) : Bool :=
  match s.vop.pictureType with
  | .p => s.vop.roundingType
  | .s => s.vop.roundingType
  | .i => false
  | .b => false

/-! ## Checks -/

/-- A tool the block refuses with `Unsupported` (R466, and R122 for `sprite_enable = 3`). -/
def refusedTool (interlaced partitioned : Bool) (sprite : SpriteEnable) (shape : Nat) (not8 : Bool) (warp : Nat) : Bool :=
  interlaced || partitioned || decide (sprite = .static) || decide (sprite = .reserved) || decide (shape ≠ 0) || not8
    || decide (warp > 3)

/-- The refused tools of the `VOL` group. -/
def VolRegs.refused (v : VolRegs) : Bool :=
  refusedTool v.interlaced v.dataPartitioned v.spriteEnable v.shape v.notEightBit v.warpPoints

/-- The refused tools of a VOL header. -/
def headerRefused (v : VolHeader) : Bool :=
  refusedTool v.interlaced v.dataPartitioned v.spriteEnable v.shape v.notEightBit v.warpPoints

/-- A matrix that is present and has an entry of 0 (R424). -/
def zeroEntry (m : Option (Vector Nat 64)) : Bool :=
  match m with
  | .none => false
  | .some v => v.toList.any (fun e => decide (e = 0))

/-- What makes a VOL header `InvalidData`: a size of 0 (R421) or a matrix entry of 0 (R424). -/
def headerInvalid (v : VolHeader) : Bool :=
  (match v.size with
   | .none => false
   | .some p => decide (p.1 = 0) || decide (p.2 = 0))
  || zeroEntry v.intraMatrix || zeroEntry v.interMatrix

/-- A `VOP` value that is not legal (R24). -/
def State.illegalVop (s : State) : Bool :=
  (decide (s.vop.pictureType ≠ .i) && decide (s.vop.fcodeFwd = 0))
  || (decide (s.vop.pictureType = .b) && (decide (s.vop.fcodeBwd = 0) || decide (s.vop.trd ≤ 0)))
  || (decide (s.vop.pictureType = .s) && decide (s.vol.spriteEnable = .none))

/-- A reference the picture type needs is not valid (R473, R474). -/
def State.missingReference (s : State) : Bool :=
  match s.vop.pictureType with
  | .i => false
  | .p => !s.refNew.valid
  | .s => !s.refNew.valid
  | .b => !s.refNew.valid || !s.refOld.valid

/-- The quantizer a VOP starts with: `VOP.quant`, or `PREV_QUANT` where that is 0 ("keep previous"); 0
means there is none (R26). -/
def State.startQuant (s : State) : Nat := if s.vop.quant ≠ 0 then s.vop.quant else s.prevQuant

end Sys2Proof.Machine
end

