-- ==== Sys2Proof/Machine/BitReader.lean ====
section
/-! DEFINITION. Bit reader, start-code scanner and resync-marker detector (spec/40_bitreader.md), and the
two bitstream instructions they recognize, `SC` and `RESYNC` (spec/30_encoding.md R114, R115). -/

namespace Sys2Proof.Machine

/-! ## Scanning -/

/-- The first `00 00 01 c` with `p c` in `data`, whose first byte has offset `a`: the offset just past
it, and `c` (R144, R145). -/
def scanCode (p : Byte → Bool) (a : Nat) (data : List Byte) : Option (Nat × Byte) :=
  match data with
  | [] => none
  | b0 :: rest =>
    match rest with
    | b1 :: b2 :: b3 :: _ =>
      if b0 = 0#8 ∧ b1 = 0#8 ∧ b2 = 1#8 ∧ p b3 = true then some (a + 4, b3) else scanCode p (a + 1) rest
    | _ => none

/-- `FindStartCode(data, code)`, R144. -/
def findStartCode (data : List Byte) (code : Byte) : Option Nat :=
  (scanCode (fun c => c == code) 0 data).map (fun r => r.1)

/-- `FindStartCodeRange(data, lo, hi)`, R145. -/
def findStartCodeRange (data : List Byte) (lo hi : Byte) : Option (Nat × Byte) :=
  scanCode (fun c => decide (lo.toNat ≤ c.toNat) && decide (c.toNat ≤ hi.toNat)) 0 data

/-- Are the `n` bits from `p` all equal to `b`? -/
def State.allBits (s : State) (b : Bool) (p n : Nat) : Bool :=
  match n with
  | 0 => true
  | n + 1 => s.bit p == b && s.allBits b (p + 1) n

/-- `ResyncDetect(p, f_code)`, R146. -/
def State.resyncDetect (s : State) (p f : Nat) : Bool :=
  let k := 7 - p % 8
  let z := 16 + f
  if p + 1 + k + z + 1 > 8 * s.bslen then false
  else s.bit p == false && s.allBits true (p + 1) k && s.allBits false (p + k + 1) z && s.bit (p + k + z + 1)

/-- A start code with byte `c` at `BP`: `BP` is on a byte boundary and the four bytes there are
`00 00 01 c` (R114). -/
def State.startCodeAt (s : State) (c : Byte) : Bool :=
  decide (s.bp % 8 = 0) && decide (s.bp + 32 ≤ 8 * s.bslen) && decide (s.bits s.bp 32 = 256 + c.toNat)

/-! ## Meanings -/

/-- `READ_BITS n`, R140: `Some v` and `BP + n`, or `None` and nothing changed. -/
def execReadBits (n : Fin 33) (s : State) : Host.Outcome State Fault Refusal :=
  runCommand (Act.of fun s =>
    if s.bp + n.val ≤ 8 * s.bslen then .ok (.bits (some (s.bits s.bp n.val))) (s.advance n.val)
    else .ok (.bits none) s) s

/-- `PEEK_BITS n`, R141. -/
def execPeekBits (n : Fin 33) (s : State) : Host.Outcome State Fault Refusal :=
  runCommand (Act.of fun s =>
    if s.bp + n.val ≤ 8 * s.bslen then .ok (.bits (some (s.bits s.bp n.val))) s else .ok (.bits none) s) s

/-- `SKIP_BITS n`, R142. -/
def execSkipBits (n : Fin 33) (s : State) : Host.Outcome State Fault Refusal :=
  runCommand (Act.of fun s =>
    if s.bp + n.val ≤ 8 * s.bslen then .ok (.done true) (s.advance n.val) else .ok (.done false) s) s

/-- `BYTE_ALIGNED`, R143. -/
def execByteAligned (s : State) : Host.Outcome State Fault Refusal :=
  runCommand (Act.of fun s => .ok (.flag (decide (s.bp % 8 = 0))) s) s

/-- `FIND_START_CODE data, code`, R144. -/
def execFindStartCode (data : List Byte) (code : Byte) (s : State) : Host.Outcome State Fault Refusal :=
  runCommand (Act.of fun s => .ok (.offset (findStartCode data code)) s) s

/-- `FIND_START_CODE_RANGE data, lo, hi`, R145. -/
def execFindStartCodeRange (data : List Byte) (lo hi : Byte) (s : State) : Host.Outcome State Fault Refusal :=
  runCommand (Act.of fun s => .ok (.offsetCode (findStartCodeRange data lo hi)) s) s

/-- `RESYNC_DETECT p, f_code`, R146. -/
def execResyncDetect (p : Nat) (f : Fin 8) (s : State) : Host.Outcome State Fault Refusal :=
  runCommand (Act.of fun s => .ok (.flag (s.resyncDetect p f.val)) s) s

/-- `SC c`, R114: a start code is recognized where it stands and `BP` does not move (R130 lists every
change of `BP`, and scanning is none); the result is the offset just past it (log entry 14). -/
def execSc (code : Byte) (s : State) : Host.Outcome State Fault Refusal :=
  .next (s.finish (.offset (if s.startCodeAt code then some (s.bp / 8 + 4) else none)))

/-- `RESYNC`, R115, R146: the marker is detected where it stands and `BP` does not move; its stuffing of
`k` ones ends on a byte boundary (log entry 14). -/
def execResync (k f : Fin 8) (s : State) : Host.Outcome State Fault Refusal :=
  .next (s.finish (.flag (decide (k.val = 7 - s.bp % 8) && s.resyncDetect s.bp f.val)))

end Sys2Proof.Machine
end

