-- ==== Sys2Proof/Machine/MbHeader.lean ====
section
/-! DEFINITION. Macroblock-header instructions (spec/41_vlc_mb_header.md): MCBPC, CBPY, the one- and
two-bit fields, motion-vector deltas, the B-VOP types and DBQUANT. -/

namespace Sys2Proof.Machine

/-! ## Effects -/

/-- Effect of an MCBPC symbol: `MB.mode` and the low two bits of `MB.cbp`; stuffing writes nothing
(R160, R161, R121). -/
def State.setMcbpc (s : State) (m : Mcbpc) : State :=
  match m with
  | .mb mode cbpc => s.setMb { s.mb with mode := mode, cbp := joinCbp (cbpyOf s.mb.cbp) cbpc }
  | .stuffing => s

/-- Effect of a CBPY symbol: the high four bits of `MB.cbp`, read by the mode of the macroblock (R162). -/
def State.setCbpy (s : State) (c : BitVec 4) : State :=
  s.setMb { s.mb with cbp := joinCbp (cbpyValue (isIntraMode s.mb.mode) c) (cbpcOf s.mb.cbp) }

/-- Effect of `not_coded`: 1 makes the mode NotCoded (R170, R101). -/
def State.setNotCoded (s : State) (b : Bool) : State :=
  if b then s.setMb { s.mb with mode := .notCoded } else s

/-- Effect of `ac_pred_flag` (R171). -/
def State.setAcPred (s : State) (b : Bool) : State := s.setMb { s.mb with acPred := b }

/-- Effect of `mcsel` (R173). -/
def State.setMcsel (s : State) (b : Bool) : State := s.setMb { s.mb with mcsel := b }

/-- Effect of `dquant` and of `dbquant`: `QP <- clamp(QP + d, 1, 31)` (R172, R183). -/
def State.offsetQp (s : State) (d : Int) : State := s.setQp (adjustQuant s.qp d)

/-- Effect of a MODB codeword: `1` makes the macroblock DirectNoneMv with no block coded, `01` leaves no
pattern to read so none is coded, `00` decides nothing yet (R180, R182). -/
def State.setModb (s : State) (m : Modb) : State :=
  match m with
  | .directNoneMv => s.setMb { s.mb with btype := .directNoneMv, cbp := 0#6 }
  | .typeOnly => s.setMb { s.mb with cbp := 0#6 }
  | .typeAndCbpb => s

/-- Effect of a BMBTYPE codeword (R181). -/
def State.setBtype (s : State) (t : BType) : State := s.setMb { s.mb with btype := t }

/-- Effect of `cbpb` (R182). -/
def State.setCbp (s : State) (v : BitVec 6) : State := s.setMb { s.mb with cbp := v }

/-! ## Reading deltas and vectors -/

/-- `decode_delta(f)`, R175. -/
def decodeDelta (f : Nat) : Act Int := do
  let (r, s, res) ← parse (parseMvd f)
  return mvDelta r.mag f s res

/-- `wrap(p + delta)` for both components, horizontal first (R177, R185). -/
def decodeVector (p : MV) (f : Nat) : Act MV := do
  let dx ← decodeDelta f
  let dy ← decodeDelta f
  return ⟨wrapMv (p.x + dx) f, wrapMv (p.y + dy) f⟩

/-- The `MBI` entry of macroblock `k`. -/
def State.mbiAt (s : State) (k : Nat) : MbInfo := s.mbi.getD k MbInfo.reset

/-- The `MBI` vector `b` of macroblock `(x, y)`, where it lies in the frame. -/
def State.mbiMv (s : State) (inside : Bool) (x y : Nat) (b : Fin 4) : Option MV :=
  if inside then some (s.mbiAt (y * s.mbw + x)).mv[b] else none

/-- The three candidates `A`, `B`, `C` for block `b` of macroblock `k`; `none` is a candidate that is not
valid (table of R178). -/
def State.mvCandidates (s : State) (k : Nat) (b : Fin 4) : Option MV × Option MV × Option MV :=
  let mx := s.mbX k
  let my := s.mbY k
  let left (i : Fin 4) := s.mbiMv (decide (1 ≤ mx)) (mx - 1) my i
  let above (i : Fin 4) := s.mbiMv (decide (1 ≤ my)) mx (my - 1) i
  let aboveRight (i : Fin 4) := s.mbiMv (decide (1 ≤ my) && decide (mx + 1 < s.mbw)) (mx + 1) (my - 1) i
  if b.val = 0 then (left 1, above 2, aboveRight 2)
  else if b.val = 1 then (some s.mb.mv[0], above 3, aboveRight 2)
  else if b.val = 2 then (left 3, some s.mb.mv[0], some s.mb.mv[1])
  else (some s.mb.mv[2], some s.mb.mv[0], some s.mb.mv[1])

/-- Fills in the candidates that are not valid (R178): one alone is zero, two equal the third, three are
zero. -/
def fillCandidates (c : Option MV × Option MV × Option MV) : MV × MV × MV :=
  match c with
  | (some a, some b, some d) => (a, b, d)
  | (none, some b, some d) => (MV.zero, b, d)
  | (some a, none, some d) => (a, MV.zero, d)
  | (some a, some b, none) => (a, b, MV.zero)
  | (some a, none, none) => (a, a, a)
  | (none, some b, none) => (b, b, b)
  | (none, none, some d) => (d, d, d)
  | (none, none, none) => (MV.zero, MV.zero, MV.zero)

/-- The component-wise median of three vectors. -/
def medianMV (c : MV × MV × MV) : MV := ⟨median c.1.x c.2.1.x c.2.2.x, median c.1.y c.2.1.y c.2.2.y⟩

/-- `predictor(b)` of macroblock `k`, R178. -/
def State.mvPredictor (s : State) (k : Nat) (b : Fin 4) : MV := medianMV (fillCandidates (s.mvCandidates k b))

/-- `decode_mv(b)` of macroblock `k`, R177: the vector, not yet written. -/
def decodeMv (k : Nat) (b : Fin 4) : Act MV := fun s => decodeVector (s.mvPredictor k b) s.vop.fcodeFwd s

/-! ## Meanings -/

/-- `MCBPC_I_3_0`, R160. -/
def execMcbpcI_3_0 (s : State) : Host.Outcome State Fault Refusal :=
  runCode 1 (fun s => s.setMcbpc (.mb .intra 0#2)) .none s

/-- `MCBPC_I_3_1`, R160. -/
def execMcbpcI_3_1 (s : State) : Host.Outcome State Fault Refusal :=
  runCode 3 (fun s => s.setMcbpc (.mb .intra 1#2)) .none s

/-- `MCBPC_I_3_2`, R160. -/
def execMcbpcI_3_2 (s : State) : Host.Outcome State Fault Refusal :=
  runCode 3 (fun s => s.setMcbpc (.mb .intra 2#2)) .none s

/-- `MCBPC_I_3_3`, R160. -/
def execMcbpcI_3_3 (s : State) : Host.Outcome State Fault Refusal :=
  runCode 3 (fun s => s.setMcbpc (.mb .intra 3#2)) .none s

/-- `MCBPC_I_4_0`, R160. -/
def execMcbpcI_4_0 (s : State) : Host.Outcome State Fault Refusal :=
  runCode 4 (fun s => s.setMcbpc (.mb .intraQ 0#2)) .none s

/-- `MCBPC_I_4_1`, R160. -/
def execMcbpcI_4_1 (s : State) : Host.Outcome State Fault Refusal :=
  runCode 6 (fun s => s.setMcbpc (.mb .intraQ 1#2)) .none s

/-- `MCBPC_I_4_2`, R160. -/
def execMcbpcI_4_2 (s : State) : Host.Outcome State Fault Refusal :=
  runCode 6 (fun s => s.setMcbpc (.mb .intraQ 2#2)) .none s

/-- `MCBPC_I_4_3`, R160. -/
def execMcbpcI_4_3 (s : State) : Host.Outcome State Fault Refusal :=
  runCode 6 (fun s => s.setMcbpc (.mb .intraQ 3#2)) .none s

/-- `MCBPC_I.STUFF`, R160. -/
def execMcbpcI_stuff (s : State) : Host.Outcome State Fault Refusal :=
  runCode 9 (fun s => s.setMcbpc .stuffing) .none s

/-- `MCBPC_P_0_0`, R161. -/
def execMcbpcP_0_0 (s : State) : Host.Outcome State Fault Refusal :=
  runCode 1 (fun s => s.setMcbpc (.mb .inter 0#2)) .none s

/-- `MCBPC_P_0_1`, R161. -/
def execMcbpcP_0_1 (s : State) : Host.Outcome State Fault Refusal :=
  runCode 4 (fun s => s.setMcbpc (.mb .inter 1#2)) .none s

/-- `MCBPC_P_0_2`, R161. -/
def execMcbpcP_0_2 (s : State) : Host.Outcome State Fault Refusal :=
  runCode 4 (fun s => s.setMcbpc (.mb .inter 2#2)) .none s

/-- `MCBPC_P_0_3`, R161. -/
def execMcbpcP_0_3 (s : State) : Host.Outcome State Fault Refusal :=
  runCode 6 (fun s => s.setMcbpc (.mb .inter 3#2)) .none s

/-- `MCBPC_P_1_0`, R161. -/
def execMcbpcP_1_0 (s : State) : Host.Outcome State Fault Refusal :=
  runCode 3 (fun s => s.setMcbpc (.mb .interQ 0#2)) .none s

/-- `MCBPC_P_1_1`, R161. -/
def execMcbpcP_1_1 (s : State) : Host.Outcome State Fault Refusal :=
  runCode 7 (fun s => s.setMcbpc (.mb .interQ 1#2)) .none s

/-- `MCBPC_P_1_2`, R161. -/
def execMcbpcP_1_2 (s : State) : Host.Outcome State Fault Refusal :=
  runCode 7 (fun s => s.setMcbpc (.mb .interQ 2#2)) .none s

/-- `MCBPC_P_1_3`, R161. -/
def execMcbpcP_1_3 (s : State) : Host.Outcome State Fault Refusal :=
  runCode 9 (fun s => s.setMcbpc (.mb .interQ 3#2)) .none s

/-- `MCBPC_P_2_0`, R161. -/
def execMcbpcP_2_0 (s : State) : Host.Outcome State Fault Refusal :=
  runCode 3 (fun s => s.setMcbpc (.mb .inter4V 0#2)) .none s

/-- `MCBPC_P_2_1`, R161. -/
def execMcbpcP_2_1 (s : State) : Host.Outcome State Fault Refusal :=
  runCode 7 (fun s => s.setMcbpc (.mb .inter4V 1#2)) .none s

/-- `MCBPC_P_2_2`, R161. -/
def execMcbpcP_2_2 (s : State) : Host.Outcome State Fault Refusal :=
  runCode 7 (fun s => s.setMcbpc (.mb .inter4V 2#2)) .none s

/-- `MCBPC_P_2_3`, R161. -/
def execMcbpcP_2_3 (s : State) : Host.Outcome State Fault Refusal :=
  runCode 8 (fun s => s.setMcbpc (.mb .inter4V 3#2)) .none s

/-- `MCBPC_P_3_0`, R161. -/
def execMcbpcP_3_0 (s : State) : Host.Outcome State Fault Refusal :=
  runCode 5 (fun s => s.setMcbpc (.mb .intra 0#2)) .none s

/-- `MCBPC_P_3_1`, R161. -/
def execMcbpcP_3_1 (s : State) : Host.Outcome State Fault Refusal :=
  runCode 8 (fun s => s.setMcbpc (.mb .intra 1#2)) .none s

/-- `MCBPC_P_3_2`, R161. -/
def execMcbpcP_3_2 (s : State) : Host.Outcome State Fault Refusal :=
  runCode 8 (fun s => s.setMcbpc (.mb .intra 2#2)) .none s

/-- `MCBPC_P_3_3`, R161. -/
def execMcbpcP_3_3 (s : State) : Host.Outcome State Fault Refusal :=
  runCode 7 (fun s => s.setMcbpc (.mb .intra 3#2)) .none s

/-- `MCBPC_P_4_0`, R161. -/
def execMcbpcP_4_0 (s : State) : Host.Outcome State Fault Refusal :=
  runCode 6 (fun s => s.setMcbpc (.mb .intraQ 0#2)) .none s

/-- `MCBPC_P_4_1`, R161. -/
def execMcbpcP_4_1 (s : State) : Host.Outcome State Fault Refusal :=
  runCode 9 (fun s => s.setMcbpc (.mb .intraQ 1#2)) .none s

/-- `MCBPC_P_4_2`, R161. -/
def execMcbpcP_4_2 (s : State) : Host.Outcome State Fault Refusal :=
  runCode 9 (fun s => s.setMcbpc (.mb .intraQ 2#2)) .none s

/-- `MCBPC_P_4_3`, R161. -/
def execMcbpcP_4_3 (s : State) : Host.Outcome State Fault Refusal :=
  runCode 9 (fun s => s.setMcbpc (.mb .intraQ 3#2)) .none s

/-- `MCBPC_P.STUFF`, R161. -/
def execMcbpcP_stuff (s : State) : Host.Outcome State Fault Refusal :=
  runCode 9 (fun s => s.setMcbpc .stuffing) .none s

/-- `CBPY_0`, R162. -/
def execCbpy_0 (s : State) : Host.Outcome State Fault Refusal :=
  runCode 4 (fun s => s.setCbpy 0#4) .none s

/-- `CBPY_1`, R162. -/
def execCbpy_1 (s : State) : Host.Outcome State Fault Refusal :=
  runCode 5 (fun s => s.setCbpy 1#4) .none s

/-- `CBPY_2`, R162. -/
def execCbpy_2 (s : State) : Host.Outcome State Fault Refusal :=
  runCode 5 (fun s => s.setCbpy 2#4) .none s

/-- `CBPY_3`, R162. -/
def execCbpy_3 (s : State) : Host.Outcome State Fault Refusal :=
  runCode 4 (fun s => s.setCbpy 3#4) .none s

/-- `CBPY_4`, R162. -/
def execCbpy_4 (s : State) : Host.Outcome State Fault Refusal :=
  runCode 5 (fun s => s.setCbpy 4#4) .none s

/-- `CBPY_5`, R162. -/
def execCbpy_5 (s : State) : Host.Outcome State Fault Refusal :=
  runCode 4 (fun s => s.setCbpy 5#4) .none s

/-- `CBPY_6`, R162. -/
def execCbpy_6 (s : State) : Host.Outcome State Fault Refusal :=
  runCode 6 (fun s => s.setCbpy 6#4) .none s

/-- `CBPY_7`, R162. -/
def execCbpy_7 (s : State) : Host.Outcome State Fault Refusal :=
  runCode 4 (fun s => s.setCbpy 7#4) .none s

/-- `CBPY_8`, R162. -/
def execCbpy_8 (s : State) : Host.Outcome State Fault Refusal :=
  runCode 5 (fun s => s.setCbpy 8#4) .none s

/-- `CBPY_9`, R162. -/
def execCbpy_9 (s : State) : Host.Outcome State Fault Refusal :=
  runCode 6 (fun s => s.setCbpy 9#4) .none s

/-- `CBPY_10`, R162. -/
def execCbpy_10 (s : State) : Host.Outcome State Fault Refusal :=
  runCode 4 (fun s => s.setCbpy 10#4) .none s

/-- `CBPY_11`, R162. -/
def execCbpy_11 (s : State) : Host.Outcome State Fault Refusal :=
  runCode 4 (fun s => s.setCbpy 11#4) .none s

/-- `CBPY_12`, R162. -/
def execCbpy_12 (s : State) : Host.Outcome State Fault Refusal :=
  runCode 4 (fun s => s.setCbpy 12#4) .none s

/-- `CBPY_13`, R162. -/
def execCbpy_13 (s : State) : Host.Outcome State Fault Refusal :=
  runCode 4 (fun s => s.setCbpy 13#4) .none s

/-- `CBPY_14`, R162. -/
def execCbpy_14 (s : State) : Host.Outcome State Fault Refusal :=
  runCode 4 (fun s => s.setCbpy 14#4) .none s

/-- `CBPY_15`, R162. -/
def execCbpy_15 (s : State) : Host.Outcome State Fault Refusal :=
  runCode 2 (fun s => s.setCbpy 15#4) .none s

/-- `MVD_mag_0`, R174. -/
def execMvd_0 (s : State) : Host.Outcome State Fault Refusal :=
  runCode 1 (fun s => s) (.int 0) s

/-- `MVD_mag_1`, R174. -/
def execMvd_1 (f : Nat) (s : Bool) (res : Nat) (st : State) : Host.Outcome State Fault Refusal :=
  runReads [2, 1, f - 1] (fun s => s) (.int (mvDelta 1 f s res)) st

/-- `MVD_mag_2`, R174. -/
def execMvd_2 (f : Nat) (s : Bool) (res : Nat) (st : State) : Host.Outcome State Fault Refusal :=
  runReads [3, 1, f - 1] (fun s => s) (.int (mvDelta 2 f s res)) st

/-- `MVD_mag_3`, R174. -/
def execMvd_3 (f : Nat) (s : Bool) (res : Nat) (st : State) : Host.Outcome State Fault Refusal :=
  runReads [4, 1, f - 1] (fun s => s) (.int (mvDelta 3 f s res)) st

/-- `MVD_mag_4`, R174. -/
def execMvd_4 (f : Nat) (s : Bool) (res : Nat) (st : State) : Host.Outcome State Fault Refusal :=
  runReads [6, 1, f - 1] (fun s => s) (.int (mvDelta 4 f s res)) st

/-- `MVD_mag_5`, R174. -/
def execMvd_5 (f : Nat) (s : Bool) (res : Nat) (st : State) : Host.Outcome State Fault Refusal :=
  runReads [7, 1, f - 1] (fun s => s) (.int (mvDelta 5 f s res)) st

/-- `MVD_mag_6`, R174. -/
def execMvd_6 (f : Nat) (s : Bool) (res : Nat) (st : State) : Host.Outcome State Fault Refusal :=
  runReads [7, 1, f - 1] (fun s => s) (.int (mvDelta 6 f s res)) st

/-- `MVD_mag_7`, R174. -/
def execMvd_7 (f : Nat) (s : Bool) (res : Nat) (st : State) : Host.Outcome State Fault Refusal :=
  runReads [7, 1, f - 1] (fun s => s) (.int (mvDelta 7 f s res)) st

/-- `MVD_mag_8`, R174. -/
def execMvd_8 (f : Nat) (s : Bool) (res : Nat) (st : State) : Host.Outcome State Fault Refusal :=
  runReads [9, 1, f - 1] (fun s => s) (.int (mvDelta 8 f s res)) st

/-- `MVD_mag_9`, R174. -/
def execMvd_9 (f : Nat) (s : Bool) (res : Nat) (st : State) : Host.Outcome State Fault Refusal :=
  runReads [9, 1, f - 1] (fun s => s) (.int (mvDelta 9 f s res)) st

/-- `MVD_mag_10`, R174. -/
def execMvd_10 (f : Nat) (s : Bool) (res : Nat) (st : State) : Host.Outcome State Fault Refusal :=
  runReads [9, 1, f - 1] (fun s => s) (.int (mvDelta 10 f s res)) st

/-- `MVD_mag_11`, R174. -/
def execMvd_11 (f : Nat) (s : Bool) (res : Nat) (st : State) : Host.Outcome State Fault Refusal :=
  runReads [10, 1, f - 1] (fun s => s) (.int (mvDelta 11 f s res)) st

/-- `MVD_mag_12`, R174. -/
def execMvd_12 (f : Nat) (s : Bool) (res : Nat) (st : State) : Host.Outcome State Fault Refusal :=
  runReads [10, 1, f - 1] (fun s => s) (.int (mvDelta 12 f s res)) st

/-- `MVD_mag_13`, R174. -/
def execMvd_13 (f : Nat) (s : Bool) (res : Nat) (st : State) : Host.Outcome State Fault Refusal :=
  runReads [10, 1, f - 1] (fun s => s) (.int (mvDelta 13 f s res)) st

/-- `MVD_mag_14`, R174. -/
def execMvd_14 (f : Nat) (s : Bool) (res : Nat) (st : State) : Host.Outcome State Fault Refusal :=
  runReads [10, 1, f - 1] (fun s => s) (.int (mvDelta 14 f s res)) st

/-- `MVD_mag_15`, R174. -/
def execMvd_15 (f : Nat) (s : Bool) (res : Nat) (st : State) : Host.Outcome State Fault Refusal :=
  runReads [10, 1, f - 1] (fun s => s) (.int (mvDelta 15 f s res)) st

/-- `MVD_mag_16`, R174. -/
def execMvd_16 (f : Nat) (s : Bool) (res : Nat) (st : State) : Host.Outcome State Fault Refusal :=
  runReads [10, 1, f - 1] (fun s => s) (.int (mvDelta 16 f s res)) st

/-- `MVD_mag_17`, R174. -/
def execMvd_17 (f : Nat) (s : Bool) (res : Nat) (st : State) : Host.Outcome State Fault Refusal :=
  runReads [10, 1, f - 1] (fun s => s) (.int (mvDelta 17 f s res)) st

/-- `MVD_mag_18`, R174. -/
def execMvd_18 (f : Nat) (s : Bool) (res : Nat) (st : State) : Host.Outcome State Fault Refusal :=
  runReads [10, 1, f - 1] (fun s => s) (.int (mvDelta 18 f s res)) st

/-- `MVD_mag_19`, R174. -/
def execMvd_19 (f : Nat) (s : Bool) (res : Nat) (st : State) : Host.Outcome State Fault Refusal :=
  runReads [10, 1, f - 1] (fun s => s) (.int (mvDelta 19 f s res)) st

/-- `MVD_mag_20`, R174. -/
def execMvd_20 (f : Nat) (s : Bool) (res : Nat) (st : State) : Host.Outcome State Fault Refusal :=
  runReads [10, 1, f - 1] (fun s => s) (.int (mvDelta 20 f s res)) st

/-- `MVD_mag_21`, R174. -/
def execMvd_21 (f : Nat) (s : Bool) (res : Nat) (st : State) : Host.Outcome State Fault Refusal :=
  runReads [10, 1, f - 1] (fun s => s) (.int (mvDelta 21 f s res)) st

/-- `MVD_mag_22`, R174. -/
def execMvd_22 (f : Nat) (s : Bool) (res : Nat) (st : State) : Host.Outcome State Fault Refusal :=
  runReads [10, 1, f - 1] (fun s => s) (.int (mvDelta 22 f s res)) st

/-- `MVD_mag_23`, R174. -/
def execMvd_23 (f : Nat) (s : Bool) (res : Nat) (st : State) : Host.Outcome State Fault Refusal :=
  runReads [10, 1, f - 1] (fun s => s) (.int (mvDelta 23 f s res)) st

/-- `MVD_mag_24`, R174. -/
def execMvd_24 (f : Nat) (s : Bool) (res : Nat) (st : State) : Host.Outcome State Fault Refusal :=
  runReads [10, 1, f - 1] (fun s => s) (.int (mvDelta 24 f s res)) st

/-- `MVD_mag_25`, R174. -/
def execMvd_25 (f : Nat) (s : Bool) (res : Nat) (st : State) : Host.Outcome State Fault Refusal :=
  runReads [11, 1, f - 1] (fun s => s) (.int (mvDelta 25 f s res)) st

/-- `MVD_mag_26`, R174. -/
def execMvd_26 (f : Nat) (s : Bool) (res : Nat) (st : State) : Host.Outcome State Fault Refusal :=
  runReads [11, 1, f - 1] (fun s => s) (.int (mvDelta 26 f s res)) st

/-- `MVD_mag_27`, R174. -/
def execMvd_27 (f : Nat) (s : Bool) (res : Nat) (st : State) : Host.Outcome State Fault Refusal :=
  runReads [11, 1, f - 1] (fun s => s) (.int (mvDelta 27 f s res)) st

/-- `MVD_mag_28`, R174. -/
def execMvd_28 (f : Nat) (s : Bool) (res : Nat) (st : State) : Host.Outcome State Fault Refusal :=
  runReads [11, 1, f - 1] (fun s => s) (.int (mvDelta 28 f s res)) st

/-- `MVD_mag_29`, R174. -/
def execMvd_29 (f : Nat) (s : Bool) (res : Nat) (st : State) : Host.Outcome State Fault Refusal :=
  runReads [11, 1, f - 1] (fun s => s) (.int (mvDelta 29 f s res)) st

/-- `MVD_mag_30`, R174. -/
def execMvd_30 (f : Nat) (s : Bool) (res : Nat) (st : State) : Host.Outcome State Fault Refusal :=
  runReads [11, 1, f - 1] (fun s => s) (.int (mvDelta 30 f s res)) st

/-- `MVD_mag_31`, R174. -/
def execMvd_31 (f : Nat) (s : Bool) (res : Nat) (st : State) : Host.Outcome State Fault Refusal :=
  runReads [12, 1, f - 1] (fun s => s) (.int (mvDelta 31 f s res)) st

/-- `MVD_mag_32`, R174. -/
def execMvd_32 (f : Nat) (s : Bool) (res : Nat) (st : State) : Host.Outcome State Fault Refusal :=
  runReads [12, 1, f - 1] (fun s => s) (.int (mvDelta 32 f s res)) st

/-- `MODB_1`, R180. -/
def execModb_1 (s : State) : Host.Outcome State Fault Refusal :=
  runCode 1 (fun s => s.setModb .directNoneMv) .none s

/-- `MODB_01`, R180. -/
def execModb_01 (s : State) : Host.Outcome State Fault Refusal :=
  runCode 2 (fun s => s.setModb .typeOnly) .none s

/-- `MODB_00`, R180. -/
def execModb_00 (s : State) : Host.Outcome State Fault Refusal :=
  runCode 2 (fun s => s.setModb .typeAndCbpb) .none s

/-- `BMBTYPE_Direct`, R181. -/
def execBmbtype_direct (s : State) : Host.Outcome State Fault Refusal :=
  runCode 1 (fun s => s.setBtype .direct) .none s

/-- `BMBTYPE_Interpolate`, R181. -/
def execBmbtype_interpolate (s : State) : Host.Outcome State Fault Refusal :=
  runCode 2 (fun s => s.setBtype .interpolate) .none s

/-- `BMBTYPE_Backward`, R181. -/
def execBmbtype_backward (s : State) : Host.Outcome State Fault Refusal :=
  runCode 3 (fun s => s.setBtype .backward) .none s

/-- `BMBTYPE_Forward`, R181. -/
def execBmbtype_forward (s : State) : Host.Outcome State Fault Refusal :=
  runCode 4 (fun s => s.setBtype .forward) .none s

/-- `DBQUANT_0`, R183. -/
def execDbquant_0 (s : State) : Host.Outcome State Fault Refusal :=
  runCode 1 (fun s => s.offsetQp (0)) .none s

/-- `DBQUANT_-2`, R183. -/
def execDbquant_minus2 (s : State) : Host.Outcome State Fault Refusal :=
  runCode 2 (fun s => s.offsetQp (-2)) .none s

/-- `DBQUANT_+2`, R183. -/
def execDbquant_plus2 (s : State) : Host.Outcome State Fault Refusal :=
  runCode 2 (fun s => s.offsetQp (2)) .none s

/-- `NOT_CODED`, R170. -/
def execNotCoded (b : Bool) (s : State) : Host.Outcome State Fault Refusal :=
  runCode 1 (fun s => s.setNotCoded b) .none s

/-- `AC_PRED`, R171. -/
def execAcPred (b : Bool) (s : State) : Host.Outcome State Fault Refusal :=
  runCode 1 (fun s => s.setAcPred b) .none s

/-- `MCSEL`, R173. -/
def execMcsel (b : Bool) (s : State) : Host.Outcome State Fault Refusal :=
  runCode 1 (fun s => s.setMcsel b) .none s

/-- `DQUANT_00`, R172. -/
def execDquant_00 (s : State) : Host.Outcome State Fault Refusal :=
  runCode 2 (fun s => s.offsetQp (-1)) .none s

/-- `DQUANT_01`, R172. -/
def execDquant_01 (s : State) : Host.Outcome State Fault Refusal :=
  runCode 2 (fun s => s.offsetQp (-2)) .none s

/-- `DQUANT_10`, R172. -/
def execDquant_10 (s : State) : Host.Outcome State Fault Refusal :=
  runCode 2 (fun s => s.offsetQp (1)) .none s

/-- `DQUANT_11`, R172. -/
def execDquant_11 (s : State) : Host.Outcome State Fault Refusal :=
  runCode 2 (fun s => s.offsetQp (2)) .none s

/-- `CBPB`, R182. -/
def execCbpb (v : BitVec 6) (s : State) : Host.Outcome State Fault Refusal :=
  runCode 6 (fun s => s.setCbp v) .none s

end Sys2Proof.Machine
end

