-- ==== Sys2Proof/Machine/AcEvent.lean ====
section
/-! DEFINITION. AC events (spec/42_vlc_coefficients.md sections 2 to 4): the values of the four forms, the
read of one event and the block loop. The meanings of the rows stand in `AcIntra.lean` and
`AcInter.lean`. -/

namespace Sys2Proof.Machine

/-- The event of a table row with its sign (R212, form "table"). -/
def rowEvent (last : Bool) (run level : Nat) (s : Bool) : Event := ⟨last, run, signed s level⟩

/-- The event of form `.ESC1`: the level is the inner event's plus `LMAX` (R213). -/
def esc1Event (t : AcSel) (inner : AcRow) (s : Bool) : Event :=
  ⟨inner.last, inner.run, signed s ((inner.level + lmax t inner.last inner.run : Nat) : Int)⟩

/-- The event of form `.ESC2`: the run is the inner event's plus `RMAX + 1` (R214). -/
def esc2Event (t : AcSel) (inner : AcRow) (s : Bool) : Event :=
  ⟨inner.last, inner.run + rmax t inner.last inner.level + 1, signed s inner.level⟩

/-- The event of form `.ESC3`: fixed-length fields, the level in two's complement (R217, R108). -/
def esc3Event (last : Bool) (run : BitVec 6) (level : BitVec 12) : Event := ⟨last, run.toNat, level.toInt⟩

/-- The sign bit after a row's codeword, and the event written to `EV`. `EV` is not written where the
window ends before the sign bit, and `BP` stays after the codeword (R212). -/
def finishRow (last : Bool) (run level : Nat) : Act Unit := do
  let s ← readBit
  update (fun st => st.setEv (rowEvent last run level s))

/-- `ac_event(T)`, R212. -/
def acEvent (t : AcSel) : Act Unit := do
  let form ← parse (parseAc t)
  match form with
  | .row r => finishRow r.last r.run r.level
  | .esc1 r s => update (fun st => st.setEv (esc1Event t r s))
  | .esc2 r s => update (fun st => st.setEv (esc2Event t r s))
  | .esc3 last run _ level _ => update (fun st => st.setEv (esc3Event last run level))

/-- `QF[scan[i]] <- EV.level` for a position `i` in `0..63` (R216). -/
def State.placeLevel (s : State) (scan : Scan) (i : Fin 64) : State :=
  s.setQf (s.qf.set (scan.table[i]).val s.ev.level)

/-- The loop of `decode_ac`, R216, from position `i`. Each turn moves the position on, so it runs at
most 65 times; `fuel` is 65 at the call. -/
def acLoop (t : AcSel) (scan : Scan) (fuel i : Nat) : Act Unit :=
  match fuel with
  | 0 => raiseKind .invalidData
  | fuel + 1 => do
    acEvent t
    let s ← get
    let p := i + s.ev.run
    if h : p < 64 then
      update (fun st => st.placeLevel scan ⟨p, h⟩)
      if s.ev.last then pure () else acLoop t scan fuel (p + 1)
    else raiseKind .invalidData

/-- `decode_ac(T, start, scan)`, R216. -/
def decodeAc (t : AcSel) (start : Nat) (scan : Scan) : Act Unit := acLoop t scan 65 start

/-- The meaning of a table row's instruction: `n` bits of codeword, then the sign bit (R212; log entry 5). -/
def runAcRow (n : Nat) (last : Bool) (run level : Nat) (s : State) : Host.Outcome State Fault Refusal :=
  if s.bp + n ≤ 8 * s.bslen then
    outcomeOf ((do
      finishRow last run level
      pure Result.none : Act Result) (s.advance n))
  else .next (s.raise .invalidData)

/-- The meaning of an escape whose fields are all operands: the lengths of its reads (R212), and the event. -/
def runEscape (l : List Nat) (e : Event) (s : State) : Host.Outcome State Fault Refusal :=
  runReads l (fun st => st.setEv e) .none s

end Sys2Proof.Machine
end

