-- ==== Sys2Proof/Machine/AcInter.lean ====
section
/-! DEFINITION. The meanings of the `AC_INTER` instructions (spec/42_vlc_coefficients.md R207, R212 to R217). -/

namespace Sys2Proof.Machine

/-- `AC_INTER_0_0_1`, R207. -/
def execAcInter_0_0_1 (s : State) : Host.Outcome State Fault Refusal :=
  runAcRow 2 false 0 1 s

/-- `AC_INTER_0_0_2`, R207. -/
def execAcInter_0_0_2 (s : State) : Host.Outcome State Fault Refusal :=
  runAcRow 4 false 0 2 s

/-- `AC_INTER_0_0_3`, R207. -/
def execAcInter_0_0_3 (s : State) : Host.Outcome State Fault Refusal :=
  runAcRow 6 false 0 3 s

/-- `AC_INTER_0_0_4`, R207. -/
def execAcInter_0_0_4 (s : State) : Host.Outcome State Fault Refusal :=
  runAcRow 7 false 0 4 s

/-- `AC_INTER_0_0_5`, R207. -/
def execAcInter_0_0_5 (s : State) : Host.Outcome State Fault Refusal :=
  runAcRow 8 false 0 5 s

/-- `AC_INTER_0_0_6`, R207. -/
def execAcInter_0_0_6 (s : State) : Host.Outcome State Fault Refusal :=
  runAcRow 9 false 0 6 s

/-- `AC_INTER_0_0_7`, R207. -/
def execAcInter_0_0_7 (s : State) : Host.Outcome State Fault Refusal :=
  runAcRow 9 false 0 7 s

/-- `AC_INTER_0_0_8`, R207. -/
def execAcInter_0_0_8 (s : State) : Host.Outcome State Fault Refusal :=
  runAcRow 10 false 0 8 s

/-- `AC_INTER_0_0_9`, R207. -/
def execAcInter_0_0_9 (s : State) : Host.Outcome State Fault Refusal :=
  runAcRow 10 false 0 9 s

/-- `AC_INTER_0_0_10`, R207. -/
def execAcInter_0_0_10 (s : State) : Host.Outcome State Fault Refusal :=
  runAcRow 11 false 0 10 s

/-- `AC_INTER_0_0_11`, R207. -/
def execAcInter_0_0_11 (s : State) : Host.Outcome State Fault Refusal :=
  runAcRow 11 false 0 11 s

/-- `AC_INTER_0_0_12`, R207. -/
def execAcInter_0_0_12 (s : State) : Host.Outcome State Fault Refusal :=
  runAcRow 11 false 0 12 s

/-- `AC_INTER_0_1_1`, R207. -/
def execAcInter_0_1_1 (s : State) : Host.Outcome State Fault Refusal :=
  runAcRow 3 false 1 1 s

/-- `AC_INTER_0_1_2`, R207. -/
def execAcInter_0_1_2 (s : State) : Host.Outcome State Fault Refusal :=
  runAcRow 6 false 1 2 s

/-- `AC_INTER_0_1_3`, R207. -/
def execAcInter_0_1_3 (s : State) : Host.Outcome State Fault Refusal :=
  runAcRow 8 false 1 3 s

/-- `AC_INTER_0_1_4`, R207. -/
def execAcInter_0_1_4 (s : State) : Host.Outcome State Fault Refusal :=
  runAcRow 10 false 1 4 s

/-- `AC_INTER_0_1_5`, R207. -/
def execAcInter_0_1_5 (s : State) : Host.Outcome State Fault Refusal :=
  runAcRow 11 false 1 5 s

/-- `AC_INTER_0_1_6`, R207. -/
def execAcInter_0_1_6 (s : State) : Host.Outcome State Fault Refusal :=
  runAcRow 12 false 1 6 s

/-- `AC_INTER_0_2_1`, R207. -/
def execAcInter_0_2_1 (s : State) : Host.Outcome State Fault Refusal :=
  runAcRow 4 false 2 1 s

/-- `AC_INTER_0_2_2`, R207. -/
def execAcInter_0_2_2 (s : State) : Host.Outcome State Fault Refusal :=
  runAcRow 8 false 2 2 s

/-- `AC_INTER_0_2_3`, R207. -/
def execAcInter_0_2_3 (s : State) : Host.Outcome State Fault Refusal :=
  runAcRow 10 false 2 3 s

/-- `AC_INTER_0_2_4`, R207. -/
def execAcInter_0_2_4 (s : State) : Host.Outcome State Fault Refusal :=
  runAcRow 12 false 2 4 s

/-- `AC_INTER_0_3_1`, R207. -/
def execAcInter_0_3_1 (s : State) : Host.Outcome State Fault Refusal :=
  runAcRow 5 false 3 1 s

/-- `AC_INTER_0_3_2`, R207. -/
def execAcInter_0_3_2 (s : State) : Host.Outcome State Fault Refusal :=
  runAcRow 9 false 3 2 s

/-- `AC_INTER_0_3_3`, R207. -/
def execAcInter_0_3_3 (s : State) : Host.Outcome State Fault Refusal :=
  runAcRow 10 false 3 3 s

/-- `AC_INTER_0_4_1`, R207. -/
def execAcInter_0_4_1 (s : State) : Host.Outcome State Fault Refusal :=
  runAcRow 5 false 4 1 s

/-- `AC_INTER_0_4_2`, R207. -/
def execAcInter_0_4_2 (s : State) : Host.Outcome State Fault Refusal :=
  runAcRow 9 false 4 2 s

/-- `AC_INTER_0_4_3`, R207. -/
def execAcInter_0_4_3 (s : State) : Host.Outcome State Fault Refusal :=
  runAcRow 12 false 4 3 s

/-- `AC_INTER_0_5_1`, R207. -/
def execAcInter_0_5_1 (s : State) : Host.Outcome State Fault Refusal :=
  runAcRow 5 false 5 1 s

/-- `AC_INTER_0_5_2`, R207. -/
def execAcInter_0_5_2 (s : State) : Host.Outcome State Fault Refusal :=
  runAcRow 10 false 5 2 s

/-- `AC_INTER_0_5_3`, R207. -/
def execAcInter_0_5_3 (s : State) : Host.Outcome State Fault Refusal :=
  runAcRow 12 false 5 3 s

/-- `AC_INTER_0_6_1`, R207. -/
def execAcInter_0_6_1 (s : State) : Host.Outcome State Fault Refusal :=
  runAcRow 6 false 6 1 s

/-- `AC_INTER_0_6_2`, R207. -/
def execAcInter_0_6_2 (s : State) : Host.Outcome State Fault Refusal :=
  runAcRow 10 false 6 2 s

/-- `AC_INTER_0_6_3`, R207. -/
def execAcInter_0_6_3 (s : State) : Host.Outcome State Fault Refusal :=
  runAcRow 12 false 6 3 s

/-- `AC_INTER_0_7_1`, R207. -/
def execAcInter_0_7_1 (s : State) : Host.Outcome State Fault Refusal :=
  runAcRow 6 false 7 1 s

/-- `AC_INTER_0_7_2`, R207. -/
def execAcInter_0_7_2 (s : State) : Host.Outcome State Fault Refusal :=
  runAcRow 10 false 7 2 s

/-- `AC_INTER_0_8_1`, R207. -/
def execAcInter_0_8_1 (s : State) : Host.Outcome State Fault Refusal :=
  runAcRow 6 false 8 1 s

/-- `AC_INTER_0_8_2`, R207. -/
def execAcInter_0_8_2 (s : State) : Host.Outcome State Fault Refusal :=
  runAcRow 10 false 8 2 s

/-- `AC_INTER_0_9_1`, R207. -/
def execAcInter_0_9_1 (s : State) : Host.Outcome State Fault Refusal :=
  runAcRow 6 false 9 1 s

/-- `AC_INTER_0_9_2`, R207. -/
def execAcInter_0_9_2 (s : State) : Host.Outcome State Fault Refusal :=
  runAcRow 10 false 9 2 s

/-- `AC_INTER_0_10_1`, R207. -/
def execAcInter_0_10_1 (s : State) : Host.Outcome State Fault Refusal :=
  runAcRow 7 false 10 1 s

/-- `AC_INTER_0_10_2`, R207. -/
def execAcInter_0_10_2 (s : State) : Host.Outcome State Fault Refusal :=
  runAcRow 12 false 10 2 s

/-- `AC_INTER_0_11_1`, R207. -/
def execAcInter_0_11_1 (s : State) : Host.Outcome State Fault Refusal :=
  runAcRow 7 false 11 1 s

/-- `AC_INTER_0_12_1`, R207. -/
def execAcInter_0_12_1 (s : State) : Host.Outcome State Fault Refusal :=
  runAcRow 7 false 12 1 s

/-- `AC_INTER_0_13_1`, R207. -/
def execAcInter_0_13_1 (s : State) : Host.Outcome State Fault Refusal :=
  runAcRow 8 false 13 1 s

/-- `AC_INTER_0_14_1`, R207. -/
def execAcInter_0_14_1 (s : State) : Host.Outcome State Fault Refusal :=
  runAcRow 8 false 14 1 s

/-- `AC_INTER_0_15_1`, R207. -/
def execAcInter_0_15_1 (s : State) : Host.Outcome State Fault Refusal :=
  runAcRow 9 false 15 1 s

/-- `AC_INTER_0_16_1`, R207. -/
def execAcInter_0_16_1 (s : State) : Host.Outcome State Fault Refusal :=
  runAcRow 9 false 16 1 s

/-- `AC_INTER_0_17_1`, R207. -/
def execAcInter_0_17_1 (s : State) : Host.Outcome State Fault Refusal :=
  runAcRow 9 false 17 1 s

/-- `AC_INTER_0_18_1`, R207. -/
def execAcInter_0_18_1 (s : State) : Host.Outcome State Fault Refusal :=
  runAcRow 9 false 18 1 s

/-- `AC_INTER_0_19_1`, R207. -/
def execAcInter_0_19_1 (s : State) : Host.Outcome State Fault Refusal :=
  runAcRow 9 false 19 1 s

/-- `AC_INTER_0_20_1`, R207. -/
def execAcInter_0_20_1 (s : State) : Host.Outcome State Fault Refusal :=
  runAcRow 9 false 20 1 s

/-- `AC_INTER_0_21_1`, R207. -/
def execAcInter_0_21_1 (s : State) : Host.Outcome State Fault Refusal :=
  runAcRow 9 false 21 1 s

/-- `AC_INTER_0_22_1`, R207. -/
def execAcInter_0_22_1 (s : State) : Host.Outcome State Fault Refusal :=
  runAcRow 9 false 22 1 s

/-- `AC_INTER_0_23_1`, R207. -/
def execAcInter_0_23_1 (s : State) : Host.Outcome State Fault Refusal :=
  runAcRow 11 false 23 1 s

/-- `AC_INTER_0_24_1`, R207. -/
def execAcInter_0_24_1 (s : State) : Host.Outcome State Fault Refusal :=
  runAcRow 11 false 24 1 s

/-- `AC_INTER_0_25_1`, R207. -/
def execAcInter_0_25_1 (s : State) : Host.Outcome State Fault Refusal :=
  runAcRow 12 false 25 1 s

/-- `AC_INTER_0_26_1`, R207. -/
def execAcInter_0_26_1 (s : State) : Host.Outcome State Fault Refusal :=
  runAcRow 12 false 26 1 s

/-- `AC_INTER_1_0_1`, R207. -/
def execAcInter_1_0_1 (s : State) : Host.Outcome State Fault Refusal :=
  runAcRow 4 true 0 1 s

/-- `AC_INTER_1_0_2`, R207. -/
def execAcInter_1_0_2 (s : State) : Host.Outcome State Fault Refusal :=
  runAcRow 9 true 0 2 s

/-- `AC_INTER_1_0_3`, R207. -/
def execAcInter_1_0_3 (s : State) : Host.Outcome State Fault Refusal :=
  runAcRow 11 true 0 3 s

/-- `AC_INTER_1_1_1`, R207. -/
def execAcInter_1_1_1 (s : State) : Host.Outcome State Fault Refusal :=
  runAcRow 6 true 1 1 s

/-- `AC_INTER_1_1_2`, R207. -/
def execAcInter_1_1_2 (s : State) : Host.Outcome State Fault Refusal :=
  runAcRow 11 true 1 2 s

/-- `AC_INTER_1_2_1`, R207. -/
def execAcInter_1_2_1 (s : State) : Host.Outcome State Fault Refusal :=
  runAcRow 6 true 2 1 s

/-- `AC_INTER_1_3_1`, R207. -/
def execAcInter_1_3_1 (s : State) : Host.Outcome State Fault Refusal :=
  runAcRow 6 true 3 1 s

/-- `AC_INTER_1_4_1`, R207. -/
def execAcInter_1_4_1 (s : State) : Host.Outcome State Fault Refusal :=
  runAcRow 6 true 4 1 s

/-- `AC_INTER_1_5_1`, R207. -/
def execAcInter_1_5_1 (s : State) : Host.Outcome State Fault Refusal :=
  runAcRow 7 true 5 1 s

/-- `AC_INTER_1_6_1`, R207. -/
def execAcInter_1_6_1 (s : State) : Host.Outcome State Fault Refusal :=
  runAcRow 7 true 6 1 s

/-- `AC_INTER_1_7_1`, R207. -/
def execAcInter_1_7_1 (s : State) : Host.Outcome State Fault Refusal :=
  runAcRow 7 true 7 1 s

/-- `AC_INTER_1_8_1`, R207. -/
def execAcInter_1_8_1 (s : State) : Host.Outcome State Fault Refusal :=
  runAcRow 7 true 8 1 s

/-- `AC_INTER_1_9_1`, R207. -/
def execAcInter_1_9_1 (s : State) : Host.Outcome State Fault Refusal :=
  runAcRow 8 true 9 1 s

/-- `AC_INTER_1_10_1`, R207. -/
def execAcInter_1_10_1 (s : State) : Host.Outcome State Fault Refusal :=
  runAcRow 8 true 10 1 s

/-- `AC_INTER_1_11_1`, R207. -/
def execAcInter_1_11_1 (s : State) : Host.Outcome State Fault Refusal :=
  runAcRow 8 true 11 1 s

/-- `AC_INTER_1_12_1`, R207. -/
def execAcInter_1_12_1 (s : State) : Host.Outcome State Fault Refusal :=
  runAcRow 8 true 12 1 s

/-- `AC_INTER_1_13_1`, R207. -/
def execAcInter_1_13_1 (s : State) : Host.Outcome State Fault Refusal :=
  runAcRow 8 true 13 1 s

/-- `AC_INTER_1_14_1`, R207. -/
def execAcInter_1_14_1 (s : State) : Host.Outcome State Fault Refusal :=
  runAcRow 8 true 14 1 s

/-- `AC_INTER_1_15_1`, R207. -/
def execAcInter_1_15_1 (s : State) : Host.Outcome State Fault Refusal :=
  runAcRow 8 true 15 1 s

/-- `AC_INTER_1_16_1`, R207. -/
def execAcInter_1_16_1 (s : State) : Host.Outcome State Fault Refusal :=
  runAcRow 8 true 16 1 s

/-- `AC_INTER_1_17_1`, R207. -/
def execAcInter_1_17_1 (s : State) : Host.Outcome State Fault Refusal :=
  runAcRow 9 true 17 1 s

/-- `AC_INTER_1_18_1`, R207. -/
def execAcInter_1_18_1 (s : State) : Host.Outcome State Fault Refusal :=
  runAcRow 9 true 18 1 s

/-- `AC_INTER_1_19_1`, R207. -/
def execAcInter_1_19_1 (s : State) : Host.Outcome State Fault Refusal :=
  runAcRow 9 true 19 1 s

/-- `AC_INTER_1_20_1`, R207. -/
def execAcInter_1_20_1 (s : State) : Host.Outcome State Fault Refusal :=
  runAcRow 9 true 20 1 s

/-- `AC_INTER_1_21_1`, R207. -/
def execAcInter_1_21_1 (s : State) : Host.Outcome State Fault Refusal :=
  runAcRow 9 true 21 1 s

/-- `AC_INTER_1_22_1`, R207. -/
def execAcInter_1_22_1 (s : State) : Host.Outcome State Fault Refusal :=
  runAcRow 9 true 22 1 s

/-- `AC_INTER_1_23_1`, R207. -/
def execAcInter_1_23_1 (s : State) : Host.Outcome State Fault Refusal :=
  runAcRow 9 true 23 1 s

/-- `AC_INTER_1_24_1`, R207. -/
def execAcInter_1_24_1 (s : State) : Host.Outcome State Fault Refusal :=
  runAcRow 9 true 24 1 s

/-- `AC_INTER_1_25_1`, R207. -/
def execAcInter_1_25_1 (s : State) : Host.Outcome State Fault Refusal :=
  runAcRow 10 true 25 1 s

/-- `AC_INTER_1_26_1`, R207. -/
def execAcInter_1_26_1 (s : State) : Host.Outcome State Fault Refusal :=
  runAcRow 10 true 26 1 s

/-- `AC_INTER_1_27_1`, R207. -/
def execAcInter_1_27_1 (s : State) : Host.Outcome State Fault Refusal :=
  runAcRow 10 true 27 1 s

/-- `AC_INTER_1_28_1`, R207. -/
def execAcInter_1_28_1 (s : State) : Host.Outcome State Fault Refusal :=
  runAcRow 10 true 28 1 s

/-- `AC_INTER_1_29_1`, R207. -/
def execAcInter_1_29_1 (s : State) : Host.Outcome State Fault Refusal :=
  runAcRow 11 true 29 1 s

/-- `AC_INTER_1_30_1`, R207. -/
def execAcInter_1_30_1 (s : State) : Host.Outcome State Fault Refusal :=
  runAcRow 11 true 30 1 s

/-- `AC_INTER_1_31_1`, R207. -/
def execAcInter_1_31_1 (s : State) : Host.Outcome State Fault Refusal :=
  runAcRow 11 true 31 1 s

/-- `AC_INTER_1_32_1`, R207. -/
def execAcInter_1_32_1 (s : State) : Host.Outcome State Fault Refusal :=
  runAcRow 11 true 32 1 s

/-- `AC_INTER_1_33_1`, R207. -/
def execAcInter_1_33_1 (s : State) : Host.Outcome State Fault Refusal :=
  runAcRow 12 true 33 1 s

/-- `AC_INTER_1_34_1`, R207. -/
def execAcInter_1_34_1 (s : State) : Host.Outcome State Fault Refusal :=
  runAcRow 12 true 34 1 s

/-- `AC_INTER_1_35_1`, R207. -/
def execAcInter_1_35_1 (s : State) : Host.Outcome State Fault Refusal :=
  runAcRow 12 true 35 1 s

/-- `AC_INTER_1_36_1`, R207. -/
def execAcInter_1_36_1 (s : State) : Host.Outcome State Fault Refusal :=
  runAcRow 12 true 36 1 s

/-- `AC_INTER_1_37_1`, R207. -/
def execAcInter_1_37_1 (s : State) : Host.Outcome State Fault Refusal :=
  runAcRow 12 true 37 1 s

/-- `AC_INTER_1_38_1`, R207. -/
def execAcInter_1_38_1 (s : State) : Host.Outcome State Fault Refusal :=
  runAcRow 12 true 38 1 s

/-- `AC_INTER_1_39_1`, R207. -/
def execAcInter_1_39_1 (s : State) : Host.Outcome State Fault Refusal :=
  runAcRow 12 true 39 1 s

/-- `AC_INTER_1_40_1`, R207. -/
def execAcInter_1_40_1 (s : State) : Host.Outcome State Fault Refusal :=
  runAcRow 12 true 40 1 s

/-- `AC_INTER.ESC1`, R213. -/
def execAcInter_esc1 (inner : Fin 102) (sign : Bool) (s : State) : Host.Outcome State Fault Refusal :=
  runEscape [7, 1, (AcSel.row .inter inner).code.length, 1] (esc1Event .inter (AcSel.row .inter inner) sign) s

/-- `AC_INTER.ESC2`, R214. -/
def execAcInter_esc2 (inner : Fin 102) (sign : Bool) (s : State) : Host.Outcome State Fault Refusal :=
  runEscape [7, 1, 1, (AcSel.row .inter inner).code.length, 1] (esc2Event .inter (AcSel.row .inter inner) sign) s

/-- `AC_INTER.ESC3`, R217. -/
def execAcInter_esc3 (last : Bool) (run : BitVec 6) (_m1 : Bool) (level : BitVec 12) (_m2 : Bool) (s : State) : Host.Outcome State Fault Refusal :=
  runEscape [7, 1, 1, 1, 6, 1, 12, 1] (esc3Event last run level) s

end Sys2Proof.Machine
end

