-- ==== Sys2Proof/Machine/AcIntra.lean ====
section
/-! DEFINITION. The meanings of the `AC_INTRA` instructions (spec/42_vlc_coefficients.md R206, R212 to R217). -/

namespace Sys2Proof.Machine

/-- `AC_INTRA_0_0_1`, R206. -/
def execAcIntra_0_0_1 (s : State) : Host.Outcome State Fault Refusal :=
  runAcRow 2 false 0 1 s

/-- `AC_INTRA_0_0_2`, R206. -/
def execAcIntra_0_0_2 (s : State) : Host.Outcome State Fault Refusal :=
  runAcRow 3 false 0 2 s

/-- `AC_INTRA_0_0_3`, R206. -/
def execAcIntra_0_0_3 (s : State) : Host.Outcome State Fault Refusal :=
  runAcRow 4 false 0 3 s

/-- `AC_INTRA_0_0_4`, R206. -/
def execAcIntra_0_0_4 (s : State) : Host.Outcome State Fault Refusal :=
  runAcRow 5 false 0 4 s

/-- `AC_INTRA_0_0_5`, R206. -/
def execAcIntra_0_0_5 (s : State) : Host.Outcome State Fault Refusal :=
  runAcRow 5 false 0 5 s

/-- `AC_INTRA_0_0_6`, R206. -/
def execAcIntra_0_0_6 (s : State) : Host.Outcome State Fault Refusal :=
  runAcRow 6 false 0 6 s

/-- `AC_INTRA_0_0_7`, R206. -/
def execAcIntra_0_0_7 (s : State) : Host.Outcome State Fault Refusal :=
  runAcRow 6 false 0 7 s

/-- `AC_INTRA_0_0_8`, R206. -/
def execAcIntra_0_0_8 (s : State) : Host.Outcome State Fault Refusal :=
  runAcRow 6 false 0 8 s

/-- `AC_INTRA_0_0_9`, R206. -/
def execAcIntra_0_0_9 (s : State) : Host.Outcome State Fault Refusal :=
  runAcRow 7 false 0 9 s

/-- `AC_INTRA_0_0_10`, R206. -/
def execAcIntra_0_0_10 (s : State) : Host.Outcome State Fault Refusal :=
  runAcRow 8 false 0 10 s

/-- `AC_INTRA_0_0_11`, R206. -/
def execAcIntra_0_0_11 (s : State) : Host.Outcome State Fault Refusal :=
  runAcRow 8 false 0 11 s

/-- `AC_INTRA_0_0_12`, R206. -/
def execAcIntra_0_0_12 (s : State) : Host.Outcome State Fault Refusal :=
  runAcRow 8 false 0 12 s

/-- `AC_INTRA_0_0_13`, R206. -/
def execAcIntra_0_0_13 (s : State) : Host.Outcome State Fault Refusal :=
  runAcRow 9 false 0 13 s

/-- `AC_INTRA_0_0_14`, R206. -/
def execAcIntra_0_0_14 (s : State) : Host.Outcome State Fault Refusal :=
  runAcRow 9 false 0 14 s

/-- `AC_INTRA_0_0_15`, R206. -/
def execAcIntra_0_0_15 (s : State) : Host.Outcome State Fault Refusal :=
  runAcRow 9 false 0 15 s

/-- `AC_INTRA_0_0_16`, R206. -/
def execAcIntra_0_0_16 (s : State) : Host.Outcome State Fault Refusal :=
  runAcRow 9 false 0 16 s

/-- `AC_INTRA_0_0_17`, R206. -/
def execAcIntra_0_0_17 (s : State) : Host.Outcome State Fault Refusal :=
  runAcRow 10 false 0 17 s

/-- `AC_INTRA_0_0_18`, R206. -/
def execAcIntra_0_0_18 (s : State) : Host.Outcome State Fault Refusal :=
  runAcRow 10 false 0 18 s

/-- `AC_INTRA_0_0_19`, R206. -/
def execAcIntra_0_0_19 (s : State) : Host.Outcome State Fault Refusal :=
  runAcRow 10 false 0 19 s

/-- `AC_INTRA_0_0_20`, R206. -/
def execAcIntra_0_0_20 (s : State) : Host.Outcome State Fault Refusal :=
  runAcRow 10 false 0 20 s

/-- `AC_INTRA_0_0_21`, R206. -/
def execAcIntra_0_0_21 (s : State) : Host.Outcome State Fault Refusal :=
  runAcRow 11 false 0 21 s

/-- `AC_INTRA_0_0_22`, R206. -/
def execAcIntra_0_0_22 (s : State) : Host.Outcome State Fault Refusal :=
  runAcRow 11 false 0 22 s

/-- `AC_INTRA_0_0_23`, R206. -/
def execAcIntra_0_0_23 (s : State) : Host.Outcome State Fault Refusal :=
  runAcRow 11 false 0 23 s

/-- `AC_INTRA_0_0_24`, R206. -/
def execAcIntra_0_0_24 (s : State) : Host.Outcome State Fault Refusal :=
  runAcRow 11 false 0 24 s

/-- `AC_INTRA_0_0_25`, R206. -/
def execAcIntra_0_0_25 (s : State) : Host.Outcome State Fault Refusal :=
  runAcRow 12 false 0 25 s

/-- `AC_INTRA_0_0_26`, R206. -/
def execAcIntra_0_0_26 (s : State) : Host.Outcome State Fault Refusal :=
  runAcRow 12 false 0 26 s

/-- `AC_INTRA_0_0_27`, R206. -/
def execAcIntra_0_0_27 (s : State) : Host.Outcome State Fault Refusal :=
  runAcRow 12 false 0 27 s

/-- `AC_INTRA_0_1_1`, R206. -/
def execAcIntra_0_1_1 (s : State) : Host.Outcome State Fault Refusal :=
  runAcRow 4 false 1 1 s

/-- `AC_INTRA_0_1_2`, R206. -/
def execAcIntra_0_1_2 (s : State) : Host.Outcome State Fault Refusal :=
  runAcRow 6 false 1 2 s

/-- `AC_INTRA_0_1_3`, R206. -/
def execAcIntra_0_1_3 (s : State) : Host.Outcome State Fault Refusal :=
  runAcRow 7 false 1 3 s

/-- `AC_INTRA_0_1_4`, R206. -/
def execAcIntra_0_1_4 (s : State) : Host.Outcome State Fault Refusal :=
  runAcRow 8 false 1 4 s

/-- `AC_INTRA_0_1_5`, R206. -/
def execAcIntra_0_1_5 (s : State) : Host.Outcome State Fault Refusal :=
  runAcRow 9 false 1 5 s

/-- `AC_INTRA_0_1_6`, R206. -/
def execAcIntra_0_1_6 (s : State) : Host.Outcome State Fault Refusal :=
  runAcRow 9 false 1 6 s

/-- `AC_INTRA_0_1_7`, R206. -/
def execAcIntra_0_1_7 (s : State) : Host.Outcome State Fault Refusal :=
  runAcRow 10 false 1 7 s

/-- `AC_INTRA_0_1_8`, R206. -/
def execAcIntra_0_1_8 (s : State) : Host.Outcome State Fault Refusal :=
  runAcRow 11 false 1 8 s

/-- `AC_INTRA_0_1_9`, R206. -/
def execAcIntra_0_1_9 (s : State) : Host.Outcome State Fault Refusal :=
  runAcRow 12 false 1 9 s

/-- `AC_INTRA_0_1_10`, R206. -/
def execAcIntra_0_1_10 (s : State) : Host.Outcome State Fault Refusal :=
  runAcRow 12 false 1 10 s

/-- `AC_INTRA_0_2_1`, R206. -/
def execAcIntra_0_2_1 (s : State) : Host.Outcome State Fault Refusal :=
  runAcRow 5 false 2 1 s

/-- `AC_INTRA_0_2_2`, R206. -/
def execAcIntra_0_2_2 (s : State) : Host.Outcome State Fault Refusal :=
  runAcRow 7 false 2 2 s

/-- `AC_INTRA_0_2_3`, R206. -/
def execAcIntra_0_2_3 (s : State) : Host.Outcome State Fault Refusal :=
  runAcRow 9 false 2 3 s

/-- `AC_INTRA_0_2_4`, R206. -/
def execAcIntra_0_2_4 (s : State) : Host.Outcome State Fault Refusal :=
  runAcRow 10 false 2 4 s

/-- `AC_INTRA_0_2_5`, R206. -/
def execAcIntra_0_2_5 (s : State) : Host.Outcome State Fault Refusal :=
  runAcRow 12 false 2 5 s

/-- `AC_INTRA_0_3_1`, R206. -/
def execAcIntra_0_3_1 (s : State) : Host.Outcome State Fault Refusal :=
  runAcRow 6 false 3 1 s

/-- `AC_INTRA_0_3_2`, R206. -/
def execAcIntra_0_3_2 (s : State) : Host.Outcome State Fault Refusal :=
  runAcRow 8 false 3 2 s

/-- `AC_INTRA_0_3_3`, R206. -/
def execAcIntra_0_3_3 (s : State) : Host.Outcome State Fault Refusal :=
  runAcRow 9 false 3 3 s

/-- `AC_INTRA_0_3_4`, R206. -/
def execAcIntra_0_3_4 (s : State) : Host.Outcome State Fault Refusal :=
  runAcRow 10 false 3 4 s

/-- `AC_INTRA_0_4_1`, R206. -/
def execAcIntra_0_4_1 (s : State) : Host.Outcome State Fault Refusal :=
  runAcRow 6 false 4 1 s

/-- `AC_INTRA_0_4_2`, R206. -/
def execAcIntra_0_4_2 (s : State) : Host.Outcome State Fault Refusal :=
  runAcRow 9 false 4 2 s

/-- `AC_INTRA_0_4_3`, R206. -/
def execAcIntra_0_4_3 (s : State) : Host.Outcome State Fault Refusal :=
  runAcRow 10 false 4 3 s

/-- `AC_INTRA_0_5_1`, R206. -/
def execAcIntra_0_5_1 (s : State) : Host.Outcome State Fault Refusal :=
  runAcRow 6 false 5 1 s

/-- `AC_INTRA_0_5_2`, R206. -/
def execAcIntra_0_5_2 (s : State) : Host.Outcome State Fault Refusal :=
  runAcRow 9 false 5 2 s

/-- `AC_INTRA_0_5_3`, R206. -/
def execAcIntra_0_5_3 (s : State) : Host.Outcome State Fault Refusal :=
  runAcRow 10 false 5 3 s

/-- `AC_INTRA_0_6_1`, R206. -/
def execAcIntra_0_6_1 (s : State) : Host.Outcome State Fault Refusal :=
  runAcRow 7 false 6 1 s

/-- `AC_INTRA_0_6_2`, R206. -/
def execAcIntra_0_6_2 (s : State) : Host.Outcome State Fault Refusal :=
  runAcRow 9 false 6 2 s

/-- `AC_INTRA_0_6_3`, R206. -/
def execAcIntra_0_6_3 (s : State) : Host.Outcome State Fault Refusal :=
  runAcRow 12 false 6 3 s

/-- `AC_INTRA_0_7_1`, R206. -/
def execAcIntra_0_7_1 (s : State) : Host.Outcome State Fault Refusal :=
  runAcRow 7 false 7 1 s

/-- `AC_INTRA_0_7_2`, R206. -/
def execAcIntra_0_7_2 (s : State) : Host.Outcome State Fault Refusal :=
  runAcRow 9 false 7 2 s

/-- `AC_INTRA_0_7_3`, R206. -/
def execAcIntra_0_7_3 (s : State) : Host.Outcome State Fault Refusal :=
  runAcRow 12 false 7 3 s

/-- `AC_INTRA_0_8_1`, R206. -/
def execAcIntra_0_8_1 (s : State) : Host.Outcome State Fault Refusal :=
  runAcRow 8 false 8 1 s

/-- `AC_INTRA_0_8_2`, R206. -/
def execAcIntra_0_8_2 (s : State) : Host.Outcome State Fault Refusal :=
  runAcRow 10 false 8 2 s

/-- `AC_INTRA_0_9_1`, R206. -/
def execAcIntra_0_9_1 (s : State) : Host.Outcome State Fault Refusal :=
  runAcRow 8 false 9 1 s

/-- `AC_INTRA_0_9_2`, R206. -/
def execAcIntra_0_9_2 (s : State) : Host.Outcome State Fault Refusal :=
  runAcRow 11 false 9 2 s

/-- `AC_INTRA_0_10_1`, R206. -/
def execAcIntra_0_10_1 (s : State) : Host.Outcome State Fault Refusal :=
  runAcRow 8 false 10 1 s

/-- `AC_INTRA_0_11_1`, R206. -/
def execAcIntra_0_11_1 (s : State) : Host.Outcome State Fault Refusal :=
  runAcRow 9 false 11 1 s

/-- `AC_INTRA_0_12_1`, R206. -/
def execAcIntra_0_12_1 (s : State) : Host.Outcome State Fault Refusal :=
  runAcRow 9 false 12 1 s

/-- `AC_INTRA_0_13_1`, R206. -/
def execAcIntra_0_13_1 (s : State) : Host.Outcome State Fault Refusal :=
  runAcRow 10 false 13 1 s

/-- `AC_INTRA_0_14_1`, R206. -/
def execAcIntra_0_14_1 (s : State) : Host.Outcome State Fault Refusal :=
  runAcRow 12 false 14 1 s

/-- `AC_INTRA_1_0_1`, R206. -/
def execAcIntra_1_0_1 (s : State) : Host.Outcome State Fault Refusal :=
  runAcRow 4 true 0 1 s

/-- `AC_INTRA_1_0_2`, R206. -/
def execAcIntra_1_0_2 (s : State) : Host.Outcome State Fault Refusal :=
  runAcRow 6 true 0 2 s

/-- `AC_INTRA_1_0_3`, R206. -/
def execAcIntra_1_0_3 (s : State) : Host.Outcome State Fault Refusal :=
  runAcRow 8 true 0 3 s

/-- `AC_INTRA_1_0_4`, R206. -/
def execAcIntra_1_0_4 (s : State) : Host.Outcome State Fault Refusal :=
  runAcRow 9 true 0 4 s

/-- `AC_INTRA_1_0_5`, R206. -/
def execAcIntra_1_0_5 (s : State) : Host.Outcome State Fault Refusal :=
  runAcRow 10 true 0 5 s

/-- `AC_INTRA_1_0_6`, R206. -/
def execAcIntra_1_0_6 (s : State) : Host.Outcome State Fault Refusal :=
  runAcRow 11 true 0 6 s

/-- `AC_INTRA_1_0_7`, R206. -/
def execAcIntra_1_0_7 (s : State) : Host.Outcome State Fault Refusal :=
  runAcRow 11 true 0 7 s

/-- `AC_INTRA_1_0_8`, R206. -/
def execAcIntra_1_0_8 (s : State) : Host.Outcome State Fault Refusal :=
  runAcRow 12 true 0 8 s

/-- `AC_INTRA_1_1_1`, R206. -/
def execAcIntra_1_1_1 (s : State) : Host.Outcome State Fault Refusal :=
  runAcRow 6 true 1 1 s

/-- `AC_INTRA_1_1_2`, R206. -/
def execAcIntra_1_1_2 (s : State) : Host.Outcome State Fault Refusal :=
  runAcRow 9 true 1 2 s

/-- `AC_INTRA_1_1_3`, R206. -/
def execAcIntra_1_1_3 (s : State) : Host.Outcome State Fault Refusal :=
  runAcRow 10 true 1 3 s

/-- `AC_INTRA_1_2_1`, R206. -/
def execAcIntra_1_2_1 (s : State) : Host.Outcome State Fault Refusal :=
  runAcRow 6 true 2 1 s

/-- `AC_INTRA_1_2_2`, R206. -/
def execAcIntra_1_2_2 (s : State) : Host.Outcome State Fault Refusal :=
  runAcRow 10 true 2 2 s

/-- `AC_INTRA_1_3_1`, R206. -/
def execAcIntra_1_3_1 (s : State) : Host.Outcome State Fault Refusal :=
  runAcRow 7 true 3 1 s

/-- `AC_INTRA_1_3_2`, R206. -/
def execAcIntra_1_3_2 (s : State) : Host.Outcome State Fault Refusal :=
  runAcRow 11 true 3 2 s

/-- `AC_INTRA_1_4_1`, R206. -/
def execAcIntra_1_4_1 (s : State) : Host.Outcome State Fault Refusal :=
  runAcRow 7 true 4 1 s

/-- `AC_INTRA_1_4_2`, R206. -/
def execAcIntra_1_4_2 (s : State) : Host.Outcome State Fault Refusal :=
  runAcRow 11 true 4 2 s

/-- `AC_INTRA_1_5_1`, R206. -/
def execAcIntra_1_5_1 (s : State) : Host.Outcome State Fault Refusal :=
  runAcRow 7 true 5 1 s

/-- `AC_INTRA_1_5_2`, R206. -/
def execAcIntra_1_5_2 (s : State) : Host.Outcome State Fault Refusal :=
  runAcRow 12 true 5 2 s

/-- `AC_INTRA_1_6_1`, R206. -/
def execAcIntra_1_6_1 (s : State) : Host.Outcome State Fault Refusal :=
  runAcRow 8 true 6 1 s

/-- `AC_INTRA_1_6_2`, R206. -/
def execAcIntra_1_6_2 (s : State) : Host.Outcome State Fault Refusal :=
  runAcRow 12 true 6 2 s

/-- `AC_INTRA_1_7_1`, R206. -/
def execAcIntra_1_7_1 (s : State) : Host.Outcome State Fault Refusal :=
  runAcRow 8 true 7 1 s

/-- `AC_INTRA_1_8_1`, R206. -/
def execAcIntra_1_8_1 (s : State) : Host.Outcome State Fault Refusal :=
  runAcRow 8 true 8 1 s

/-- `AC_INTRA_1_9_1`, R206. -/
def execAcIntra_1_9_1 (s : State) : Host.Outcome State Fault Refusal :=
  runAcRow 8 true 9 1 s

/-- `AC_INTRA_1_10_1`, R206. -/
def execAcIntra_1_10_1 (s : State) : Host.Outcome State Fault Refusal :=
  runAcRow 9 true 10 1 s

/-- `AC_INTRA_1_11_1`, R206. -/
def execAcIntra_1_11_1 (s : State) : Host.Outcome State Fault Refusal :=
  runAcRow 9 true 11 1 s

/-- `AC_INTRA_1_12_1`, R206. -/
def execAcIntra_1_12_1 (s : State) : Host.Outcome State Fault Refusal :=
  runAcRow 9 true 12 1 s

/-- `AC_INTRA_1_13_1`, R206. -/
def execAcIntra_1_13_1 (s : State) : Host.Outcome State Fault Refusal :=
  runAcRow 9 true 13 1 s

/-- `AC_INTRA_1_14_1`, R206. -/
def execAcIntra_1_14_1 (s : State) : Host.Outcome State Fault Refusal :=
  runAcRow 9 true 14 1 s

/-- `AC_INTRA_1_15_1`, R206. -/
def execAcIntra_1_15_1 (s : State) : Host.Outcome State Fault Refusal :=
  runAcRow 11 true 15 1 s

/-- `AC_INTRA_1_16_1`, R206. -/
def execAcIntra_1_16_1 (s : State) : Host.Outcome State Fault Refusal :=
  runAcRow 11 true 16 1 s

/-- `AC_INTRA_1_17_1`, R206. -/
def execAcIntra_1_17_1 (s : State) : Host.Outcome State Fault Refusal :=
  runAcRow 12 true 17 1 s

/-- `AC_INTRA_1_18_1`, R206. -/
def execAcIntra_1_18_1 (s : State) : Host.Outcome State Fault Refusal :=
  runAcRow 12 true 18 1 s

/-- `AC_INTRA_1_19_1`, R206. -/
def execAcIntra_1_19_1 (s : State) : Host.Outcome State Fault Refusal :=
  runAcRow 12 true 19 1 s

/-- `AC_INTRA_1_20_1`, R206. -/
def execAcIntra_1_20_1 (s : State) : Host.Outcome State Fault Refusal :=
  runAcRow 12 true 20 1 s

/-- `AC_INTRA.ESC1`, R213. -/
def execAcIntra_esc1 (inner : Fin 102) (sign : Bool) (s : State) : Host.Outcome State Fault Refusal :=
  runEscape [7, 1, (AcSel.row .intra inner).code.length, 1] (esc1Event .intra (AcSel.row .intra inner) sign) s

/-- `AC_INTRA.ESC2`, R214. -/
def execAcIntra_esc2 (inner : Fin 102) (sign : Bool) (s : State) : Host.Outcome State Fault Refusal :=
  runEscape [7, 1, 1, (AcSel.row .intra inner).code.length, 1] (esc2Event .intra (AcSel.row .intra inner) sign) s

/-- `AC_INTRA.ESC3`, R217. -/
def execAcIntra_esc3 (last : Bool) (run : BitVec 6) (_m1 : Bool) (level : BitVec 12) (_m2 : Bool) (s : State) : Host.Outcome State Fault Refusal :=
  runEscape [7, 1, 1, 1, 6, 1, 12, 1] (esc3Event last run level) s

end Sys2Proof.Machine
end

