-- ==== Sys2Proof/Machine/DcCode.lean ====
section
/-! DEFINITION. The intra DC code (spec/42_vlc_coefficients.md section 1, R200 to R202). An instruction
holds the size codeword, the value bits and, for sizes above 8, the marker bit, which is skipped
without a test (R107, R122; log entry 9). -/

namespace Sys2Proof.Machine

/-- The size table of block `b`: luma for blocks 0 to 3, chroma for 4 and 5 (R202). -/
def dcTable (b : Fin 6) : List DcRow := if isLuma b then dcszLTable else dcszCTable

/-- `dc_diff(b)`, R202. -/
def dcDiff (b : Fin 6) : Act Int := do
  let (r, v, _) ← parse (parseDc (dcTable b))
  return signedField r.size v

/-- `DCSZ_L_0`, R200. -/
def execDcszL_0 (s : State) : Host.Outcome State Fault Refusal :=
  runCode 3 (fun s => s) (.int 0) s

/-- `DCSZ_L_1`, R200. -/
def execDcszL_1 (v : BitVec 1) (s : State) : Host.Outcome State Fault Refusal :=
  runReads [2, 1] (fun s => s) (.int (signedField 1 v.toNat)) s

/-- `DCSZ_L_2`, R200. -/
def execDcszL_2 (v : BitVec 2) (s : State) : Host.Outcome State Fault Refusal :=
  runReads [2, 2] (fun s => s) (.int (signedField 2 v.toNat)) s

/-- `DCSZ_L_3`, R200. -/
def execDcszL_3 (v : BitVec 3) (s : State) : Host.Outcome State Fault Refusal :=
  runReads [3, 3] (fun s => s) (.int (signedField 3 v.toNat)) s

/-- `DCSZ_L_4`, R200. -/
def execDcszL_4 (v : BitVec 4) (s : State) : Host.Outcome State Fault Refusal :=
  runReads [3, 4] (fun s => s) (.int (signedField 4 v.toNat)) s

/-- `DCSZ_L_5`, R200. -/
def execDcszL_5 (v : BitVec 5) (s : State) : Host.Outcome State Fault Refusal :=
  runReads [4, 5] (fun s => s) (.int (signedField 5 v.toNat)) s

/-- `DCSZ_L_6`, R200. -/
def execDcszL_6 (v : BitVec 6) (s : State) : Host.Outcome State Fault Refusal :=
  runReads [5, 6] (fun s => s) (.int (signedField 6 v.toNat)) s

/-- `DCSZ_L_7`, R200. -/
def execDcszL_7 (v : BitVec 7) (s : State) : Host.Outcome State Fault Refusal :=
  runReads [6, 7] (fun s => s) (.int (signedField 7 v.toNat)) s

/-- `DCSZ_L_8`, R200. -/
def execDcszL_8 (v : BitVec 8) (s : State) : Host.Outcome State Fault Refusal :=
  runReads [7, 8] (fun s => s) (.int (signedField 8 v.toNat)) s

/-- `DCSZ_L_9`, R200. -/
def execDcszL_9 (v : BitVec 9) (_m : Bool) (s : State) : Host.Outcome State Fault Refusal :=
  runReads [8, 9, 1] (fun s => s) (.int (signedField 9 v.toNat)) s

/-- `DCSZ_L_10`, R200. -/
def execDcszL_10 (v : BitVec 10) (_m : Bool) (s : State) : Host.Outcome State Fault Refusal :=
  runReads [9, 10, 1] (fun s => s) (.int (signedField 10 v.toNat)) s

/-- `DCSZ_L_11`, R200. -/
def execDcszL_11 (v : BitVec 11) (_m : Bool) (s : State) : Host.Outcome State Fault Refusal :=
  runReads [10, 11, 1] (fun s => s) (.int (signedField 11 v.toNat)) s

/-- `DCSZ_L_12`, R200. -/
def execDcszL_12 (v : BitVec 12) (_m : Bool) (s : State) : Host.Outcome State Fault Refusal :=
  runReads [11, 12, 1] (fun s => s) (.int (signedField 12 v.toNat)) s

/-- `DCSZ_C_0`, R201. -/
def execDcszC_0 (s : State) : Host.Outcome State Fault Refusal :=
  runCode 2 (fun s => s) (.int 0) s

/-- `DCSZ_C_1`, R201. -/
def execDcszC_1 (v : BitVec 1) (s : State) : Host.Outcome State Fault Refusal :=
  runReads [2, 1] (fun s => s) (.int (signedField 1 v.toNat)) s

/-- `DCSZ_C_2`, R201. -/
def execDcszC_2 (v : BitVec 2) (s : State) : Host.Outcome State Fault Refusal :=
  runReads [2, 2] (fun s => s) (.int (signedField 2 v.toNat)) s

/-- `DCSZ_C_3`, R201. -/
def execDcszC_3 (v : BitVec 3) (s : State) : Host.Outcome State Fault Refusal :=
  runReads [3, 3] (fun s => s) (.int (signedField 3 v.toNat)) s

/-- `DCSZ_C_4`, R201. -/
def execDcszC_4 (v : BitVec 4) (s : State) : Host.Outcome State Fault Refusal :=
  runReads [4, 4] (fun s => s) (.int (signedField 4 v.toNat)) s

/-- `DCSZ_C_5`, R201. -/
def execDcszC_5 (v : BitVec 5) (s : State) : Host.Outcome State Fault Refusal :=
  runReads [5, 5] (fun s => s) (.int (signedField 5 v.toNat)) s

/-- `DCSZ_C_6`, R201. -/
def execDcszC_6 (v : BitVec 6) (s : State) : Host.Outcome State Fault Refusal :=
  runReads [6, 6] (fun s => s) (.int (signedField 6 v.toNat)) s

/-- `DCSZ_C_7`, R201. -/
def execDcszC_7 (v : BitVec 7) (s : State) : Host.Outcome State Fault Refusal :=
  runReads [7, 7] (fun s => s) (.int (signedField 7 v.toNat)) s

/-- `DCSZ_C_8`, R201. -/
def execDcszC_8 (v : BitVec 8) (s : State) : Host.Outcome State Fault Refusal :=
  runReads [8, 8] (fun s => s) (.int (signedField 8 v.toNat)) s

/-- `DCSZ_C_9`, R201. -/
def execDcszC_9 (v : BitVec 9) (_m : Bool) (s : State) : Host.Outcome State Fault Refusal :=
  runReads [9, 9, 1] (fun s => s) (.int (signedField 9 v.toNat)) s

/-- `DCSZ_C_10`, R201. -/
def execDcszC_10 (v : BitVec 10) (_m : Bool) (s : State) : Host.Outcome State Fault Refusal :=
  runReads [10, 10, 1] (fun s => s) (.int (signedField 10 v.toNat)) s

/-- `DCSZ_C_11`, R201. -/
def execDcszC_11 (v : BitVec 11) (_m : Bool) (s : State) : Host.Outcome State Fault Refusal :=
  runReads [11, 11, 1] (fun s => s) (.int (signedField 11 v.toNat)) s

/-- `DCSZ_C_12`, R201. -/
def execDcszC_12 (v : BitVec 12) (_m : Bool) (s : State) : Host.Outcome State Fault Refusal :=
  runReads [12, 12, 1] (fun s => s) (.int (signedField 12 v.toNat)) s

/-- `DCVAL v`, R202, R107: the differential of a value of `size` bits. Its bits belong to the `DCSZ_L` or
`DCSZ_C` instruction before it ("no bits of its own beyond those rows"), so `BP` does not move (log
entry 15). Given alone it is an operation the host asks for, so it needs `Opened`, as R420 and R501 say. -/
def execDcval (size : Fin 13) (v : Nat) (s : State) : Host.Outcome State Fault Refusal :=
  runCommand (Act.of fun s => .ok (.int (signedField size.val v)) s) s

end Sys2Proof.Machine
end

