-- ==== Sys2Proof/Machine/Dequant.lean ====
section
/-! DEFINITION. The dequantizer and mismatch control (spec/43_dequant.md). -/

namespace Sys2Proof.Machine

/-- `sat(x)`, R243. -/
def sat (p : Params) (x : Int) : Int := if p.h263Saturate then clampCoef x else x

/-- `h263_intra(v)`, R241. -/
def h263Intra (p : Params) (qp : Nat) (v : Int) : Int := sat p (v * 2 * qp)

/-- `h263_inter(v)`, R242. -/
def h263Inter (p : Params) (qp : Nat) (v : Int) : Int :=
  let a : Int := if qp % 2 = 1 then qp else (qp : Int) - 1
  if v > 0 then sat p (v * 2 * qp + a) else sat p (v * 2 * qp - a)

/-- `mpeg_intra(v, i)` with matrix entry `m`, R244. -/
def mpegIntra (p : Params) (qp m : Nat) (v : Int) : Int :=
  let x := v * qp * m
  match p.mpegIntraShift with
  | .floor => sat p (asr x 4)
  | .towardZero => sat p (x.sign * asr x.natAbs 4)

/-- `mpeg_inter(v, i)` with matrix entry `m`, R245. -/
def mpegInter (qp m : Nat) (v : Int) : Int :=
  let x := asr ((2 * (v.natAbs : Int) + 1) * m * qp) 4
  if v > 0 then min x 2047 else -(min x 2048)

/-- One coefficient: 0 for a level of 0, else by the algorithm `VOL.quant_type` selects (R240). -/
def State.dequantLevel (s : State) (intra : Bool) (i : Fin 64) : Int :=
  let v := s.qf[i]
  if v = 0 then 0
  else
    match s.vol.quantType with
    | .h263 => if intra then h263Intra s.params s.qp v else h263Inter s.params s.qp v
    | .mpeg => if intra then mpegIntra s.params s.qp s.qmIntra[i] v else mpegInter s.qp s.qmInter[i] v

/-- Is the sum of all coefficients odd? The exclusive or of their lowest bits (R247). -/
def oddParity (c : Vector Int 64) : Bool := decide (c.toList.foldl (fun a x => a + x) 0 % 2 = 1)

/-- Bit 0 of an integer flipped: `x ^ 1` in two's complement (R247). -/
def flipBit0 (x : Int) : Int := if x % 2 = 0 then x + 1 else x - 1

/-- `mismatch()`, R247. -/
def State.mismatch (s : State) : State :=
  if oddParity s.coef then s else { s with coef := s.coef.set 63 (flipBit0 s.coef[63]) }

/-- `dequant(intra)`, R240: index 0 of an intra block is left as it is. -/
def State.dequant (s : State) (intra : Bool) : State :=
  let t := { s with coef := Vector.ofFn (fun i : Fin 64 => if intra && decide (i.val = 0) then s.coef[i] else s.dequantLevel intra i) }
  if s.vol.quantType = .mpeg && !intra then t.mismatch else t

/-- `DEQUANT intra`, R240. -/
def execDequant (intra : Bool) (s : State) : Host.Outcome State Fault Refusal :=
  runCommand (Act.of fun s => .ok .none (s.dequant intra)) s

/-- `MISMATCH`, R247. -/
def execMismatch (s : State) : Host.Outcome State Fault Refusal :=
  runCommand (Act.of fun s => .ok .none s.mismatch) s

end Sys2Proof.Machine
end

