-- ==== Sys2Proof/Machine/Idct.lean ====
section
/-! DEFINITION. The 8x8 inverse transform (spec/44_idct.md): the exact matrix product of each pass and
one rounded shift at its end, rows before columns. -/

namespace Sys2Proof.Machine

/-- `sum over k of M[k][n] * g(k)`, R260. -/
def dot8 (n : Fin 8) (g : Fin 8 → Int) : Int :=
  idctMatrix[0][n] * g 0 + idctMatrix[1][n] * g 1 + idctMatrix[2][n] * g 2 + idctMatrix[3][n] * g 3
    + idctMatrix[4][n] * g 4 + idctMatrix[5][n] * g 5 + idctMatrix[6][n] * g 6 + idctMatrix[7][n] * g 7

/-- Raster index of row `r`, column `c`. -/
def at8 (r c : Fin 8) : Fin 64 := ⟨8 * r.val + c.val, by omega⟩

/-- The row of a raster index. -/
def row8 (i : Fin 64) : Fin 8 := ⟨i.val / 8, by omega⟩

/-- The column of a raster index. -/
def col8 (i : Fin 64) : Fin 8 := ⟨i.val % 8, by omega⟩

/-- The row pass, R260. -/
def idctRows (f : Vector Int 64) : Vector Int 64 :=
  Vector.ofFn (fun i => asr (dot8 (col8 i) (fun k => f[at8 (row8 i) k]) + 1024) 11)

/-- The column pass, R260. -/
def idctCols (t : Vector Int 64) : Vector Int 64 :=
  Vector.ofFn (fun i => asr (dot8 (row8 i) (fun k => t[at8 k (col8 i)]) + 524288) 20)

/-- `idct()`, R260. -/
def State.idct (s : State) : State := { s with residual := idctCols (idctRows s.coef) }

/-- `IDCT`, R260. -/
def execIdct (s : State) : Host.Outcome State Fault Refusal :=
  runCommand (Act.of fun s => .ok .none s.idct) s

end Sys2Proof.Machine
end

