-- ==== Sys2Proof/Machine/IntraPred.lean ====
section
/-! DEFINITION. The predictor cache and intra prediction (spec/45_intra_prediction.md). The operations on
their own act on the macroblock `MBK` (R27). -/

namespace Sys2Proof.Machine

/-- A neighbour of a block as intra prediction reads it: its slot, and its quantizer (R284, R287). -/
structure Neighbour where
  slot : PcSlot
  quant : Nat
  deriving DecidableEq, Repr

/-- What a neighbour that is not available reads as: DC 1024, no AC, the current quantizer (R284). -/
def State.noNeighbour (s : State) : Neighbour :=
  ⟨⟨1024, Vector.replicate 7 0, Vector.replicate 7 0⟩, s.qp⟩

/-- Block `b` of macroblock `(x, y)` of the same frame, another macroblock than the current one:
available where `inside` says it lies in the frame and its `MBI` mode is intra (R284). -/
def State.outerNeighbour (s : State) (inside : Bool) (x y b : Nat) : Neighbour :=
  let info := s.mbi.getD (y * s.mbw + x) MbInfo.reset
  if inside && isIntraMode info.mode then ⟨s.pc.getD (s.pcIndex x y b) PcSlot.zero, info.quant⟩ else s.noNeighbour

/-- Block `b` of the current macroblock: always available, with the current quantizer (R284, R287). -/
def State.innerNeighbour (s : State) (k b : Nat) : Neighbour :=
  ⟨s.pc.getD (s.pcIndex (s.mbX k) (s.mbY k) b) PcSlot.zero, s.qp⟩

/-- The neighbours `A` (left), `B` (above left) and `C` (above) of block `b` of macroblock `k`: the
table of R283. -/
def State.intraNeighbours (s : State) (k : Nat) (b : Fin 6) : Neighbour × Neighbour × Neighbour :=
  let mx := s.mbX k
  let my := s.mbY k
  let hasLeft := decide (1 ≤ mx)
  let hasAbove := decide (1 ≤ my)
  let left (i : Nat) := s.outerNeighbour hasLeft (mx - 1) my i
  let above (i : Nat) := s.outerNeighbour hasAbove mx (my - 1) i
  let aboveLeft (i : Nat) := s.outerNeighbour (hasLeft && hasAbove) (mx - 1) (my - 1) i
  let own (i : Nat) := s.innerNeighbour k i
  if b.val = 0 then (left 1, aboveLeft 3, above 2)
  else if b.val = 1 then (own 0, above 2, above 3)
  else if b.val = 2 then (left 3, left 1, own 0)
  else if b.val = 3 then (own 2, own 0, own 1)
  else (left b.val, aboveLeft b.val, above b.val)

/-- The outcome of `dc_predict`: direction, predictor, chosen neighbour (R285). -/
structure Prediction where
  dir : Direction
  pr : Int
  nb : Neighbour
  deriving DecidableEq, Repr

/-- `dc_predict(b)` of macroblock `k`, R285. -/
def State.dcPredict (s : State) (k : Nat) (b : Fin 6) : Prediction :=
  let n := s.intraNeighbours k b
  if (n.1.slot.dc - n.2.1.slot.dc).natAbs < (n.2.1.slot.dc - n.2.2.slot.dc).natAbs then
    ⟨.vertical, n.2.2.slot.dc, n.2.2⟩
  else ⟨.horizontal, n.1.slot.dc, n.1⟩

/-- `dc_recon(b, diff, P)`, R286. -/
def State.dcRecon (s : State) (b : Fin 6) (diff pr : Int) : State :=
  let scale : Int := dcScaler (isLuma b) s.qp
  let lev := clampCoef (diff + roundDiv pr scale)
  { s with qf := s.qf.set 0 lev, coef := s.coef.set 0 (clampCoef (lev * scale)) }

/-- `rescale(p, qn, qc)`, R287. -/
def rescale (p : Int) (qn qc : Nat) : Int := if qn = qc then p else roundDiv (p * qn) qc

/-- What AC prediction adds to the level at raster index `i`: the neighbour's first row along the first
row, or its first column down the first column (R287). -/
def acPredictor (dir : Direction) (n : Neighbour) (qp : Nat) (i : Fin 64) : Option Int :=
  match dir with
  | .vertical => if h : 1 ≤ i.val ∧ i.val ≤ 7 then some (rescale (n.slot.row[i.val - 1]'(by omega)) n.quant qp) else none
  | .horizontal =>
    if h : i.val % 8 = 0 ∧ 8 ≤ i.val then some (rescale (n.slot.col[i.val / 8 - 1]'(by omega)) n.quant qp) else none

/-- `ac_predict(dir, N, qn)`, R287. -/
def State.acPredict (s : State) (dir : Direction) (n : Neighbour) : State :=
  if s.mb.acPred then
    s.setQf (Vector.ofFn (fun i =>
      match acPredictor dir n s.qp i with
      | some p => clampCoef (s.qf[i] + p)
      | none => s.qf[i]))
  else s

/-- `pc_update(b)` of macroblock `k`, R288. -/
def State.pcUpdate (s : State) (k : Nat) (b : Fin 6) : State :=
  let slot : PcSlot :=
    ⟨s.coef[0], Vector.ofFn (fun i : Fin 7 => s.qf[i.val + 1]), Vector.ofFn (fun i : Fin 7 => s.qf[8 * (i.val + 1)])⟩
  { s with pc := s.pc.set (s.pcIndex (s.mbX k) (s.mbY k) b.val) slot }

/-- The scan of a block, R290. -/
def State.scanSelect (s : State) (dir : Direction) : Scan :=
  if s.mbIntra && s.mb.acPred then
    match dir with
    | .vertical => .altH
    | .horizontal => .altV
  else .zigzag

/-- `DC_PREDICT b`, R285. -/
def execDcPredict (b : Fin 6) (s : State) : Host.Outcome State Fault Refusal :=
  runOnMacroblock s.mbk (Act.of fun s =>
    let p := s.dcPredict s.mbk b
    .ok (.prediction p.dir p.pr p.nb.slot) s) s

/-- `DC_RECON b`, R286, with the differential and the predictor as operands. -/
def execDcRecon (b : Fin 6) (diff : Int) (pr : Int) (s : State) : Host.Outcome State Fault Refusal :=
  runCommand (Act.of fun s => .ok .none (s.dcRecon b diff pr)) s

/-- `AC_PREDICT b`, R287: direction, neighbour and quantizer are those R285 chooses for the block. -/
def execAcPredict (b : Fin 6) (s : State) : Host.Outcome State Fault Refusal :=
  runOnMacroblock s.mbk (Act.of fun s =>
    let p := s.dcPredict s.mbk b
    .ok .none (s.acPredict p.dir p.nb)) s

/-- `PC_UPDATE b`, R288. -/
def execPcUpdate (b : Fin 6) (s : State) : Host.Outcome State Fault Refusal :=
  runOnMacroblock s.mbk (Act.of fun s => .ok .none (s.pcUpdate s.mbk b)) s

/-- `SCAN_SELECT`, R290. -/
def execScanSelect (dir : Direction) (s : State) : Host.Outcome State Fault Refusal :=
  runCommand (Act.of fun s => .ok (.scan (s.scanSelect dir)) s) s

end Sys2Proof.Machine
end

