-- ==== Sys2Proof/Machine/Motion.lean ====
section
/-! DEFINITION. The motion-compensation engine, the chroma vectors, and global motion compensation
(spec/47_motion_compensation.md). -/

namespace Sys2Proof.Machine

/-! ## Samples and blocks -/

/-- `ref(P, X, Y)`, R341: coordinates are clamped onto the plane. -/
def refSample (p : Memory) (stride rows : Nat) (x y : Int) : Byte :=
  p.read ((clamp y 0 (rows - 1)).toNat * stride + (clamp x 0 (stride - 1)).toNat)

/-- The weighted mean of four neighbouring samples at quarter position `(dx, dy)`, R342. -/
def interpolate (dx dy : Int) (a b c d : Byte) (r : Bool) : Byte :=
  BitVec.ofInt 8 (asr ((4 - dx) * (4 - dy) * a.toNat + dx * (4 - dy) * b.toNat + (4 - dx) * dy * c.toNat
    + dx * dy * d.toNat + 8 - r.toNat) 4)

/-- `mc_block(P, x0, y0, qx, qy, r)`, R342. -/
def mcBlock (p : Memory) (stride rows : Nat) (x0 y0 qx qy : Int) (r : Bool) : Vector Byte 64 :=
  Vector.ofFn (fun i : Fin 64 =>
    let x := x0 + colOf i + asr qx 2
    let y := y0 + rowOf i + asr qy 2
    let dx := qx % 4
    let dy := qy % 4
    if dx = 0 ∧ dy = 0 then refSample p stride rows x y
    else
      interpolate dx dy (refSample p stride rows x y) (refSample p stride rows (x + 1) y)
        (refSample p stride rows x (y + 1)) (refSample p stride rows (x + 1) (y + 1)) r)

/-- `mc_luma(R, x0, y0, v, r)`, R342. -/
def State.mcLuma (s : State) (ref : FrameStore) (x0 y0 : Int) (v : MV) (r : Bool) : Vector Byte 64 :=
  let q := if s.vol.quarterpel then v else mapMV (fun c => 2 * c) v
  mcBlock ref.y (s.stride .y) (s.rows .y) x0 y0 q.x q.y r

/-- `mc_chroma(P, x0, y0, c, r)`, R347. -/
def State.mcChroma (s : State) (ref : FrameStore) (p : Plane) (x0 y0 : Int) (c : MV) (r : Bool) : Vector Byte 64 :=
  mcBlock (ref.plane p) (s.stride p) (s.rows p) x0 y0 (2 * c.x) (2 * c.y) r

/-! ## Chroma vectors -/

/-- A luma component in half samples: halved, toward zero, when the unit is the quarter sample (R345). -/
def State.toHalf (s : State) (c : Int) : Int := if s.vol.quarterpel then c.tdiv 2 else c

/-- `(h >> 1) | (h & 1)`, R345: "equals `(h >> 1) + [0, 1, 0, 0][h mod 4]`". -/
def chromaHalf (h : Int) : Int := asr h 1 + (if h % 4 = 1 then 1 else 0)

/-- `chroma_mv_1(v)`, R345. -/
def State.chromaMv1 (s : State) (v : MV) : MV := mapMV (fun c => chromaHalf (s.toHalf c)) v

/-- `2 * (s >> 4) + T[s mod 16]`, R346. -/
def chromaAverage (t : Int) : Int := 2 * asr t 4 + chromaRound.toList.getD (t % 16).toNat 0

/-- `chroma_mv_4(v0, v1, v2, v3)`, R346. -/
def State.chromaMv4 (s : State) (v0 v1 v2 v3 : MV) : MV :=
  ⟨chromaAverage (s.toHalf v0.x + s.toHalf v1.x + s.toHalf v2.x + s.toHalf v3.x),
   chromaAverage (s.toHalf v0.y + s.toHalf v1.y + s.toHalf v2.y + s.toHalf v3.y)⟩

/-! ## Sprite trajectory and GMC -/

/-- The reads of a trajectory component with a prefix of `len` zeros: the prefix bit by bit, then the value (R109). -/
def trajReads (len : Nat) : List Nat := List.replicate (len + 1) 1 ++ [len]

/-- One trajectory component at `BP`, R109. -/
def traj : Act Int := do
  let (len, v) ← parse parseTraj
  return signedField len v

/-- The two components of warping point `i`, horizontal first (R361). -/
def trajPoint (i : Fin 3) : Act Unit := do
  let du ← traj
  update (fun s => { s with gmc := { s.gmc with du := s.gmc.du.set i.val du } })
  let dv ← traj
  update (fun s => { s with gmc := { s.gmc with dv := s.gmc.dv.set i.val dv } })

/-- Zero for warping point `i` (R361). -/
def State.clearPoint (s : State) (i : Fin 3) : State :=
  { s with gmc := { s.gmc with du := s.gmc.du.set i.val 0, dv := s.gmc.dv.set i.val 0 } }

/-- `sprite_trajectory()`, R361: a point below `VOL.warp_points` is read, the others are zero. -/
def spriteTrajectory : Act Unit := do
  let n ← (fun s => .ok s.vol.warpPoints s : Act Nat)
  forEach [0, 1, 2] (fun i : Fin 3 => if i.val < n then trajPoint i else update (fun s => s.clearPoint i))

/-- `gmc_setup()`, R362. -/
def State.gmcSetup (s : State) : State :=
  let g : MV := if s.vol.warpPoints = 0 then MV.zero else ⟨s.gmc.du[0], s.gmc.dv[0]⟩
  { s with gmc := { s.gmc with gmv := if s.vol.quarterpel then mapMV (fun c => 2 * c) g else g } }

/-! ## Meanings -/

/-- `MC_LUMA`, R342. The store is read whatever its `valid` is (R32, log entry 35), and it may be `CUR`, where R70 and R341
speak of the reference stores only (DESIGN CHOICE, log entry 37). -/
def execMcLuma (ref : StoreSel) (x : Int) (y : Int) (v : MV) (r : Bool) (s : State) : Host.Outcome State Fault Refusal :=
  runCommand (Act.of fun s => .ok (.samples (s.mcLuma (s.store ref) x y v r)) s) s

/-- `CHROMA_MV_1`, R345. -/
def execChromaMv_1 (v : MV) (s : State) : Host.Outcome State Fault Refusal :=
  runCommand (Act.of fun s => .ok (.vector (s.chromaMv1 v)) s) s

/-- `CHROMA_MV_4`, R346. -/
def execChromaMv_4 (v0 v1 v2 v3 : MV) (s : State) : Host.Outcome State Fault Refusal :=
  runCommand (Act.of fun s => .ok (.vector (s.chromaMv4 v0 v1 v2 v3)) s) s

/-- `MC_CHROMA`, R347. The store is read whatever its `valid` is (R32, log entry 35), and it may be `CUR`, where R70 and R341
speak of the reference stores only (DESIGN CHOICE, log entry 37). -/
def execMcChroma (ref : StoreSel) (plane : ChromaSel) (x : Int) (y : Int) (c : MV) (r : Bool) (s : State) :
    Host.Outcome State Fault Refusal :=
  runCommand (Act.of fun s => .ok (.samples (s.mcChroma (s.store ref) (chromaPlane plane) x y c r)) s) s

/-- `SPRITE_TRAJECTORY`, R361. -/
def execSpriteTrajectory (s : State) : Host.Outcome State Fault Refusal :=
  runCommand (do
    spriteTrajectory
    pure .none) s

/-- `GMC_SETUP`, R362. -/
def execGmcSetup (s : State) : Host.Outcome State Fault Refusal :=
  runCommand (Act.of fun s => .ok .none s.gmcSetup) s

/-- `TRAJ_len_0`, R360. -/
def execTraj_0 (s : State) : Host.Outcome State Fault Refusal :=
  runCode 1 (fun s => s) (.int 0) s

/-- `TRAJ_len_1`, R360. -/
def execTraj_1 (v : BitVec 1) (s : State) : Host.Outcome State Fault Refusal :=
  runReads (trajReads 1) (fun s => s) (.int (signedField 1 v.toNat)) s

/-- `TRAJ_len_2`, R360. -/
def execTraj_2 (v : BitVec 2) (s : State) : Host.Outcome State Fault Refusal :=
  runReads (trajReads 2) (fun s => s) (.int (signedField 2 v.toNat)) s

/-- `TRAJ_len_3`, R360. -/
def execTraj_3 (v : BitVec 3) (s : State) : Host.Outcome State Fault Refusal :=
  runReads (trajReads 3) (fun s => s) (.int (signedField 3 v.toNat)) s

/-- `TRAJ_len_4`, R360. -/
def execTraj_4 (v : BitVec 4) (s : State) : Host.Outcome State Fault Refusal :=
  runReads (trajReads 4) (fun s => s) (.int (signedField 4 v.toNat)) s

/-- `TRAJ_len_5`, R360. -/
def execTraj_5 (v : BitVec 5) (s : State) : Host.Outcome State Fault Refusal :=
  runReads (trajReads 5) (fun s => s) (.int (signedField 5 v.toNat)) s

/-- `TRAJ_len_6`, R360. -/
def execTraj_6 (v : BitVec 6) (s : State) : Host.Outcome State Fault Refusal :=
  runReads (trajReads 6) (fun s => s) (.int (signedField 6 v.toNat)) s

/-- `TRAJ_len_7`, R360. -/
def execTraj_7 (v : BitVec 7) (s : State) : Host.Outcome State Fault Refusal :=
  runReads (trajReads 7) (fun s => s) (.int (signedField 7 v.toNat)) s

/-- `TRAJ_len_8`, R360. -/
def execTraj_8 (v : BitVec 8) (s : State) : Host.Outcome State Fault Refusal :=
  runReads (trajReads 8) (fun s => s) (.int (signedField 8 v.toNat)) s

/-- `TRAJ_len_9`, R360. -/
def execTraj_9 (v : BitVec 9) (s : State) : Host.Outcome State Fault Refusal :=
  runReads (trajReads 9) (fun s => s) (.int (signedField 9 v.toNat)) s

/-- `TRAJ_len_10`, R360. -/
def execTraj_10 (v : BitVec 10) (s : State) : Host.Outcome State Fault Refusal :=
  runReads (trajReads 10) (fun s => s) (.int (signedField 10 v.toNat)) s

/-- `TRAJ_len_11`, R360. -/
def execTraj_11 (v : BitVec 11) (s : State) : Host.Outcome State Fault Refusal :=
  runReads (trajReads 11) (fun s => s) (.int (signedField 11 v.toNat)) s

/-- `TRAJ_len_12`, R360. -/
def execTraj_12 (v : BitVec 12) (s : State) : Host.Outcome State Fault Refusal :=
  runReads (trajReads 12) (fun s => s) (.int (signedField 12 v.toNat)) s

end Sys2Proof.Machine
end

