-- ==== Sys2Proof/Machine/Macroblock.lean ====
section
/-! DEFINITION. The macroblock sequencer, residual decode and reconstruction (spec/46_macroblock.md), the
macroblock syntax it runs (spec/30_encoding.md R110 to R113, spec/41_vlc_mb_header.md R185), direct-mode
vectors (spec/48_frame_reorder.md R400) and degradation (spec/60_exceptions.md R472). -/

namespace Sys2Proof.Machine

/-! ## Blocks -/

/-- `RECON`, R322: the sum is formed exactly, then clamped. -/
def recon (p : Byte) (f : Int) : Byte := toSample (p.toNat + f)

/-- Writes the samples of an intra block: `clamp(f, 0, 255)` (R314). -/
def State.writeIntra (s : State) (k : Nat) (b : Fin 6) : State :=
  s.writeBlock k b (Vector.ofFn (fun i => recon 0#8 s.residual[i]))

/-- Writes the samples of a coded inter block: prediction and residual (R315). -/
def State.writeInter (s : State) (k : Nat) (b : Fin 6) : State :=
  s.writeBlock k b (Vector.ofFn (fun i => recon s.pred[b][i] s.residual[i]))

/-- `intra_block(b)` of macroblock `k`, R314. -/
def intraBlock (k : Nat) (b : Fin 6) : Act Unit := do
  let s ← get
  let p := s.dcPredict k b
  let scan := s.scanSelect p.dir
  let coded := codedFlag s.mb.cbp b
  update (fun s => s.setQf (Vector.replicate 64 0))
  let diff ←
    if s.useDcVlc then do
      let diff ← dcDiff b
      if coded then decodeAc .intra 1 scan else pure ()
      pure diff
    else do
      if coded then decodeAc .intra 0 scan else pure ()
      let t ← get
      pure t.qf[0]
  update (fun s => ((((((s.dcRecon b diff p.pr).acPredict p.dir p.nb).pcUpdate k b).dequant true).idct).writeIntra k b))

/-- `inter_block(b)` of macroblock `k`, R315. -/
def interBlock (k : Nat) (b : Fin 6) : Act Unit := do
  let s ← get
  if codedFlag s.mb.cbp b then
    update (fun s => s.setQf (Vector.replicate 64 0))
    decodeAc .inter 0 .zigzag
    update (fun s => ((s.dequant false).idct).writeInter k b)
  else update (fun s => s.writeBlock k b s.pred[b])

/-! ## Predictions -/

/-- The six prediction blocks of macroblock `k` from one reference: luma block `b` by vector `mv[b]`,
chroma by `c` (R320, R326). -/
def State.predictFrom (s : State) (k : Nat) (ref : FrameStore) (mv : Vector MV 4) (c : MV) (r : Bool) :
    Vector (Vector Byte 64) 6 :=
  let mx := s.mbX k
  let my := s.mbY k
  let luma (b : Fin 4) := s.mcLuma ref (blockX mx (b.castLE (by omega))) (blockY my (b.castLE (by omega))) mv[b] r
  #v[luma 0, luma 1, luma 2, luma 3,
     s.mcChroma ref .u ((8 * mx : Nat) : Int) ((8 * my : Nat) : Int) c r,
     s.mcChroma ref .v ((8 * mx : Nat) : Int) ((8 * my : Nat) : Int) c r]

/-- The chroma vector of a macroblock: of the four vectors where they are coded separately, else of the
first (R320, R326). -/
def State.chromaMv (s : State) (four : Bool) (mv : Vector MV 4) : MV :=
  if four then s.chromaMv4 mv[0] mv[1] mv[2] mv[3] else s.chromaMv1 mv[0]

/-- Builds `PRED` for a macroblock of a P or S VOP, R320. -/
def State.predictP (s : State) (k : Nat) : State :=
  { s with pred := s.predictFrom k s.refNew s.mb.mv (s.chromaMv (decide (s.mb.mode = .inter4V)) s.mb.mv) s.rounding }

/-- The mean of two predictions, `(a + b + 1) >> 1`, R326. -/
def average (a b : Vector Byte 64) : Vector Byte 64 :=
  Vector.ofFn (fun i => BitVec.ofNat 8 ((a[i].toNat + b[i].toNat + 1) / 2))

/-- The `REFMV` entry of macroblock `k`. -/
def State.refmvAt (s : State) (k : Nat) : MbInfo := s.refmv.getD k MbInfo.reset

/-- Does a B macroblock have four chroma-relevant vectors: Direct mode over an Inter4V macroblock (R326;
DirectNoneMv is direct mode with no delta, log entry 17)? -/
def State.bFourVectors (s : State) (k : Nat) : Bool :=
  (decide (s.mb.btype = .direct) || decide (s.mb.btype = .directNoneMv)) && decide ((s.refmvAt k).mode = .inter4V)

/-- Builds `PRED` for a macroblock of a B VOP, R326: forward from `REF_OLD`, backward from `REF_NEW`. -/
def State.predictB (s : State) (k : Nat) : State :=
  let four := s.bFourVectors k
  let fwd := s.predictFrom k s.refOld s.mb.mv (s.chromaMv four s.mb.mv) false
  let bwd := s.predictFrom k s.refNew s.mb.mvb (s.chromaMv four s.mb.mvb) false
  let both : Vector (Vector Byte 64) 6 := Vector.ofFn (fun b => average fwd[b] bwd[b])
  { s with pred :=
      match s.mb.btype with
      | .forward => fwd
      | .backward => bwd
      | .interpolate => both
      | .direct => both
      | .directNoneMv => both }

/-! ## Copy, write-back, degradation -/

/-- Copies one 8x8 block of a plane from a reference into `CUR` at the same place (R318). -/
def State.copyBlock (s : State) (k : Nat) (ref : FrameStore) (b : Fin 6) : State :=
  let p := blockPlane b
  s.writeBlock k b (Vector.ofFn (fun i =>
    (ref.plane p).read ((blockY (s.mbY k) b + rowOf i) * s.stride p + (blockX (s.mbX k) b + colOf i))))

/-- `copy_mb(k, REF)`, R318: the 16x16 luma area is its four blocks. -/
def State.copyMb (s : State) (k : Nat) (ref : FrameStore) : State :=
  blocks.foldl (fun t b => t.copyBlock k ref b) s

/-- `mbi_write(k)`, R324. -/
def State.mbiWrite (s : State) (k : Nat) : State :=
  let mv := if hasVectors s.mb.mode then s.mb.mv else allFour MV.zero
  { s with mbi := s.mbi.set k ⟨s.mb.mode, s.qp, mv⟩ }

/-- `degrade(k)`, R472. -/
def State.degrade (s : State) (k : Nat) : State :=
  let t := s.copyMb k s.refNew
  if t.vop.pictureType = .b then t else { t with mbi := t.mbi.set k ⟨.notCoded, t.qp, allFour MV.zero⟩ }

/-! ## Vectors of a macroblock -/

/-- Writes `MB.mv[b]`. -/
def State.setMv (s : State) (b : Fin 4) (v : MV) : State := s.setMb { s.mb with mv := s.mb.mv.set b.val v }

/-- Writes all four `MB.mv`. -/
def State.setMvs (s : State) (v : Vector MV 4) : State := s.setMb { s.mb with mv := v }

/-- Writes all four `MB.mvb`. -/
def State.setMvbs (s : State) (v : Vector MV 4) : State := s.setMb { s.mb with mvb := v }

/-- One forward component in direct mode: `(trb * co) / trd + delta` (R400). -/
def directForward (trb trd co delta : Int) : Int := quot (trb * co) trd + delta

/-- One backward component in direct mode (R400). -/
def directBackward (trb trd co delta : Int) : Int :=
  if delta = 0 then quot ((trb - trd) * co) trd else directForward trb trd co delta - co

/-- `direct(k, delta)`, R400. -/
def State.direct (s : State) (k : Nat) (delta : MV) : State :=
  let co := (s.refmvAt k).mv
  let trb := s.vop.trb
  let trd := s.vop.trd
  s.setMb { s.mb with
    mv := Vector.ofFn (fun b : Fin 4 => ⟨directForward trb trd co[b].x delta.x, directForward trb trd co[b].y delta.y⟩)
    mvb := Vector.ofFn (fun b : Fin 4 => ⟨directBackward trb trd co[b].x delta.x, directBackward trb trd co[b].y delta.y⟩) }

/-- A forward vector of a B macroblock: read, written, and kept as the predictor (R185). -/
def forwardVector : Act Unit := do
  let s ← get
  let v ← decodeVector s.pmvF s.vop.fcodeFwd
  update (fun s => { s.setMvs (allFour v) with pmvF := v })

/-- A backward vector of a B macroblock (R185). -/
def backwardVector : Act Unit := do
  let s ← get
  let v ← decodeVector s.pmvB s.vop.fcodeBwd
  update (fun s => { s.setMvbs (allFour v) with pmvB := v })

/-- The vectors of B macroblock `k`, by its type (R185). -/
def bVectors (k : Nat) : Act Unit := do
  let s ← get
  match s.mb.btype with
  | .forward => forwardVector
  | .backward => backwardVector
  | .interpolate => do
    forwardVector
    backwardVector
  | .direct => do
    let dx ← decodeDelta 1
    let dy ← decodeDelta 1
    update (fun s => s.direct k ⟨dx, dy⟩)
  | .directNoneMv => update (fun s => s.direct k MV.zero)

/-! ## Macroblock syntax -/

/-- `repeat m <- Vlc(MCBPC_I) until m != STUFFING`, R110. A turn takes nine bits, so `fuel` of one more
than the bits left never runs out. -/
def readMcbpcI (fuel : Nat) : Act (MbMode × BitVec 2) :=
  match fuel with
  | 0 => raiseKind .invalidData
  | fuel + 1 => do
    let r ← parse (vlc McbpcRow.code mcbpcITable)
    match r.sym with
    | .mb mode cbpc => pure (mode, cbpc)
    | .stuffing => readMcbpcI fuel

/-- The loop at the head of R111: `not_coded`, then MCBPC_P, again after stuffing; `none` is a
macroblock that is not coded. -/
def readMcbpcP (fuel : Nat) : Act (Option (MbMode × BitVec 2)) :=
  match fuel with
  | 0 => raiseKind .invalidData
  | fuel + 1 => do
    let b ← readBit
    if b then pure none
    else
      let r ← parse (vlc McbpcRow.code mcbpcPTable)
      match r.sym with
      | .mb mode cbpc => pure (some (mode, cbpc))
      | .stuffing => readMcbpcP fuel

/-- More turns than a stuffing loop can take at `s`. -/
def State.fuel (s : State) : Nat := 8 * s.bslen + 1

/-- `c <- Vlc(CBPY)` and `MB.cbp` (R110, R111). -/
def readCbpy (cbpc : BitVec 2) : Act Unit := do
  let r ← parse (vlc CbpyRow.code cbpyTable)
  update (fun s => s.setMb { s.mb with cbp := joinCbp (cbpyValue (isIntraMode s.mb.mode) r.intra) cbpc })

/-- `apply_dquant(ReadBits(2))` in a Q mode (R172). -/
def readDquant : Act Unit := do
  let s ← get
  if hasDquant s.mb.mode then
    let r ← parse (vlc QuantRow.code dquantTable)
    update (fun s => s.offsetQp r.delta)
  else pure ()

/-- `mb_I()`, R110, for macroblock `k`. -/
def mbI (k : Nat) : Act Unit := do
  let s ← get
  let (mode, cbpc) ← readMcbpcI s.fuel
  update (fun s => s.setMb { s.mb with mode := mode })
  let ac ← readBit
  update (fun s => s.setAcPred ac)
  readCbpy cbpc
  readDquant
  forEach blocks (fun b => intraBlock k b)

/-- The `mcsel` bit where the syntax has one, else 0 (R111, R173). -/
def readMcsel : Act Unit := do
  update (fun s => s.setMcsel false)
  let s ← get
  if s.vop.isSprite && (decide (s.mb.mode = .inter) || decide (s.mb.mode = .interQ)) then
    let b ← readBit
    update (fun s => s.setMcsel b)
  else pure ()

/-- The `ac_pred` bit of an intra macroblock; in every other, 0 and no bit (R171). -/
def readAcPred : Act Unit := do
  let s ← get
  if isIntraMode s.mb.mode then
    let b ← readBit
    update (fun s => s.setAcPred b)
  else update (fun s => s.setAcPred false)

/-- The vectors of a P or S macroblock `k` (R111, R177). -/
def pVectors (k : Nat) : Act Unit := do
  let s ← get
  if s.mb.mode = .inter4V then
    forEach [0, 1, 2, 3] (fun b : Fin 4 => do
      let v ← decodeMv k b
      update (fun s => s.setMv b v))
  else if hasVectors s.mb.mode then
    if s.mb.mcsel then update (fun s => s.setMvs (allFour s.gmc.gmv))
    else
      let v ← decodeMv k 0
      update (fun s => s.setMvs (allFour v))
  else pure ()

/-- The blocks of a P or S macroblock `k`, its prediction built first where it is not intra (R310, R111). -/
def pBlocks (k : Nat) : Act Unit := do
  let s ← get
  if isIntraMode s.mb.mode then forEach blocks (fun b => intraBlock k b)
  else
    update (fun s => s.predictP k)
    forEach blocks (fun b => interBlock k b)

/-- `mb_P()`, R111, for macroblock `k`; a macroblock that is not coded is completed by the copy of R318. -/
def mbP (k : Nat) : Act Unit := do
  let s ← get
  match ← readMcbpcP s.fuel with
  | none => update (fun s => (s.setMb { s.mb with mode := .notCoded, acPred := false }).copyMb k s.refNew)
  | some (mode, cbpc) => do
    update (fun s => s.setMb { s.mb with mode := mode })
    readMcsel
    readAcPred
    readCbpy cbpc
    readDquant
    pVectors k
    pBlocks k

/-- The type, pattern and quantizer change of a B macroblock that is not skipped: MODB as two one-bit
reads, BMBTYPE, CBPB, DBQUANT (R112). -/
def readBHeader : Act Unit := do
  let direct ← readBit
  if direct then update (fun s => s.setMb { s.mb with btype := .directNoneMv, cbp := 0#6 })
  else
    let noCbp ← readBit
    let t ← parse (vlc BmbtypeRow.code bmbtypeTable)
    update (fun s => s.setBtype t.btype)
    let cbp ← if noCbp then pure 0 else readBits 6
    update (fun s => s.setCbp (BitVec.ofNat 6 cbp))
    if t.btype ≠ .direct ∧ BitVec.ofNat 6 cbp ≠ 0#6 then
      let d ← parse (vlc QuantRow.code dbquantTable)
      update (fun s => s.offsetQp d.delta)
    else pure ()

/-- `PMV_F` and `PMV_B` are zero at the start of each macroblock row (R185). -/
def State.startRow (s : State) (k : Nat) : State :=
  if s.mbX k = 0 then { s with pmvF := MV.zero, pmvB := MV.zero } else s

/-- The effect of a B macroblock whose co-located macroblock was not coded: Forward, zero vector, no
block coded, no bit read (R112). -/
def State.skipB (s : State) : State :=
  s.setMb { s.mb with btype := .forward, mv := allFour MV.zero, cbp := 0#6, acPred := false }

/-- `mb_B(k)`, R112. A skipped macroblock too is predicted and written (R185, log entry 18). -/
def mbB (k : Nat) : Act Unit := do
  update (fun s => s.startRow k)
  let s ← get
  if (s.refmvAt k).mode = .notCoded then update (fun s => s.skipB)
  else
    update (fun s => s.setAcPred false)
    readBHeader
    bVectors k
  update (fun s => s.predictB k)
  forEach blocks (fun b => interBlock k b)

/-- `decode_mb(k)`, R310, before its failure is caught. -/
def decodeMb (k : Nat) : Act Unit := do
  let s ← get
  match s.vop.pictureType with
  | .i => do
    mbI k
    update (fun s => s.mbiWrite k)
  | .p => do
    mbP k
    update (fun s => s.mbiWrite k)
  | .s => do
    mbP k
    update (fun s => s.mbiWrite k)
  | .b => mbB k

/-- A macroblock with its failure handled: in a P, S or B VOP it is degraded (R472); in an I VOP the
failure goes on to the command (R476). `FAIL` is 1 either way. -/
def decodeMbCaught (k : Nat) : Act Unit := fun s =>
  match decodeMb k s with
  | .ok _ t => .ok () t
  | .error e t =>
    if t.vop.pictureType = .i then .error e { t with fail := true }
    else .ok () ({ t with fail := true }.degrade k)

/-! ## Meanings -/

/-- `DECODE_MB k`, R310. `MBK` becomes `k`, the macroblock being decoded (R27, log entry 19). Given
alone it reads its references whatever their `valid` is (R32, log entry 35). -/
def execDecodeMb (k : Nat) (s : State) : Host.Outcome State Fault Refusal :=
  runOnMacroblock k (do
    update (fun s => { s with mbk := k })
    decodeMbCaught k
    pure .none) s

/-- `INTRA_BLOCK b` of macroblock `MBK`, R314. -/
def execIntraBlock (b : Fin 6) (s : State) : Host.Outcome State Fault Refusal :=
  runOnMacroblock s.mbk (do
    intraBlock s.mbk b
    pure .none) s

/-- `INTER_BLOCK b` of macroblock `MBK`, R315. -/
def execInterBlock (b : Fin 6) (s : State) : Host.Outcome State Fault Refusal :=
  runOnMacroblock s.mbk (do
    interBlock s.mbk b
    pure .none) s

/-- `COPY_MB k`, R318. The store is read whatever its `valid` is (R32, log entry 35), and it may be `CUR` (DESIGN CHOICE, log
entry 37). -/
def execCopyMb (k : Nat) (ref : StoreSel) (s : State) : Host.Outcome State Fault Refusal :=
  runOnMacroblock k (Act.of fun s => .ok .none (s.copyMb k (s.store ref))) s

/-- `RECON`, R322. -/
def execRecon (p : Byte) (f : Int) (s : State) : Host.Outcome State Fault Refusal :=
  runCommand (Act.of fun s => .ok (.sample (recon p f)) s) s

/-- `MBI_WRITE k`, R324: "In a B VOP `MBI` is not written". -/
def execMbiWrite (k : Nat) (s : State) : Host.Outcome State Fault Refusal :=
  runOnMacroblock k (Act.of fun s => .ok .none (if s.vop.pictureType = .b then s else s.mbiWrite k)) s

/-- `DIRECT_MV k, delta`, R400. -/
def execDirectMv (k : Nat) (delta : MV) (s : State) : Host.Outcome State Fault Refusal :=
  runOnMacroblock k (Act.of fun s => .ok .none (s.direct k delta)) s

end Sys2Proof.Machine
end

