-- ==== Sys2Proof/Machine/FrameAssembly.lean ====
section
/-! DEFINITION. Frame assembly, the decode of one VOP, and the reorder buffer
(spec/48_frame_reorder.md). -/

namespace Sys2Proof.Machine

/-! ## Reorder buffer -/

/-- The output frame made of a store: its planes, the strides, the display size and the metadata (R33,
R71, R432). -/
def State.frameOf (s : State) (f : FrameStore) : Frame :=
  { y := f.y, u := f.u, v := f.v, linesize := (s.stride .y, s.stride .u, s.stride .v), width := s.vol.width
    height := s.vol.height, pixelFormat := .yuv420p, info := f.info }

/-- Is slot `a` taken before slot `b`: smaller POC, and among equal POC the smaller `seq` (R390)? -/
def slotBefore (a b : RobSlot) : Bool :=
  decide (a.frame.info.poc < b.frame.info.poc)
    || (decide (a.frame.info.poc = b.frame.info.poc) && decide (a.seq ≤ b.seq))

/-- The slot taken first, and the others in their order. -/
def takeFirst (rob : List RobSlot) : Option (RobSlot × List RobSlot) :=
  match rob with
  | [] => none
  | a :: rest =>
    match takeFirst rest with
    | none => some (a, [])
    | some (b, others) => if slotBefore a b then some (a, rest) else some (b, a :: others)

/-- Moves first slots from `rob` to the end of `outq` while more than `depth` are left (R390, R391).
`fuel` is at least the number of slots. -/
def evict (depth fuel : Nat) (rob : List RobSlot) (outq : List Frame) : List RobSlot × List Frame :=
  match fuel with
  | 0 => (rob, outq)
  | fuel + 1 =>
    if rob.length ≤ depth then (rob, outq)
    else
      match takeFirst rob with
      | none => (rob, outq)
      | some (a, rest) => evict depth fuel rest (outq ++ [a.frame])

/-- `push(frame)`, R390. -/
def State.push (s : State) (f : FrameStore) : State :=
  let rob := s.rob ++ [⟨s.frameOf f, s.robSeq⟩]
  let e := evict s.params.reorderDepth rob.length rob s.outq
  { s with rob := e.1, outq := e.2, robSeq := s.robSeq + 1 }

/-- `drain()`, R391. -/
def State.drain (s : State) : State :=
  let e := evict 0 s.rob.length s.rob s.outq
  { s with rob := e.1, outq := e.2 }

/-! ## Completing a VOP -/

/-- `complete_ref()`, R385. -/
def State.completeRef (s : State) : State :=
  let t := ({ s with refmv := s.mbi, refmvValid := true, refOld := s.refNew, refNew := s.cur } : State).push s.cur
  if s.vop.pictureType = .i then { t with waitKeyframe := false } else t

/-- `complete_b()`, R387. -/
def State.completeB (s : State) : State := s.push s.cur

/-- The completion the picture type asks for (R380). -/
def State.complete (s : State) : State :=
  if s.vop.pictureType = .b then s.completeB else s.completeRef

/-! ## Decoding one VOP -/

/-- Every register `DECODE_VOP` sets before its first macroblock, with start quantizer `q` (R26, R380).
`CUR` is not valid until the VOP is complete (R476, log entry 20). -/
def State.beginVop (s : State) (q : Nat) : State :=
  let t : State :=
    { s with
      qp := q
      prevQuant := q
      fail := false
      mbi := List.replicate s.mbCount MbInfo.reset
      pmvF := MV.zero
      pmvB := MV.zero
      bp := s.vop.mbStart
      cur := { s.cur with
        valid := false
        info := ⟨s.vop.poc, s.vop.pts, s.vop.duration, s.vop.timeBase, s.vop.pictureType, s.vop.isKeyframe⟩ } }
  if s.vop.pictureType = .s then t.gmcSetup else t

/-- One turn of the macroblock loop of R380. -/
def vopMacroblock (k : Nat) : Act Unit := do
  update (fun s => { s with mbk := k })
  let s ← get
  if s.fail then update (fun s => s.degrade k) else decodeMbCaught k

/-- The end of R380, after the last macroblock. -/
def State.endVop (s : State) : State := ({ s with cur := { s.cur with valid := true } } : State).complete

/-- The part of `decode_vop()` after its checks, R380. -/
def vopBody (q : Nat) : Act Unit := do
  update (fun s => s.beginVop q)
  let s ← get
  forEach (List.range s.mbCount) vopMacroblock
  update (fun s => s.endVop)

/-- A VOP that is passed over with `Ok`: it carries no macroblock data (R383) or a reference it needs is
not valid (R473, R474). -/
def State.vopSkipped (s : State) : Bool := !s.vop.vopCoded || s.missingReference

/-- The kind a check of `DECODE_VOP` raises, in the order of R469; each is made before any state is
written. -/
def State.vopFault (s : State) : Option Kind :=
  if !s.vol.valid then some .invalidData
  else if s.vol.refused then some .unsupported
  else if s.illegalVop then some .invalidData
  else if s.vopSkipped then none
  else if s.startQuant = 0 then some .invalidData
  else if 8 * s.bslen < s.vop.mbStart then some .invalidData
  else none

/-- `decode_vop()`, R380. -/
def decodeVop : Act Unit := fun s =>
  match s.vopFault with
  | some k => .error k s
  | none => if s.vopSkipped then .ok () s else vopBody s.startQuant s

/-! ## Meanings -/

/-- `DECODE_VOP`, R380. -/
def execDecodeVop (s : State) : Host.Outcome State Fault Refusal :=
  runCommand (do
    decodeVop
    pure .none) s

/-- `COMPLETE_REF`, R385. Given alone it does not look at `CUR.valid` (R32, log entry 35). -/
def execCompleteRef (s : State) : Host.Outcome State Fault Refusal :=
  runCommand (Act.of fun s => .ok .none s.completeRef) s

/-- `COMPLETE_B`, R387. Given alone it does not look at `CUR.valid` (R32, log entry 35). -/
def execCompleteB (s : State) : Host.Outcome State Fault Refusal :=
  runCommand (Act.of fun s => .ok .none s.completeB) s

/-- `PUSH`, R390, of the store named, whatever its `valid` is (R32, log entry 35); R385 and R387 push `CUR` only, that another
may be named is a DESIGN CHOICE (log entry 37). -/
def execPush (src : StoreSel) (s : State) : Host.Outcome State Fault Refusal :=
  runCommand (Act.of fun s => .ok .none (s.push (s.store src))) s

/-- `DRAIN`, R391. -/
def execDrain (s : State) : Host.Outcome State Fault Refusal :=
  runCommand (Act.of fun s => .ok .none s.drain) s

end Sys2Proof.Machine
end

