-- ==== Sys2Proof/Machine/HostCommand.lean ====
section
/-! DEFINITION. The host commands (spec/49_host_commands.md, spec/10_state.md section 9). The header
parser is the host's (R6), so what it makes of a VOL or VOP header is an operand (log entry 11). -/

namespace Sys2Proof.Machine

/-! ## VOL and VOP registers -/

/-- Makes every store, `MBI`, `REFMV` and `PC` anew, at reset values, for the current size (R424). -/
def State.remake (s : State) : State :=
  { s with
    cur := FrameStore.reset
    refNew := FrameStore.reset
    refOld := FrameStore.reset
    mbi := List.replicate s.mbCount MbInfo.reset
    refmv := List.replicate s.mbCount MbInfo.reset
    refmvValid := false
    pc := List.replicate (6 * s.mbCount) PcSlot.zero }

/-- The size a VOL header leaves: its own where it carries one, else the size in force. -/
def State.sizeAfter (s : State) (v : VolHeader) : Nat × Nat := v.size.getD (s.vol.width, s.vol.height)

/-- The writes of `load_vol(v)`, R424. -/
def State.applyVol (s : State) (v : VolHeader) : State :=
  let size := s.sizeAfter v
  let t : State :=
    { s with
      vol :=
        { valid := true, timeIncRes := v.timeIncRes, quantType := v.quantType, interlaced := v.interlaced
          quarterpel := v.quarterpel, spriteEnable := v.spriteEnable, warpPoints := v.warpPoints
          warpAccuracy := v.warpAccuracy, resyncMarkerDisable := v.resyncMarkerDisable
          dataPartitioned := v.dataPartitioned, shape := v.shape, notEightBit := v.notEightBit
          width := size.1, height := size.2 }
      qmIntra := v.intraMatrix.getD defaultIntraMatrix
      qmInter := v.interMatrix.getD defaultInterMatrix }
  if size = (s.vol.width, s.vol.height) then t else t.remake

/-- `load_vol(v)`, R424: `InvalidData` before `Unsupported` (R469), and nothing written on either. -/
def loadVol (v : VolHeader) : Act Unit := do
  require (!headerInvalid v) .invalidData
  require (!headerRefused v) .unsupported
  update (fun s => s.applyVol v)

/-- `LOAD_VOP h`, R425: every field of the `VOP` group. -/
def State.loadVop (s : State) (h : VopHeader) : State := { s with vop := h }

/-- `SET_BP p`, R438. -/
def setBp (p : Nat) : Act Unit := do
  let s ← get
  require (decide (p ≤ 8 * s.bslen)) .invalidData
  update (fun s => { s with bp := p })

/-! ## OPEN -/

/-- An instance right after `OPEN` with the given size and no VOL: R37, and every other piece of state at
its creation value. The parameters of the implementation and the pending requests are not the
instance's state to reset. -/
def State.openWith (s : State) (w h : Nat) : State :=
  let c := State.creation s.params s.inq
  ({ c with opened := true, vol := { c.vol with width := w, height := h } } : State).remake

/-- Does `extra_data` hold a VOL start code (R422)? -/
def hasVol (data : List Byte) : Bool := (findStartCodeRange data 0x20#8 0x2F#8).isSome

/-- `open(params)` after its state check, R422. -/
def openInstance (p : CodecParameters) : Act Unit :=
  if hasVol p.extraData then
    match p.extraVol with
    | none => raiseKind .invalidData
    | some v => do
      let size := v.size.getD (p.width, p.height)
      require (decide (size.1 ≠ 0) && decide (size.2 ≠ 0)) .invalidData
      require (!headerInvalid v) .invalidData
      require (!headerRefused v) .unsupported
      update (fun s => (s.openWith size.1 size.2).applyVol v)
  else do
    require (decide (p.width ≠ 0) && decide (p.height ≠ 0)) .invalidData
    update (fun s => s.openWith p.width p.height)

/-! ## SEND_PACKET -/

/-- Loads the window: the whole packet, and `BP <- 0` (R426). The bytes are copied: the model has no release of the packet by
the host (R511), so that whatever reads bits later reads the recorded window (log entry 36). -/
def State.loadWindow (s : State) (data : List Byte) : State :=
  { s with flushing := false, bs := Memory.ofBytes 0 data, bslen := data.length, bp := 0 }

/-- The offsets that repeated `FindStartCode(data, 0xB6)` returns, `base` being the offset of `data` in
the packet (R144, R426, R427). `fuel` is more than the number of codes. -/
def vopOffsets (fuel base : Nat) (data : List Byte) : List Nat :=
  match fuel with
  | 0 => []
  | fuel + 1 =>
    match findStartCode data 0xB6#8 with
    | none => []
    | some a => (base + a) :: vopOffsets fuel (base + a) (data.drop a)

/-- The VOP header with the packet's time stamps: "Each VOP takes the packet's `pts`, `duration`,
`time_base`, `is_keyframe`" (R426). -/
def stamp (p : Packet) (h : VopHeader) : VopHeader :=
  { h with pts := p.pts, duration := p.duration, timeBase := p.timeBase, isKeyframe := p.isKeyframe }

/-- The sprite trajectory of an S VOP header, which the host's parse reads with `SET_BP` and
`SPRITE_TRAJECTORY` where it meets one (R425, R361). The rest of the parse moves no `BP` (log entry 34). -/
def parseTrajectory (v : VopParse) : Act Unit :=
  match v.trajectory with
  | none => pure ()
  | some p => do
    setBp p
    spriteTrajectory

/-- `load_vop(h); decode_vop()` of R426. A check of `DECODE_VOP` that raises leaves `VOP` as it was before
(R462, R471; log entry 21). -/
def loadAndDecode (h : VopHeader) : Act Unit := fun s =>
  match (s.loadVop h).vopFault with
  | some k => .error k s
  | none => decodeVop (s.loadVop h)

/-- One VOP of a packet (R426, R429). -/
def sendVop (p : Packet) (v : VopParse) : Act Unit := do
  let s ← get
  if s.waitKeyframe && decide (v.header.pictureType ≠ .i) then pure ()
  else
    parseTrajectory v
    loadAndDecode (stamp p v.header)

/-- The VOPs of a packet, one for each offset. A parse that failed or is missing is `InvalidData`
(R425). -/
def sendVops (p : Packet) (offs : List Nat) (parses : List (Option VopParse)) : Act Unit :=
  match offs with
  | [] => pure ()
  | _ :: offs =>
    match parses with
    | [] => raiseKind .invalidData
    | none :: _ => raiseKind .invalidData
    | some v :: parses => do
      sendVop p v
      sendVops p offs parses

/-- The VOL of a packet, if it has one (R426). R423 lets the host's parse use `READ_BITS`, `SKIP_BITS` and
`SET_BP`; the model has the parse as an operand, and it moves no `BP` (log entry 34). -/
def sendVol (found : Bool) (v : Option VolHeader) : Act Unit :=
  if found then
    match v with
    | none => raiseKind .invalidData
    | some v => loadVol v
  else pure ()

/-- `send_packet(pkt)` for a packet that is not empty, R426. Where the VOL loads and a VOP of the same packet
then raises, the VOL, the stores re-made for it and the trajectory that was read stay: what the packet did before
the failing part keeps its effect (log entry 33). -/
def sendData (p : Packet) (h : HeaderParse) : Act Unit := do
  update (fun s => s.loadWindow p.data)
  let found := hasVol p.data
  sendVol found h.vol
  let offs := vopOffsets p.data.length 0 p.data
  require (found || !offs.isEmpty) .invalidData
  sendVops p offs h.vops

/-- The end of the stream: an empty packet (R428). -/
def State.endOfStream (s : State) : State := ({ s with flushing := true } : State).drain

/-! ## FLUSH -/

/-- `FLUSH`, R38 with R39 for `MBK`, `PMV_F` and `PMV_B`. What R39 calls unspecified after it, the samples of the
three stores among it, is kept (log entry 25). -/
def State.flush (s : State) : State :=
  { s with
    bs := []
    bslen := 0
    bp := 0
    refNew := { s.refNew with valid := false }
    refOld := { s.refOld with valid := false }
    cur := { s.cur with valid := false }
    refmvValid := false
    mbi := List.replicate s.mbCount MbInfo.reset
    refmv := List.replicate s.mbCount MbInfo.reset
    rob := []
    outq := []
    robSeq := 0
    flushing := false
    waitKeyframe := true
    prevQuant := 0
    fail := false
    mbk := 0
    pmvF := MV.zero
    pmvB := MV.zero
    gmc := Gmc.zero }

/-! ## Meanings -/

/-- `OPEN params`, R422: needs `Closed` (R420). -/
def execOpenInst (params : CodecParameters) (s : State) : Host.Outcome State Fault Refusal :=
  if s.opened then .next (s.raise .invalidData)
  else
    outcomeOf ((do
      openInstance params
      pure Result.none : Act Result) s)

/-- `LOAD_VOL v`, R424. -/
def execLoadVol (v : VolHeader) (s : State) : Host.Outcome State Fault Refusal :=
  runCommand (do
    loadVol v
    pure .none) s

/-- `LOAD_VOP h`, R425. -/
def execLoadVop (h : VopHeader) (s : State) : Host.Outcome State Fault Refusal :=
  runCommand (Act.of fun s => .ok .none (s.loadVop h)) s

/-- `SEND_PACKET pkt`, R426, with the host's parse of the headers in it. -/
def execSendPacket (pkt : Packet) (hp : HeaderParse) (s : State) : Host.Outcome State Fault Refusal :=
  runCommand (do
    if pkt.data.isEmpty then update (fun s => s.endOfStream) else sendData pkt hp
    pure .none) s

/-- `RECEIVE_FRAME`, R430: the head of `OUTQ`, else `Eof` at the end of the stream, else `NeedMoreData`. -/
def execReceiveFrame (s : State) : Host.Outcome State Fault Refusal :=
  runCommand (Act.of fun s =>
    match s.outq with
    | f :: rest => .ok (.frame f) { s with outq := rest }
    | [] => if s.flushing then .error .eof s else .error .needMoreData s) s

/-- `FLUSH`, R431. -/
def execFlush (s : State) : Host.Outcome State Fault Refusal :=
  runCommand (Act.of fun s => .ok .none s.flush) s

/-- `SET_BP p`, R438. -/
def execSetBp (p : Nat) (s : State) : Host.Outcome State Fault Refusal :=
  runCommand (do
    setBp p
    pure .none) s

end Sys2Proof.Machine
end

