-- ==== Sys2Proof/Machine/Dispatch.lean ====
section
/-! DEFINITION. The one match from instructions to meanings: one arm per constructor of `Instr`. -/

namespace Sys2Proof.Machine

/-- The effect of one instruction. -/
def exec (i : Instr) (s : State) : Host.Outcome State Fault Refusal :=
  match i with
  | .mcbpcI_3_0 => Sys2Proof.Machine.execMcbpcI_3_0 s
  | .mcbpcI_3_1 => Sys2Proof.Machine.execMcbpcI_3_1 s
  | .mcbpcI_3_2 => Sys2Proof.Machine.execMcbpcI_3_2 s
  | .mcbpcI_3_3 => Sys2Proof.Machine.execMcbpcI_3_3 s
  | .mcbpcI_4_0 => Sys2Proof.Machine.execMcbpcI_4_0 s
  | .mcbpcI_4_1 => Sys2Proof.Machine.execMcbpcI_4_1 s
  | .mcbpcI_4_2 => Sys2Proof.Machine.execMcbpcI_4_2 s
  | .mcbpcI_4_3 => Sys2Proof.Machine.execMcbpcI_4_3 s
  | .mcbpcI_stuff => Sys2Proof.Machine.execMcbpcI_stuff s
  | .mcbpcP_0_0 => Sys2Proof.Machine.execMcbpcP_0_0 s
  | .mcbpcP_0_1 => Sys2Proof.Machine.execMcbpcP_0_1 s
  | .mcbpcP_0_2 => Sys2Proof.Machine.execMcbpcP_0_2 s
  | .mcbpcP_0_3 => Sys2Proof.Machine.execMcbpcP_0_3 s
  | .mcbpcP_1_0 => Sys2Proof.Machine.execMcbpcP_1_0 s
  | .mcbpcP_1_1 => Sys2Proof.Machine.execMcbpcP_1_1 s
  | .mcbpcP_1_2 => Sys2Proof.Machine.execMcbpcP_1_2 s
  | .mcbpcP_1_3 => Sys2Proof.Machine.execMcbpcP_1_3 s
  | .mcbpcP_2_0 => Sys2Proof.Machine.execMcbpcP_2_0 s
  | .mcbpcP_2_1 => Sys2Proof.Machine.execMcbpcP_2_1 s
  | .mcbpcP_2_2 => Sys2Proof.Machine.execMcbpcP_2_2 s
  | .mcbpcP_2_3 => Sys2Proof.Machine.execMcbpcP_2_3 s
  | .mcbpcP_3_0 => Sys2Proof.Machine.execMcbpcP_3_0 s
  | .mcbpcP_3_1 => Sys2Proof.Machine.execMcbpcP_3_1 s
  | .mcbpcP_3_2 => Sys2Proof.Machine.execMcbpcP_3_2 s
  | .mcbpcP_3_3 => Sys2Proof.Machine.execMcbpcP_3_3 s
  | .mcbpcP_4_0 => Sys2Proof.Machine.execMcbpcP_4_0 s
  | .mcbpcP_4_1 => Sys2Proof.Machine.execMcbpcP_4_1 s
  | .mcbpcP_4_2 => Sys2Proof.Machine.execMcbpcP_4_2 s
  | .mcbpcP_4_3 => Sys2Proof.Machine.execMcbpcP_4_3 s
  | .mcbpcP_stuff => Sys2Proof.Machine.execMcbpcP_stuff s
  | .cbpy_0 => Sys2Proof.Machine.execCbpy_0 s
  | .cbpy_1 => Sys2Proof.Machine.execCbpy_1 s
  | .cbpy_2 => Sys2Proof.Machine.execCbpy_2 s
  | .cbpy_3 => Sys2Proof.Machine.execCbpy_3 s
  | .cbpy_4 => Sys2Proof.Machine.execCbpy_4 s
  | .cbpy_5 => Sys2Proof.Machine.execCbpy_5 s
  | .cbpy_6 => Sys2Proof.Machine.execCbpy_6 s
  | .cbpy_7 => Sys2Proof.Machine.execCbpy_7 s
  | .cbpy_8 => Sys2Proof.Machine.execCbpy_8 s
  | .cbpy_9 => Sys2Proof.Machine.execCbpy_9 s
  | .cbpy_10 => Sys2Proof.Machine.execCbpy_10 s
  | .cbpy_11 => Sys2Proof.Machine.execCbpy_11 s
  | .cbpy_12 => Sys2Proof.Machine.execCbpy_12 s
  | .cbpy_13 => Sys2Proof.Machine.execCbpy_13 s
  | .cbpy_14 => Sys2Proof.Machine.execCbpy_14 s
  | .cbpy_15 => Sys2Proof.Machine.execCbpy_15 s
  | .mvd_0 => Sys2Proof.Machine.execMvd_0 s
  | .mvd_1 f sign res => Sys2Proof.Machine.execMvd_1 f sign res s
  | .mvd_2 f sign res => Sys2Proof.Machine.execMvd_2 f sign res s
  | .mvd_3 f sign res => Sys2Proof.Machine.execMvd_3 f sign res s
  | .mvd_4 f sign res => Sys2Proof.Machine.execMvd_4 f sign res s
  | .mvd_5 f sign res => Sys2Proof.Machine.execMvd_5 f sign res s
  | .mvd_6 f sign res => Sys2Proof.Machine.execMvd_6 f sign res s
  | .mvd_7 f sign res => Sys2Proof.Machine.execMvd_7 f sign res s
  | .mvd_8 f sign res => Sys2Proof.Machine.execMvd_8 f sign res s
  | .mvd_9 f sign res => Sys2Proof.Machine.execMvd_9 f sign res s
  | .mvd_10 f sign res => Sys2Proof.Machine.execMvd_10 f sign res s
  | .mvd_11 f sign res => Sys2Proof.Machine.execMvd_11 f sign res s
  | .mvd_12 f sign res => Sys2Proof.Machine.execMvd_12 f sign res s
  | .mvd_13 f sign res => Sys2Proof.Machine.execMvd_13 f sign res s
  | .mvd_14 f sign res => Sys2Proof.Machine.execMvd_14 f sign res s
  | .mvd_15 f sign res => Sys2Proof.Machine.execMvd_15 f sign res s
  | .mvd_16 f sign res => Sys2Proof.Machine.execMvd_16 f sign res s
  | .mvd_17 f sign res => Sys2Proof.Machine.execMvd_17 f sign res s
  | .mvd_18 f sign res => Sys2Proof.Machine.execMvd_18 f sign res s
  | .mvd_19 f sign res => Sys2Proof.Machine.execMvd_19 f sign res s
  | .mvd_20 f sign res => Sys2Proof.Machine.execMvd_20 f sign res s
  | .mvd_21 f sign res => Sys2Proof.Machine.execMvd_21 f sign res s
  | .mvd_22 f sign res => Sys2Proof.Machine.execMvd_22 f sign res s
  | .mvd_23 f sign res => Sys2Proof.Machine.execMvd_23 f sign res s
  | .mvd_24 f sign res => Sys2Proof.Machine.execMvd_24 f sign res s
  | .mvd_25 f sign res => Sys2Proof.Machine.execMvd_25 f sign res s
  | .mvd_26 f sign res => Sys2Proof.Machine.execMvd_26 f sign res s
  | .mvd_27 f sign res => Sys2Proof.Machine.execMvd_27 f sign res s
  | .mvd_28 f sign res => Sys2Proof.Machine.execMvd_28 f sign res s
  | .mvd_29 f sign res => Sys2Proof.Machine.execMvd_29 f sign res s
  | .mvd_30 f sign res => Sys2Proof.Machine.execMvd_30 f sign res s
  | .mvd_31 f sign res => Sys2Proof.Machine.execMvd_31 f sign res s
  | .mvd_32 f sign res => Sys2Proof.Machine.execMvd_32 f sign res s
  | .dcszL_0 => Sys2Proof.Machine.execDcszL_0 s
  | .dcszL_1 v => Sys2Proof.Machine.execDcszL_1 v s
  | .dcszL_2 v => Sys2Proof.Machine.execDcszL_2 v s
  | .dcszL_3 v => Sys2Proof.Machine.execDcszL_3 v s
  | .dcszL_4 v => Sys2Proof.Machine.execDcszL_4 v s
  | .dcszL_5 v => Sys2Proof.Machine.execDcszL_5 v s
  | .dcszL_6 v => Sys2Proof.Machine.execDcszL_6 v s
  | .dcszL_7 v => Sys2Proof.Machine.execDcszL_7 v s
  | .dcszL_8 v => Sys2Proof.Machine.execDcszL_8 v s
  | .dcszL_9 v m => Sys2Proof.Machine.execDcszL_9 v m s
  | .dcszL_10 v m => Sys2Proof.Machine.execDcszL_10 v m s
  | .dcszL_11 v m => Sys2Proof.Machine.execDcszL_11 v m s
  | .dcszL_12 v m => Sys2Proof.Machine.execDcszL_12 v m s
  | .dcszC_0 => Sys2Proof.Machine.execDcszC_0 s
  | .dcszC_1 v => Sys2Proof.Machine.execDcszC_1 v s
  | .dcszC_2 v => Sys2Proof.Machine.execDcszC_2 v s
  | .dcszC_3 v => Sys2Proof.Machine.execDcszC_3 v s
  | .dcszC_4 v => Sys2Proof.Machine.execDcszC_4 v s
  | .dcszC_5 v => Sys2Proof.Machine.execDcszC_5 v s
  | .dcszC_6 v => Sys2Proof.Machine.execDcszC_6 v s
  | .dcszC_7 v => Sys2Proof.Machine.execDcszC_7 v s
  | .dcszC_8 v => Sys2Proof.Machine.execDcszC_8 v s
  | .dcszC_9 v m => Sys2Proof.Machine.execDcszC_9 v m s
  | .dcszC_10 v m => Sys2Proof.Machine.execDcszC_10 v m s
  | .dcszC_11 v m => Sys2Proof.Machine.execDcszC_11 v m s
  | .dcszC_12 v m => Sys2Proof.Machine.execDcszC_12 v m s
  | .dcval size v => Sys2Proof.Machine.execDcval size v s
  | .acIntra_esc1 inner sign => Sys2Proof.Machine.execAcIntra_esc1 inner sign s
  | .acIntra_esc2 inner sign => Sys2Proof.Machine.execAcIntra_esc2 inner sign s
  | .acIntra_esc3 last run m1 level m2 => Sys2Proof.Machine.execAcIntra_esc3 last run m1 level m2 s
  | .acInter_esc1 inner sign => Sys2Proof.Machine.execAcInter_esc1 inner sign s
  | .acInter_esc2 inner sign => Sys2Proof.Machine.execAcInter_esc2 inner sign s
  | .acInter_esc3 last run m1 level m2 => Sys2Proof.Machine.execAcInter_esc3 last run m1 level m2 s
  | .modb_1 => Sys2Proof.Machine.execModb_1 s
  | .modb_01 => Sys2Proof.Machine.execModb_01 s
  | .modb_00 => Sys2Proof.Machine.execModb_00 s
  | .bmbtype_direct => Sys2Proof.Machine.execBmbtype_direct s
  | .bmbtype_interpolate => Sys2Proof.Machine.execBmbtype_interpolate s
  | .bmbtype_backward => Sys2Proof.Machine.execBmbtype_backward s
  | .bmbtype_forward => Sys2Proof.Machine.execBmbtype_forward s
  | .dbquant_0 => Sys2Proof.Machine.execDbquant_0 s
  | .dbquant_minus2 => Sys2Proof.Machine.execDbquant_minus2 s
  | .dbquant_plus2 => Sys2Proof.Machine.execDbquant_plus2 s
  | .notCoded b => Sys2Proof.Machine.execNotCoded b s
  | .acPred b => Sys2Proof.Machine.execAcPred b s
  | .mcsel b => Sys2Proof.Machine.execMcsel b s
  | .dquant_00 => Sys2Proof.Machine.execDquant_00 s
  | .dquant_01 => Sys2Proof.Machine.execDquant_01 s
  | .dquant_10 => Sys2Proof.Machine.execDquant_10 s
  | .dquant_11 => Sys2Proof.Machine.execDquant_11 s
  | .cbpb v => Sys2Proof.Machine.execCbpb v s
  | .traj_0 => Sys2Proof.Machine.execTraj_0 s
  | .traj_1 v => Sys2Proof.Machine.execTraj_1 v s
  | .traj_2 v => Sys2Proof.Machine.execTraj_2 v s
  | .traj_3 v => Sys2Proof.Machine.execTraj_3 v s
  | .traj_4 v => Sys2Proof.Machine.execTraj_4 v s
  | .traj_5 v => Sys2Proof.Machine.execTraj_5 v s
  | .traj_6 v => Sys2Proof.Machine.execTraj_6 v s
  | .traj_7 v => Sys2Proof.Machine.execTraj_7 v s
  | .traj_8 v => Sys2Proof.Machine.execTraj_8 v s
  | .traj_9 v => Sys2Proof.Machine.execTraj_9 v s
  | .traj_10 v => Sys2Proof.Machine.execTraj_10 v s
  | .traj_11 v => Sys2Proof.Machine.execTraj_11 v s
  | .traj_12 v => Sys2Proof.Machine.execTraj_12 v s
  | .sc code => Sys2Proof.Machine.execSc code s
  | .resync k f => Sys2Proof.Machine.execResync k f s
  | .readBits n => Sys2Proof.Machine.execReadBits n s
  | .peekBits n => Sys2Proof.Machine.execPeekBits n s
  | .skipBits n => Sys2Proof.Machine.execSkipBits n s
  | .byteAligned => Sys2Proof.Machine.execByteAligned s
  | .findStartCode data code => Sys2Proof.Machine.execFindStartCode data code s
  | .findStartCodeRange data lo hi => Sys2Proof.Machine.execFindStartCodeRange data lo hi s
  | .resyncDetect p f => Sys2Proof.Machine.execResyncDetect p f s
  | .dequant intra => Sys2Proof.Machine.execDequant intra s
  | .mismatch => Sys2Proof.Machine.execMismatch s
  | .idct => Sys2Proof.Machine.execIdct s
  | .dcPredict b => Sys2Proof.Machine.execDcPredict b s
  | .dcRecon b diff pr => Sys2Proof.Machine.execDcRecon b diff pr s
  | .acPredict b => Sys2Proof.Machine.execAcPredict b s
  | .pcUpdate b => Sys2Proof.Machine.execPcUpdate b s
  | .scanSelect dir => Sys2Proof.Machine.execScanSelect dir s
  | .decodeMb k => Sys2Proof.Machine.execDecodeMb k s
  | .intraBlock b => Sys2Proof.Machine.execIntraBlock b s
  | .interBlock b => Sys2Proof.Machine.execInterBlock b s
  | .copyMb k ref => Sys2Proof.Machine.execCopyMb k ref s
  | .recon p f => Sys2Proof.Machine.execRecon p f s
  | .mbiWrite k => Sys2Proof.Machine.execMbiWrite k s
  | .mcLuma ref x y v r => Sys2Proof.Machine.execMcLuma ref x y v r s
  | .chromaMv_1 v => Sys2Proof.Machine.execChromaMv_1 v s
  | .chromaMv_4 v0 v1 v2 v3 => Sys2Proof.Machine.execChromaMv_4 v0 v1 v2 v3 s
  | .mcChroma ref plane x y c r => Sys2Proof.Machine.execMcChroma ref plane x y c r s
  | .spriteTrajectory => Sys2Proof.Machine.execSpriteTrajectory s
  | .gmcSetup => Sys2Proof.Machine.execGmcSetup s
  | .decodeVop => Sys2Proof.Machine.execDecodeVop s
  | .completeRef => Sys2Proof.Machine.execCompleteRef s
  | .completeB => Sys2Proof.Machine.execCompleteB s
  | .push src => Sys2Proof.Machine.execPush src s
  | .drain => Sys2Proof.Machine.execDrain s
  | .directMv k delta => Sys2Proof.Machine.execDirectMv k delta s
  | .openInst params => Sys2Proof.Machine.execOpenInst params s
  | .loadVol v => Sys2Proof.Machine.execLoadVol v s
  | .loadVop h => Sys2Proof.Machine.execLoadVop h s
  | .sendPacket pkt parse => Sys2Proof.Machine.execSendPacket pkt parse s
  | .receiveFrame => Sys2Proof.Machine.execReceiveFrame s
  | .flush => Sys2Proof.Machine.execFlush s
  | .setBp p => Sys2Proof.Machine.execSetBp p s
  | .acIntra_0_0_1 => Sys2Proof.Machine.execAcIntra_0_0_1 s
  | .acIntra_0_0_2 => Sys2Proof.Machine.execAcIntra_0_0_2 s
  | .acIntra_0_0_3 => Sys2Proof.Machine.execAcIntra_0_0_3 s
  | .acIntra_0_0_4 => Sys2Proof.Machine.execAcIntra_0_0_4 s
  | .acIntra_0_0_5 => Sys2Proof.Machine.execAcIntra_0_0_5 s
  | .acIntra_0_0_6 => Sys2Proof.Machine.execAcIntra_0_0_6 s
  | .acIntra_0_0_7 => Sys2Proof.Machine.execAcIntra_0_0_7 s
  | .acIntra_0_0_8 => Sys2Proof.Machine.execAcIntra_0_0_8 s
  | .acIntra_0_0_9 => Sys2Proof.Machine.execAcIntra_0_0_9 s
  | .acIntra_0_0_10 => Sys2Proof.Machine.execAcIntra_0_0_10 s
  | .acIntra_0_0_11 => Sys2Proof.Machine.execAcIntra_0_0_11 s
  | .acIntra_0_0_12 => Sys2Proof.Machine.execAcIntra_0_0_12 s
  | .acIntra_0_0_13 => Sys2Proof.Machine.execAcIntra_0_0_13 s
  | .acIntra_0_0_14 => Sys2Proof.Machine.execAcIntra_0_0_14 s
  | .acIntra_0_0_15 => Sys2Proof.Machine.execAcIntra_0_0_15 s
  | .acIntra_0_0_16 => Sys2Proof.Machine.execAcIntra_0_0_16 s
  | .acIntra_0_0_17 => Sys2Proof.Machine.execAcIntra_0_0_17 s
  | .acIntra_0_0_18 => Sys2Proof.Machine.execAcIntra_0_0_18 s
  | .acIntra_0_0_19 => Sys2Proof.Machine.execAcIntra_0_0_19 s
  | .acIntra_0_0_20 => Sys2Proof.Machine.execAcIntra_0_0_20 s
  | .acIntra_0_0_21 => Sys2Proof.Machine.execAcIntra_0_0_21 s
  | .acIntra_0_0_22 => Sys2Proof.Machine.execAcIntra_0_0_22 s
  | .acIntra_0_0_23 => Sys2Proof.Machine.execAcIntra_0_0_23 s
  | .acIntra_0_0_24 => Sys2Proof.Machine.execAcIntra_0_0_24 s
  | .acIntra_0_0_25 => Sys2Proof.Machine.execAcIntra_0_0_25 s
  | .acIntra_0_0_26 => Sys2Proof.Machine.execAcIntra_0_0_26 s
  | .acIntra_0_0_27 => Sys2Proof.Machine.execAcIntra_0_0_27 s
  | .acIntra_0_1_1 => Sys2Proof.Machine.execAcIntra_0_1_1 s
  | .acIntra_0_1_2 => Sys2Proof.Machine.execAcIntra_0_1_2 s
  | .acIntra_0_1_3 => Sys2Proof.Machine.execAcIntra_0_1_3 s
  | .acIntra_0_1_4 => Sys2Proof.Machine.execAcIntra_0_1_4 s
  | .acIntra_0_1_5 => Sys2Proof.Machine.execAcIntra_0_1_5 s
  | .acIntra_0_1_6 => Sys2Proof.Machine.execAcIntra_0_1_6 s
  | .acIntra_0_1_7 => Sys2Proof.Machine.execAcIntra_0_1_7 s
  | .acIntra_0_1_8 => Sys2Proof.Machine.execAcIntra_0_1_8 s
  | .acIntra_0_1_9 => Sys2Proof.Machine.execAcIntra_0_1_9 s
  | .acIntra_0_1_10 => Sys2Proof.Machine.execAcIntra_0_1_10 s
  | .acIntra_0_2_1 => Sys2Proof.Machine.execAcIntra_0_2_1 s
  | .acIntra_0_2_2 => Sys2Proof.Machine.execAcIntra_0_2_2 s
  | .acIntra_0_2_3 => Sys2Proof.Machine.execAcIntra_0_2_3 s
  | .acIntra_0_2_4 => Sys2Proof.Machine.execAcIntra_0_2_4 s
  | .acIntra_0_2_5 => Sys2Proof.Machine.execAcIntra_0_2_5 s
  | .acIntra_0_3_1 => Sys2Proof.Machine.execAcIntra_0_3_1 s
  | .acIntra_0_3_2 => Sys2Proof.Machine.execAcIntra_0_3_2 s
  | .acIntra_0_3_3 => Sys2Proof.Machine.execAcIntra_0_3_3 s
  | .acIntra_0_3_4 => Sys2Proof.Machine.execAcIntra_0_3_4 s
  | .acIntra_0_4_1 => Sys2Proof.Machine.execAcIntra_0_4_1 s
  | .acIntra_0_4_2 => Sys2Proof.Machine.execAcIntra_0_4_2 s
  | .acIntra_0_4_3 => Sys2Proof.Machine.execAcIntra_0_4_3 s
  | .acIntra_0_5_1 => Sys2Proof.Machine.execAcIntra_0_5_1 s
  | .acIntra_0_5_2 => Sys2Proof.Machine.execAcIntra_0_5_2 s
  | .acIntra_0_5_3 => Sys2Proof.Machine.execAcIntra_0_5_3 s
  | .acIntra_0_6_1 => Sys2Proof.Machine.execAcIntra_0_6_1 s
  | .acIntra_0_6_2 => Sys2Proof.Machine.execAcIntra_0_6_2 s
  | .acIntra_0_6_3 => Sys2Proof.Machine.execAcIntra_0_6_3 s
  | .acIntra_0_7_1 => Sys2Proof.Machine.execAcIntra_0_7_1 s
  | .acIntra_0_7_2 => Sys2Proof.Machine.execAcIntra_0_7_2 s
  | .acIntra_0_7_3 => Sys2Proof.Machine.execAcIntra_0_7_3 s
  | .acIntra_0_8_1 => Sys2Proof.Machine.execAcIntra_0_8_1 s
  | .acIntra_0_8_2 => Sys2Proof.Machine.execAcIntra_0_8_2 s
  | .acIntra_0_9_1 => Sys2Proof.Machine.execAcIntra_0_9_1 s
  | .acIntra_0_9_2 => Sys2Proof.Machine.execAcIntra_0_9_2 s
  | .acIntra_0_10_1 => Sys2Proof.Machine.execAcIntra_0_10_1 s
  | .acIntra_0_11_1 => Sys2Proof.Machine.execAcIntra_0_11_1 s
  | .acIntra_0_12_1 => Sys2Proof.Machine.execAcIntra_0_12_1 s
  | .acIntra_0_13_1 => Sys2Proof.Machine.execAcIntra_0_13_1 s
  | .acIntra_0_14_1 => Sys2Proof.Machine.execAcIntra_0_14_1 s
  | .acIntra_1_0_1 => Sys2Proof.Machine.execAcIntra_1_0_1 s
  | .acIntra_1_0_2 => Sys2Proof.Machine.execAcIntra_1_0_2 s
  | .acIntra_1_0_3 => Sys2Proof.Machine.execAcIntra_1_0_3 s
  | .acIntra_1_0_4 => Sys2Proof.Machine.execAcIntra_1_0_4 s
  | .acIntra_1_0_5 => Sys2Proof.Machine.execAcIntra_1_0_5 s
  | .acIntra_1_0_6 => Sys2Proof.Machine.execAcIntra_1_0_6 s
  | .acIntra_1_0_7 => Sys2Proof.Machine.execAcIntra_1_0_7 s
  | .acIntra_1_0_8 => Sys2Proof.Machine.execAcIntra_1_0_8 s
  | .acIntra_1_1_1 => Sys2Proof.Machine.execAcIntra_1_1_1 s
  | .acIntra_1_1_2 => Sys2Proof.Machine.execAcIntra_1_1_2 s
  | .acIntra_1_1_3 => Sys2Proof.Machine.execAcIntra_1_1_3 s
  | .acIntra_1_2_1 => Sys2Proof.Machine.execAcIntra_1_2_1 s
  | .acIntra_1_2_2 => Sys2Proof.Machine.execAcIntra_1_2_2 s
  | .acIntra_1_3_1 => Sys2Proof.Machine.execAcIntra_1_3_1 s
  | .acIntra_1_3_2 => Sys2Proof.Machine.execAcIntra_1_3_2 s
  | .acIntra_1_4_1 => Sys2Proof.Machine.execAcIntra_1_4_1 s
  | .acIntra_1_4_2 => Sys2Proof.Machine.execAcIntra_1_4_2 s
  | .acIntra_1_5_1 => Sys2Proof.Machine.execAcIntra_1_5_1 s
  | .acIntra_1_5_2 => Sys2Proof.Machine.execAcIntra_1_5_2 s
  | .acIntra_1_6_1 => Sys2Proof.Machine.execAcIntra_1_6_1 s
  | .acIntra_1_6_2 => Sys2Proof.Machine.execAcIntra_1_6_2 s
  | .acIntra_1_7_1 => Sys2Proof.Machine.execAcIntra_1_7_1 s
  | .acIntra_1_8_1 => Sys2Proof.Machine.execAcIntra_1_8_1 s
  | .acIntra_1_9_1 => Sys2Proof.Machine.execAcIntra_1_9_1 s
  | .acIntra_1_10_1 => Sys2Proof.Machine.execAcIntra_1_10_1 s
  | .acIntra_1_11_1 => Sys2Proof.Machine.execAcIntra_1_11_1 s
  | .acIntra_1_12_1 => Sys2Proof.Machine.execAcIntra_1_12_1 s
  | .acIntra_1_13_1 => Sys2Proof.Machine.execAcIntra_1_13_1 s
  | .acIntra_1_14_1 => Sys2Proof.Machine.execAcIntra_1_14_1 s
  | .acIntra_1_15_1 => Sys2Proof.Machine.execAcIntra_1_15_1 s
  | .acIntra_1_16_1 => Sys2Proof.Machine.execAcIntra_1_16_1 s
  | .acIntra_1_17_1 => Sys2Proof.Machine.execAcIntra_1_17_1 s
  | .acIntra_1_18_1 => Sys2Proof.Machine.execAcIntra_1_18_1 s
  | .acIntra_1_19_1 => Sys2Proof.Machine.execAcIntra_1_19_1 s
  | .acIntra_1_20_1 => Sys2Proof.Machine.execAcIntra_1_20_1 s
  | .acInter_0_0_1 => Sys2Proof.Machine.execAcInter_0_0_1 s
  | .acInter_0_0_2 => Sys2Proof.Machine.execAcInter_0_0_2 s
  | .acInter_0_0_3 => Sys2Proof.Machine.execAcInter_0_0_3 s
  | .acInter_0_0_4 => Sys2Proof.Machine.execAcInter_0_0_4 s
  | .acInter_0_0_5 => Sys2Proof.Machine.execAcInter_0_0_5 s
  | .acInter_0_0_6 => Sys2Proof.Machine.execAcInter_0_0_6 s
  | .acInter_0_0_7 => Sys2Proof.Machine.execAcInter_0_0_7 s
  | .acInter_0_0_8 => Sys2Proof.Machine.execAcInter_0_0_8 s
  | .acInter_0_0_9 => Sys2Proof.Machine.execAcInter_0_0_9 s
  | .acInter_0_0_10 => Sys2Proof.Machine.execAcInter_0_0_10 s
  | .acInter_0_0_11 => Sys2Proof.Machine.execAcInter_0_0_11 s
  | .acInter_0_0_12 => Sys2Proof.Machine.execAcInter_0_0_12 s
  | .acInter_0_1_1 => Sys2Proof.Machine.execAcInter_0_1_1 s
  | .acInter_0_1_2 => Sys2Proof.Machine.execAcInter_0_1_2 s
  | .acInter_0_1_3 => Sys2Proof.Machine.execAcInter_0_1_3 s
  | .acInter_0_1_4 => Sys2Proof.Machine.execAcInter_0_1_4 s
  | .acInter_0_1_5 => Sys2Proof.Machine.execAcInter_0_1_5 s
  | .acInter_0_1_6 => Sys2Proof.Machine.execAcInter_0_1_6 s
  | .acInter_0_2_1 => Sys2Proof.Machine.execAcInter_0_2_1 s
  | .acInter_0_2_2 => Sys2Proof.Machine.execAcInter_0_2_2 s
  | .acInter_0_2_3 => Sys2Proof.Machine.execAcInter_0_2_3 s
  | .acInter_0_2_4 => Sys2Proof.Machine.execAcInter_0_2_4 s
  | .acInter_0_3_1 => Sys2Proof.Machine.execAcInter_0_3_1 s
  | .acInter_0_3_2 => Sys2Proof.Machine.execAcInter_0_3_2 s
  | .acInter_0_3_3 => Sys2Proof.Machine.execAcInter_0_3_3 s
  | .acInter_0_4_1 => Sys2Proof.Machine.execAcInter_0_4_1 s
  | .acInter_0_4_2 => Sys2Proof.Machine.execAcInter_0_4_2 s
  | .acInter_0_4_3 => Sys2Proof.Machine.execAcInter_0_4_3 s
  | .acInter_0_5_1 => Sys2Proof.Machine.execAcInter_0_5_1 s
  | .acInter_0_5_2 => Sys2Proof.Machine.execAcInter_0_5_2 s
  | .acInter_0_5_3 => Sys2Proof.Machine.execAcInter_0_5_3 s
  | .acInter_0_6_1 => Sys2Proof.Machine.execAcInter_0_6_1 s
  | .acInter_0_6_2 => Sys2Proof.Machine.execAcInter_0_6_2 s
  | .acInter_0_6_3 => Sys2Proof.Machine.execAcInter_0_6_3 s
  | .acInter_0_7_1 => Sys2Proof.Machine.execAcInter_0_7_1 s
  | .acInter_0_7_2 => Sys2Proof.Machine.execAcInter_0_7_2 s
  | .acInter_0_8_1 => Sys2Proof.Machine.execAcInter_0_8_1 s
  | .acInter_0_8_2 => Sys2Proof.Machine.execAcInter_0_8_2 s
  | .acInter_0_9_1 => Sys2Proof.Machine.execAcInter_0_9_1 s
  | .acInter_0_9_2 => Sys2Proof.Machine.execAcInter_0_9_2 s
  | .acInter_0_10_1 => Sys2Proof.Machine.execAcInter_0_10_1 s
  | .acInter_0_10_2 => Sys2Proof.Machine.execAcInter_0_10_2 s
  | .acInter_0_11_1 => Sys2Proof.Machine.execAcInter_0_11_1 s
  | .acInter_0_12_1 => Sys2Proof.Machine.execAcInter_0_12_1 s
  | .acInter_0_13_1 => Sys2Proof.Machine.execAcInter_0_13_1 s
  | .acInter_0_14_1 => Sys2Proof.Machine.execAcInter_0_14_1 s
  | .acInter_0_15_1 => Sys2Proof.Machine.execAcInter_0_15_1 s
  | .acInter_0_16_1 => Sys2Proof.Machine.execAcInter_0_16_1 s
  | .acInter_0_17_1 => Sys2Proof.Machine.execAcInter_0_17_1 s
  | .acInter_0_18_1 => Sys2Proof.Machine.execAcInter_0_18_1 s
  | .acInter_0_19_1 => Sys2Proof.Machine.execAcInter_0_19_1 s
  | .acInter_0_20_1 => Sys2Proof.Machine.execAcInter_0_20_1 s
  | .acInter_0_21_1 => Sys2Proof.Machine.execAcInter_0_21_1 s
  | .acInter_0_22_1 => Sys2Proof.Machine.execAcInter_0_22_1 s
  | .acInter_0_23_1 => Sys2Proof.Machine.execAcInter_0_23_1 s
  | .acInter_0_24_1 => Sys2Proof.Machine.execAcInter_0_24_1 s
  | .acInter_0_25_1 => Sys2Proof.Machine.execAcInter_0_25_1 s
  | .acInter_0_26_1 => Sys2Proof.Machine.execAcInter_0_26_1 s
  | .acInter_1_0_1 => Sys2Proof.Machine.execAcInter_1_0_1 s
  | .acInter_1_0_2 => Sys2Proof.Machine.execAcInter_1_0_2 s
  | .acInter_1_0_3 => Sys2Proof.Machine.execAcInter_1_0_3 s
  | .acInter_1_1_1 => Sys2Proof.Machine.execAcInter_1_1_1 s
  | .acInter_1_1_2 => Sys2Proof.Machine.execAcInter_1_1_2 s
  | .acInter_1_2_1 => Sys2Proof.Machine.execAcInter_1_2_1 s
  | .acInter_1_3_1 => Sys2Proof.Machine.execAcInter_1_3_1 s
  | .acInter_1_4_1 => Sys2Proof.Machine.execAcInter_1_4_1 s
  | .acInter_1_5_1 => Sys2Proof.Machine.execAcInter_1_5_1 s
  | .acInter_1_6_1 => Sys2Proof.Machine.execAcInter_1_6_1 s
  | .acInter_1_7_1 => Sys2Proof.Machine.execAcInter_1_7_1 s
  | .acInter_1_8_1 => Sys2Proof.Machine.execAcInter_1_8_1 s
  | .acInter_1_9_1 => Sys2Proof.Machine.execAcInter_1_9_1 s
  | .acInter_1_10_1 => Sys2Proof.Machine.execAcInter_1_10_1 s
  | .acInter_1_11_1 => Sys2Proof.Machine.execAcInter_1_11_1 s
  | .acInter_1_12_1 => Sys2Proof.Machine.execAcInter_1_12_1 s
  | .acInter_1_13_1 => Sys2Proof.Machine.execAcInter_1_13_1 s
  | .acInter_1_14_1 => Sys2Proof.Machine.execAcInter_1_14_1 s
  | .acInter_1_15_1 => Sys2Proof.Machine.execAcInter_1_15_1 s
  | .acInter_1_16_1 => Sys2Proof.Machine.execAcInter_1_16_1 s
  | .acInter_1_17_1 => Sys2Proof.Machine.execAcInter_1_17_1 s
  | .acInter_1_18_1 => Sys2Proof.Machine.execAcInter_1_18_1 s
  | .acInter_1_19_1 => Sys2Proof.Machine.execAcInter_1_19_1 s
  | .acInter_1_20_1 => Sys2Proof.Machine.execAcInter_1_20_1 s
  | .acInter_1_21_1 => Sys2Proof.Machine.execAcInter_1_21_1 s
  | .acInter_1_22_1 => Sys2Proof.Machine.execAcInter_1_22_1 s
  | .acInter_1_23_1 => Sys2Proof.Machine.execAcInter_1_23_1 s
  | .acInter_1_24_1 => Sys2Proof.Machine.execAcInter_1_24_1 s
  | .acInter_1_25_1 => Sys2Proof.Machine.execAcInter_1_25_1 s
  | .acInter_1_26_1 => Sys2Proof.Machine.execAcInter_1_26_1 s
  | .acInter_1_27_1 => Sys2Proof.Machine.execAcInter_1_27_1 s
  | .acInter_1_28_1 => Sys2Proof.Machine.execAcInter_1_28_1 s
  | .acInter_1_29_1 => Sys2Proof.Machine.execAcInter_1_29_1 s
  | .acInter_1_30_1 => Sys2Proof.Machine.execAcInter_1_30_1 s
  | .acInter_1_31_1 => Sys2Proof.Machine.execAcInter_1_31_1 s
  | .acInter_1_32_1 => Sys2Proof.Machine.execAcInter_1_32_1 s
  | .acInter_1_33_1 => Sys2Proof.Machine.execAcInter_1_33_1 s
  | .acInter_1_34_1 => Sys2Proof.Machine.execAcInter_1_34_1 s
  | .acInter_1_35_1 => Sys2Proof.Machine.execAcInter_1_35_1 s
  | .acInter_1_36_1 => Sys2Proof.Machine.execAcInter_1_36_1 s
  | .acInter_1_37_1 => Sys2Proof.Machine.execAcInter_1_37_1 s
  | .acInter_1_38_1 => Sys2Proof.Machine.execAcInter_1_38_1 s
  | .acInter_1_39_1 => Sys2Proof.Machine.execAcInter_1_39_1 s
  | .acInter_1_40_1 => Sys2Proof.Machine.execAcInter_1_40_1 s

end Sys2Proof.Machine
end

