-- ==== Sys2Proof/Machine/Step.lean ====
section
/-! DEFINITION. One step of the block: it takes the next request of the host, fetching and decoding a
bitstream instruction at `BP` where the request asks for one. -/

namespace Sys2Proof.Machine

/-- The step. With no request pending the block is idle and nothing changes (R36, R501). A command or
internal operation is executed. A fetch reads one instruction with the table asked for (R102) from the
bits at `BP` and executes it; bits that are no instruction raise `InvalidData`, with `BP` after the
reads that succeeded (R104, R461, R470); a start code or a resync marker is one read, so that a failed one
takes nothing (R130, log entry 14). -/
def step (s : State) : Host.Outcome State Fault Refusal :=
  match s.inq with
  | [] => .next s
  | .command i :: rest =>
    if i.isCommand then exec i { s with inq := rest } else .refused .notACommand
  | .fetch t :: rest =>
    match decode t s.ahead with
    | .ok i _ => exec i { s with inq := rest }
    | .reject _ used => .next (({ s with inq := rest }.advance used).raise .invalidData)

/-- The bytes of a window whose first `8 * n` bits are the top bits of `w`, a number of `8 * n` bits. -/
def windowBytes (n w : Nat) : List Byte :=
  match n with
  | 0 => []
  | n + 1 => BitVec.ofNat 8 (w / 256 ^ n) :: windowBytes n w

/-- The state in which `step` fetches and runs the table word `w` of `nbits` bits: the window holds the
word's bits from its top bit on, then zeros up to 32 bits, `BP` is 0, and the host has asked for one
fetch with the table that `decodeTableWord` reads the word with (log entries 4 and 8). -/
def State.withFetchWord (s : State) (nbits w : Nat) : State :=
  let bits := wordBits nbits w
  let n := (bits.length + 7) / 8
  let data := windowBytes n (bitsVal bits * 2 ^ (8 * n - bits.length))
  let inq : List Request :=
    match firstTable bareTables bits with
    | some p => [.fetch p.1]
    | none => [.fetch .acInter]
  { s with bs := Memory.ofBytes 0 data, bslen := n, bp := 0, inq := inq }

end Sys2Proof.Machine
end

