-- ==== Sys2Proof/Safety.lean ====
section
/-! DEFINITION. The terms the claims are stated in: the invariants of the machine, the encodings the spec
reserves, what it means that an instruction completes, and the quantities of the spec written out once
more in its own words, so that a claim does not repeat the definition it is about. -/

namespace Sys2Proof.Machine

/-! ## Invariants -/

/-- `0 <= BP <= 8 * BSLEN` (R20). -/
def State.BpInWindow (s : State) : Prop := s.bp ≤ 8 * s.bslen

/-- The planes of a store are in canonical form. -/
def FrameStore.Canonical (f : FrameStore) : Prop := f.y.wf = true ∧ f.u.wf = true ∧ f.v.wf = true

/-- The planes of an output frame are in canonical form. -/
def Frame.Canonical (f : Frame) : Prop := f.y.wf = true ∧ f.u.wf = true ∧ f.v.wf = true

/-- Every memory of the machine is in canonical form: the window, the three stores, and the frames held
back or waiting for `RECEIVE_FRAME`. -/
def State.MemoryCanonical (s : State) : Prop :=
  s.bs.wf = true ∧ s.cur.Canonical ∧ s.refNew.Canonical ∧ s.refOld.Canonical
    ∧ (∀ r ∈ s.rob, r.frame.Canonical) ∧ (∀ f ∈ s.outq, f.Canonical)

/-- `QP` is in 1 to 31, `PREV_QUANT` and `VOP.quant` in 0 to 31 (R23, R26). -/
def State.QuantLegal (s : State) : Prop := 1 ≤ s.qp ∧ s.qp ≤ 31 ∧ s.prevQuant ≤ 31 ∧ s.vop.quant ≤ 31

/-- The register files are as large as the frame has macroblocks (R28, R29, R30). -/
def State.FilesSized (s : State) : Prop :=
  s.mbi.length = s.mbCount ∧ s.refmv.length = s.mbCount ∧ s.pc.length = 6 * s.mbCount

/-- The reorder buffer holds back at most `REORDER_DEPTH` frames (R33, R390). -/
def State.RobBounded (s : State) : Prop := s.rob.length ≤ s.params.reorderDepth

/-- A VOL that has been loaded names no refused tool (R466), and an opened instance has a frame size
(R421). -/
def State.VolLegal (s : State) : Prop :=
  (s.vol.valid = true → s.vol.refused = false) ∧ (s.opened = true → 0 < s.vol.width ∧ 0 < s.vol.height)

/-- A pending command is a well-formed one; an order to fetch asks nothing. -/
def Request.Wf (r : Request) : Prop :=
  match r with
  | .command i => i.wf = true
  | .fetch _ => True

/-- Every pending request is well formed. -/
def State.RequestsWf (s : State) : Prop := ∀ r ∈ s.inq, r.Wf

/-- The invariant of the machine. -/
def State.Inv (s : State) : Prop :=
  s.BpInWindow ∧ s.MemoryCanonical ∧ s.QuantLegal ∧ s.FilesSized ∧ s.RobBounded ∧ s.VolLegal ∧ s.RequestsWf

/-- Every level and the level of `EV` is in -2048 to 2047, and `EV.run` in 0 to 81 (R25). -/
def State.LevelsLegal (s : State) : Prop :=
  (∀ i : Fin 64, -2048 ≤ s.qf[i] ∧ s.qf[i] ≤ 2047) ∧ -2048 ≤ s.ev.level ∧ s.ev.level ≤ 2047 ∧ s.ev.run ≤ 81

/-- Every sample a store holds is at an offset inside its plane (R71, R75). -/
def State.StoreInside (s : State) (f : FrameStore) : Prop :=
  ∀ p : Plane, ∀ c ∈ f.plane p, c.1 < s.stride p * s.rows p

/-- All three stores are inside their planes. -/
def State.StoresInside (s : State) : Prop := s.StoreInside s.cur ∧ s.StoreInside s.refNew ∧ s.StoreInside s.refOld

/-! ## Encodings the spec reserves -/

/-- An `ESC3` that R122 reserves: a marker bit of 0, or a level field of 0 or of -2048. -/
def esc3Reserved (m1 : Bool) (level : BitVec 12) (m2 : Bool) : Bool :=
  !m1 || !m2 || decide (level = 0#12) || decide (level = 2048#12)

/-- The encodings to which the spec gives no meaning (R122): a DC differential or an `ESC3` with a marker
bit of 0, and an `ESC3` with a level field of 0 or -2048. The model runs them as the pseudocode does (log
entry 9), and no claim about an instruction's effect rests on that. -/
def isReserved (i : Instr) : Bool :=
  match i with
  | .dcszL_9 _ m => !m
  | .dcszL_10 _ m => !m
  | .dcszL_11 _ m => !m
  | .dcszL_12 _ m => !m
  | .dcszC_9 _ m => !m
  | .dcszC_10 _ m => !m
  | .dcszC_11 _ m => !m
  | .dcszC_12 _ m => !m
  | .acIntra_esc3 _ _ m1 level m2 => esc3Reserved m1 level m2
  | .acInter_esc3 _ _ m1 level m2 => esc3Reserved m1 level m2
  | _ => false

/-- The escapes of the two AC tables. -/
def isEscape (i : Instr) : Bool :=
  match i with
  | .acIntra_esc1 _ _ => true
  | .acIntra_esc2 _ _ => true
  | .acIntra_esc3 _ _ _ _ _ => true
  | .acInter_esc1 _ _ => true
  | .acInter_esc2 _ _ => true
  | .acInter_esc3 _ _ _ _ _ => true
  | _ => false

/-! ## Completing -/

/-- A bitstream instruction `i` of `n` bits completes wherever the window holds its bits: `BP` moves over
them, `g` happens, `Ok` and the result `r` are handed back, and nothing else changes. -/
def Completes (i : Instr) (n : Nat) (g : State → State) (r : Result) : Prop :=
  ∀ s : State, s.bp + n ≤ 8 * s.bslen →
    exec i s = .next { g { s with bp := s.bp + n } with status := .ok, result := r }

/-- A row of an AC table completes wherever the window holds its codeword of `n` bits and the sign bit
after it: `EV` takes the event, the level negative where the sign bit is 1, and nothing else changes. -/
def RowCompletes (i : Instr) (n : Nat) (last : Bool) (run : Nat) (level : Int) : Prop :=
  ∀ s : State, s.bp + n + 1 ≤ 8 * s.bslen →
    exec i s = .next { s with
      bp := s.bp + n + 1
      ev := ⟨last, run, if s.bit (s.bp + n) then -level else level⟩
      status := .ok
      result := .none }

/-- A command answers `Ok` with result `r` and changes nothing. -/
def Answers (i : Instr) (s : State) (r : Result) : Prop :=
  exec i s = .next { s with status := .ok, result := r }

/-- A command returns kind `k` and changes nothing. -/
def Refuses (i : Instr) (s : State) (k : Kind) : Prop :=
  exec i s = .next { s with status := .failed k, result := .none }

/-- `i` ends with `Ok` from `s` and leaves `u`, what it hands back left out. -/
def State.Runs (s : State) (i : Instr) (u : State) : Prop :=
  (∃ r : Result, exec i s = .next { u with status := .ok, result := r }) ∧ u.status = s.status ∧ u.result = s.result

/-- The bits at `BP` are the instruction `i` of table `t`, and it runs from `s` to `u`. -/
def State.Reads (s : State) (t : Table) (i : Instr) (u : State) : Prop :=
  (∃ n : Nat, decode t s.ahead = .ok i n) ∧ s.Runs i u

/-- `i` raises `k` from `s` and leaves `u`, what it hands back left out. -/
def State.Raises (s : State) (i : Instr) (k : Kind) (u : State) : Prop :=
  exec i s = .next { u with status := .failed k, result := .none } ∧ u.status = s.status ∧ u.result = s.result

/-- `a` is, at `s`, the read of one codeword with table `t`. Where the bits at `BP` are an instruction of `t`, `a` ends with
a value and leaves `u` exactly where that instruction ends with `Ok`, hands that value back and leaves `u`, and raises what
it raises; where they are none, `a` raises `InvalidData` with `BP` after the reads that succeeded (R104, R461, R470). -/
def State.ReadBy {α : Type} (s : State) (t : Table) (a : Act α) (out : α → Result) : Prop :=
  match decode t s.ahead with
  | .ok i _ =>
    (∀ (v : α) (u : State), a s = .ok v u ↔
        exec i s = .next { u with status := .ok, result := out v } ∧ u.status = s.status ∧ u.result = s.result)
      ∧ (∀ (k : Kind) (u : State), a s = .error k u ↔ s.Raises i k u)
  | .reject _ n => a s = .error .invalidData { s with bp := s.bp + n }

/-- The table of the codewords of an AC table (R205). -/
def acTable (t : AcSel) : Table :=
  match t with
  | .intra => .acIntra
  | .inter => .acInter

/-- The instructions run one after another from `s` to `u`. -/
def RunsAll (l : List Instr) (s u : State) : Prop :=
  match l with
  | [] => u = s
  | i :: rest => ∃ m : State, s.Runs i m ∧ RunsAll rest m u

/-! ## The reads of a codeword -/

/-- The bits of each read of a bitstream instruction, in order: codeword, sign and residual (R106); codeword, value and
marker (R107); each bit of the prefix, then the value (R109); the escape's codeword and flags, then the inner codeword
and its sign, or the fields of the third form (R212). Any other is one read (for `SC` and `RESYNC` log entry 14; the sign
bit of an AC row is none of its encoding). -/
def readsOf (i : Instr) : List Nat :=
  match i with
  | .mvd_1 f _ _ => [2, 1, f - 1]
  | .mvd_2 f _ _ => [3, 1, f - 1]
  | .mvd_3 f _ _ => [4, 1, f - 1]
  | .mvd_4 f _ _ => [6, 1, f - 1]
  | .mvd_5 f _ _ => [7, 1, f - 1]
  | .mvd_6 f _ _ => [7, 1, f - 1]
  | .mvd_7 f _ _ => [7, 1, f - 1]
  | .mvd_8 f _ _ => [9, 1, f - 1]
  | .mvd_9 f _ _ => [9, 1, f - 1]
  | .mvd_10 f _ _ => [9, 1, f - 1]
  | .mvd_11 f _ _ => [10, 1, f - 1]
  | .mvd_12 f _ _ => [10, 1, f - 1]
  | .mvd_13 f _ _ => [10, 1, f - 1]
  | .mvd_14 f _ _ => [10, 1, f - 1]
  | .mvd_15 f _ _ => [10, 1, f - 1]
  | .mvd_16 f _ _ => [10, 1, f - 1]
  | .mvd_17 f _ _ => [10, 1, f - 1]
  | .mvd_18 f _ _ => [10, 1, f - 1]
  | .mvd_19 f _ _ => [10, 1, f - 1]
  | .mvd_20 f _ _ => [10, 1, f - 1]
  | .mvd_21 f _ _ => [10, 1, f - 1]
  | .mvd_22 f _ _ => [10, 1, f - 1]
  | .mvd_23 f _ _ => [10, 1, f - 1]
  | .mvd_24 f _ _ => [10, 1, f - 1]
  | .mvd_25 f _ _ => [11, 1, f - 1]
  | .mvd_26 f _ _ => [11, 1, f - 1]
  | .mvd_27 f _ _ => [11, 1, f - 1]
  | .mvd_28 f _ _ => [11, 1, f - 1]
  | .mvd_29 f _ _ => [11, 1, f - 1]
  | .mvd_30 f _ _ => [11, 1, f - 1]
  | .mvd_31 f _ _ => [12, 1, f - 1]
  | .mvd_32 f _ _ => [12, 1, f - 1]
  | .dcszL_1 _ => [2, 1]
  | .dcszL_2 _ => [2, 2]
  | .dcszL_3 _ => [3, 3]
  | .dcszL_4 _ => [3, 4]
  | .dcszL_5 _ => [4, 5]
  | .dcszL_6 _ => [5, 6]
  | .dcszL_7 _ => [6, 7]
  | .dcszL_8 _ => [7, 8]
  | .dcszL_9 _ _ => [8, 9, 1]
  | .dcszL_10 _ _ => [9, 10, 1]
  | .dcszL_11 _ _ => [10, 11, 1]
  | .dcszL_12 _ _ => [11, 12, 1]
  | .dcszC_1 _ => [2, 1]
  | .dcszC_2 _ => [2, 2]
  | .dcszC_3 _ => [3, 3]
  | .dcszC_4 _ => [4, 4]
  | .dcszC_5 _ => [5, 5]
  | .dcszC_6 _ => [6, 6]
  | .dcszC_7 _ => [7, 7]
  | .dcszC_8 _ => [8, 8]
  | .dcszC_9 _ _ => [9, 9, 1]
  | .dcszC_10 _ _ => [10, 10, 1]
  | .dcszC_11 _ _ => [11, 11, 1]
  | .dcszC_12 _ _ => [12, 12, 1]
  | .traj_0 => [1]
  | .traj_1 _ => List.replicate 2 1 ++ [1]
  | .traj_2 _ => List.replicate 3 1 ++ [2]
  | .traj_3 _ => List.replicate 4 1 ++ [3]
  | .traj_4 _ => List.replicate 5 1 ++ [4]
  | .traj_5 _ => List.replicate 6 1 ++ [5]
  | .traj_6 _ => List.replicate 7 1 ++ [6]
  | .traj_7 _ => List.replicate 8 1 ++ [7]
  | .traj_8 _ => List.replicate 9 1 ++ [8]
  | .traj_9 _ => List.replicate 10 1 ++ [9]
  | .traj_10 _ => List.replicate 11 1 ++ [10]
  | .traj_11 _ => List.replicate 12 1 ++ [11]
  | .traj_12 _ => List.replicate 13 1 ++ [12]
  | .acIntra_esc1 inner _ => [7, 1, (AcSel.row .intra inner).code.length, 1]
  | .acIntra_esc2 inner _ => [7, 1, 1, (AcSel.row .intra inner).code.length, 1]
  | .acIntra_esc3 _ _ _ _ _ => [7, 1, 1, 1, 6, 1, 12, 1]
  | .acInter_esc1 inner _ => [7, 1, (AcSel.row .inter inner).code.length, 1]
  | .acInter_esc2 inner _ => [7, 1, 1, (AcSel.row .inter inner).code.length, 1]
  | .acInter_esc3 _ _ _ _ _ => [7, 1, 1, 1, 6, 1, 12, 1]
  | _ => [(encode i).length]

/-- Of the reads of the lengths `l`, those that fit in `n` bits before the first that does not take `c` bits (R140, R470). -/
def ReadsTaken (l : List Nat) (n c : Nat) : Prop :=
  (∃ k : Nat, c = (l.take k).sum) ∧ c ≤ n ∧ ∀ k : Nat, (l.take k).sum ≤ n → (l.take k).sum ≤ c

/-- A fetch that is no instruction raises `InvalidData`, takes the request, and moves `BP` by `c` bits; nothing else
changes. -/
def State.FetchFails (s : State) (c : Nat) : Prop :=
  step s = .next { s with inq := s.inq.drop 1, bp := s.bp + c, status := .failed .invalidData, result := .none }

/-! ## Quantities of the spec in its own words -/

/-- `clamp(v, lo, hi)` (R10). -/
def within (lo hi v : Int) : Int := max lo (min v hi)

/-- The value code of R107 and R109: a first bit of 1 is a positive value, a first bit of 0 a negative one. -/
def fieldValue (size v : Nat) : Int :=
  if size = 0 then 0 else if 2 ^ (size - 1) ≤ v then v else (v : Int) + 1 - 2 ^ size

/-- `q` is `a // b` for a positive `b`: the integer nearest to `a / b`, the one farther from zero where two
are as near (R10). -/
def NearestQuotient (a b q : Int) : Prop :=
  2 * (a - q * b).natAbs ≤ b.natAbs ∧ (2 * (a - q * b).natAbs = b.natAbs → a.natAbs ≤ (q * b).natAbs)

/-- `LMAX(T, last, run)` and `RMAX(T, last, level)` as the largest of a list (R208, R209). -/
def largest (l : List Nat) : Nat := l.foldl max 0

/-- `LMAX(T, last, run)`, R208. -/
def largestLevel (t : AcSel) (last : Bool) (run : Nat) : Nat :=
  largest ((t.rows.filter (fun r => r.last == last && r.run == run)).map (fun r => r.level))

/-- `RMAX(T, last, level)`, R209. -/
def largestRun (t : AcSel) (last : Bool) (level : Nat) : Nat :=
  largest ((t.rows.filter (fun r => r.last == last && r.level == level)).map (fun r => r.run))

/-- `sat(x)` (R243). -/
def saturated (p : Params) (x : Int) : Int := if p.h263Saturate then within (-2048) 2047 x else x

/-- `r` is `rescale(p, qn, qc)` (R287). -/
def Rescaled (p : Int) (qn qc : Nat) (r : Int) : Prop :=
  (qn = qc → r = p) ∧ (qn ≠ qc → NearestQuotient (p * qn) qc r)

/-- `scale` is `dc_scaler(b, QP)`, the table of R282. -/
def IsDcScale (luma : Bool) (qp scale : Nat) : Prop :=
  (qp ≤ 4 → scale = 8)
    ∧ (luma = true → (5 ≤ qp → qp ≤ 8 → scale = 2 * qp) ∧ (9 ≤ qp → qp ≤ 24 → scale = qp + 8) ∧ (25 ≤ qp → scale = 2 * qp - 16))
    ∧ (luma = false → (5 ≤ qp → qp ≤ 24 → scale = (qp + 13) / 2) ∧ (25 ≤ qp → scale = qp - 6))

/-- The middle one of three integers. -/
def middle (a b c : Int) : Int := a + b + c - max a (max b c) - min a (min b c)

/-- The bytes `00 00 01 c` stand at offset `a` of `data` (R114, R144). -/
def StartCodeIn (data : List Byte) (a : Nat) (c : Byte) : Prop :=
  data[a]? = some 0#8 ∧ data[a + 1]? = some 0#8 ∧ data[a + 2]? = some 1#8 ∧ data[a + 3]? = some c

/-- A resync marker for `f` stands at bit `p` of the window (R115, R146). -/
def State.ResyncAt (s : State) (p f : Nat) : Prop :=
  p + 1 + (7 - p % 8) + (16 + f) + 1 ≤ 8 * s.bslen ∧ s.bit p = false
    ∧ (∀ j, 1 ≤ j → j ≤ 7 - p % 8 → s.bit (p + j) = true)
    ∧ (∀ j, 1 ≤ j → j ≤ 16 + f → s.bit (p + (7 - p % 8) + j) = false)
    ∧ s.bit (p + (7 - p % 8) + (16 + f) + 1) = true

/-! ## Samples -/

/-- The offset in its plane of sample `i` of block `b` of macroblock `k`, from the position the block
operations write to (R312, R71). -/
def State.sampleAddr (s : State) (k : Nat) (b : Fin 6) (i : Fin 64) : Nat :=
  (blockY (s.mbY k) b + rowOf i) * s.stride (blockPlane b) + (blockX (s.mbX k) b + colOf i)

/-- `cur` is `CUR` of `s` after block `b` of macroblock `k` has been written with `v`:
the 64 samples of the block are those of `v`, and every other sample of every plane is as in `s`. -/
def State.BlockWritten (s : State) (k : Nat) (b : Fin 6) (v : Vector Byte 64) (cur : FrameStore) : Prop :=
  (∀ i : Fin 64, (cur.plane (blockPlane b)).read (s.sampleAddr k b i) = v[i])
    ∧ (∀ (p : Plane) (a : Nat), (p = blockPlane b → ∀ i : Fin 64, a ≠ s.sampleAddr k b i) →
        (cur.plane p).read a = (s.cur.plane p).read a)
    ∧ cur.valid = s.cur.valid ∧ cur.info = s.cur.info

/-- Offset `a` of plane `p` belongs to macroblock `k`: it is a sample of one of its six blocks. -/
def State.OwnSample (s : State) (k : Nat) (p : Plane) (a : Nat) : Prop :=
  ∃ (b : Fin 6) (i : Fin 64), blockPlane b = p ∧ a = s.sampleAddr k b i

/-- `ref(P, X, Y)` as an integer: coordinates outside the plane are brought onto its edge (R341). -/
def refAt (p : Memory) (stride rows : Nat) (x y : Int) : Int :=
  (p.read ((within 0 (rows - 1) y).toNat * stride + (within 0 (stride - 1) x).toNat)).toNat

/-- The sample of `mc_block` at `(x, y)` and quarter position `(qx, qy)` with rounding control `r` (R342). -/
def mcSample (p : Memory) (stride rows : Nat) (x y qx qy : Int) (r : Bool) : Int :=
  let at0 := fun (dx dy : Int) => refAt p stride rows (x + qx / 4 + dx) (y + qy / 4 + dy)
  let dx := qx % 4
  let dy := qy % 4
  ((4 - dx) * (4 - dy) * at0 0 0 + dx * (4 - dy) * at0 1 0 + (4 - dx) * dy * at0 0 1 + dx * dy * at0 1 1 + 8
    - (if r then 1 else 0)) / 16

/-! ## The syntax of macroblocks and packets, in the order of its rules -/

/-- `vals` are the first sprite components that stand back to back at `BP`, `n` bits in all (R109, R361). -/
def TrajectoryRead (vals : List Int) (s : State) (n : Nat) : Prop :=
  match vals with
  | [] => n = 0
  | v :: rest => ∃ (len x m : Nat) (c : Cursor), parseTraj ⟨s.ahead, 0⟩ = .ok (len, x) c ∧ v = fieldValue len x
      ∧ TrajectoryRead rest { s with bp := s.bp + c.used } m ∧ n = c.used + m

/-- `MB.mcsel` of R111: the bit where the syntax has one, else 0. -/
def State.ReadsMcsel (s t : State) : Prop :=
  let z : State := { s with mb := { s.mb with mcsel := false } }
  if s.vop.isSprite = true ∧ (s.mb.mode = .inter ∨ s.mb.mode = .interQ) then ∃ b : Bool, z.Reads .mcsel (.mcsel b) t else t = z

/-- `MB.ac_pred` of R111: the bit in an intra mode, else 0 (log entry 27). -/
def State.ReadsAcPred (s t : State) : Prop :=
  if s.mb.mode = .intra ∨ s.mb.mode = .intraQ then ∃ b : Bool, s.Reads .acPred (.acPred b) t
  else t = { s with mb := { s.mb with acPred := false } }

/-- `apply_dquant` of R111 in a Q mode. -/
def State.ReadsDquant (s t : State) : Prop :=
  if s.mb.mode = .interQ ∨ s.mb.mode = .intraQ then ∃ i : Instr, s.Reads .dquant i t else t = s

/-- The header of a coded macroblock of a P or S VOP, from `not_coded` to `apply_dquant` (R111). -/
def State.HeaderOfP (s t : State) : Prop :=
  ∃ (m y : Instr) (s1 s2 s3 s4 s5 : State),
    s.Reads .notCoded (.notCoded false) s1 ∧ s1.Reads .mcbpcP m s2 ∧ m ≠ .mcbpcP_stuff
      ∧ s2.ReadsMcsel s3 ∧ s3.ReadsAcPred s4 ∧ s4.Reads .cbpy y s5 ∧ s5.ReadsDquant t

/-- `MB.mv[b] <- decode_mv(b)` for each `b` of a list in order (R111, R177). -/
def VectorsRead (l : List (Fin 4)) (k : Nat) (s t : State) : Prop :=
  match l with
  | [] => t = s
  | b :: rest => ∃ (v : MV) (u : State), decodeMv k b s = .ok v u
      ∧ VectorsRead rest k { u with mb := { u.mb with mv := u.mb.mv.set b.val v } } t

/-- The vectors of a macroblock of mode Inter, InterQ or Inter4V (R111). -/
def State.VectorsOfP (s : State) (k : Nat) (t : State) : Prop :=
  if s.mb.mode = .inter4V then VectorsRead [0, 1, 2, 3] k s t
  else if s.mb.mcsel = true then t = { s with mb := { s.mb with mv := Vector.replicate 4 s.gmc.gmv } }
  else ∃ (v : MV) (u : State), decodeMv k 0 s = .ok v u ∧ t = { u with mb := { u.mb with mv := Vector.replicate 4 v } }

/-- `p` is the prediction of macroblock `k` from a store by four luma vectors: what `MC_LUMA` and `MC_CHROMA` answer,
the chroma vector being that of `CHROMA_MV_4` where `four` holds and of `CHROMA_MV_1` else (R320, R326). -/
def State.PredictedFrom (s : State) (k : Nat) (src : StoreSel) (mv : Vector MV 4) (four : Prop) (r : Bool)
    (p : Vector (Vector Byte 64) 6) : Prop :=
  let x : Int := (16 * (k % s.mbw) : Nat)
  let y : Int := (16 * (k / s.mbw) : Nat)
  let cx : Int := (8 * (k % s.mbw) : Nat)
  let cy : Int := (8 * (k / s.mbw) : Nat)
  Answers (.mcLuma src x y mv[0] r) s (.samples p[0]) ∧ Answers (.mcLuma src (x + 8) y mv[1] r) s (.samples p[1])
    ∧ Answers (.mcLuma src x (y + 8) mv[2] r) s (.samples p[2]) ∧ Answers (.mcLuma src (x + 8) (y + 8) mv[3] r) s (.samples p[3])
    ∧ ∃ c : MV, (four → Answers (.chromaMv_4 mv[0] mv[1] mv[2] mv[3]) s (.vector c)) ∧ (¬four → Answers (.chromaMv_1 mv[0]) s (.vector c))
        ∧ Answers (.mcChroma src .u cx cy c r) s (.samples p[4]) ∧ Answers (.mcChroma src .v cx cy c r) s (.samples p[5])

/-- The header of a macroblock of a B VOP that is not skipped (R112). -/
def State.HeaderOfB (s t : State) : Prop :=
  s.Reads .modb .modb_1 t
    ∨ (∃ (i : Instr) (s1 : State), s.Reads .modb .modb_01 s1 ∧ s1.Reads .bmbtype i t)
    ∨ (∃ (i j : Instr) (s1 s2 s3 : State), s.Reads .modb .modb_00 s1 ∧ s1.Reads .bmbtype i s2 ∧ s2.Reads .cbpb j s3
        ∧ if s3.mb.btype ≠ .direct ∧ s3.mb.cbp ≠ 0#6 then ∃ d : Instr, s3.Reads .dbquant d t else t = s3)

/-- `v` is `vec(p, f)` of R185. -/
def State.VectorRead (s : State) (f : Nat) (p v : MV) (u : State) : Prop :=
  ∃ (dx dy : Int) (m : State), decodeDelta f s = .ok dx m ∧ decodeDelta f m = .ok dy u
    ∧ v = ⟨wrapMv (p.x + dx) f, wrapMv (p.y + dy) f⟩

/-- The forward vector of R185. -/
def State.ForwardRead (s t : State) : Prop :=
  ∃ (v : MV) (u : State), s.VectorRead s.vop.fcodeFwd s.pmvF v u
    ∧ t = { u with mb := { u.mb with mv := Vector.replicate 4 v }, pmvF := v }

/-- The backward vector of R185. -/
def State.BackwardRead (s t : State) : Prop :=
  ∃ (v : MV) (u : State), s.VectorRead s.vop.fcodeBwd s.pmvB v u
    ∧ t = { u with mb := { u.mb with mvb := Vector.replicate 4 v }, pmvB := v }

/-- The vectors of macroblock `k` of a B VOP, by its type (R185). -/
def State.VectorsOfB (s : State) (k : Nat) (t : State) : Prop :=
  match s.mb.btype with
  | .forward => s.ForwardRead t
  | .backward => s.BackwardRead t
  | .interpolate => ∃ m : State, s.ForwardRead m ∧ m.BackwardRead t
  | .direct => ∃ (dx dy : Int) (m u : State), decodeDelta 1 s = .ok dx m ∧ decodeDelta 1 m = .ok dy u ∧ u.Runs (.directMv k ⟨dx, dy⟩) t
  | .directNoneMv => s.Runs (.directMv k ⟨0, 0⟩) t

/-- `p` is `PRED` of macroblock `k` of a B VOP (R326; `DirectNoneMv` as Direct, log entry 17). -/
def State.PredictedB (s : State) (k : Nat) (p : Vector (Vector Byte 64) 6) : Prop :=
  let four : Prop := (s.mb.btype = .direct ∨ s.mb.btype = .directNoneMv) ∧ (s.refmv.getD k MbInfo.reset).mode = .inter4V
  if s.mb.btype = .forward then s.PredictedFrom k .refOld s.mb.mv four false p
  else if s.mb.btype = .backward then s.PredictedFrom k .refNew s.mb.mvb four false p
  else ∃ f b : Vector (Vector Byte 64) 6,
    s.PredictedFrom k .refOld s.mb.mv four false f ∧ s.PredictedFrom k .refNew s.mb.mvb four false b
      ∧ ∀ (j : Fin 6) (i : Fin 64), p[j][i].toNat = (f[j][i].toNat + b[j][i].toNat + 1) / 2

/-- A macroblock of an I VOP stands at `BP`, or stuffing before one (R110): its header, and six blocks that are read with
success. -/
def State.SyntaxI (s : State) : Prop :=
  (∃ n : Nat, decode .mcbpcI s.ahead = .ok .mcbpcI_stuff n)
    ∨ ∃ (m a y : Instr) (s1 s2 s3 h t : State), s.Reads .mcbpcI m s1 ∧ m ≠ .mcbpcI_stuff ∧ s1.Reads .acPred a s2 ∧ s2.Reads .cbpy y s3
        ∧ s3.ReadsDquant h
        ∧ RunsAll [.intraBlock 0, .intraBlock 1, .intraBlock 2, .intraBlock 3, .intraBlock 4, .intraBlock 5] h t

/-- A macroblock `k` of a P or S VOP stands at `BP`, or stuffing before one (R111): `not_coded` 1, or a header, vectors and
six blocks that are read with success. -/
def State.SyntaxP (s : State) (k : Nat) : Prop :=
  (∃ t : State, s.Reads .notCoded (.notCoded true) t)
    ∨ (∃ s1 s2 : State, s.Reads .notCoded (.notCoded false) s1 ∧ s1.Reads .mcbpcP .mcbpcP_stuff s2)
    ∨ ∃ h : State, s.HeaderOfP h
        ∧ (((h.mb.mode = .intra ∨ h.mb.mode = .intraQ)
            ∧ ∃ t : State, RunsAll [.intraBlock 0, .intraBlock 1, .intraBlock 2, .intraBlock 3, .intraBlock 4, .intraBlock 5] h t)
          ∨ ((h.mb.mode = .inter ∨ h.mb.mode = .interQ ∨ h.mb.mode = .inter4V)
            ∧ ∃ (v t : State) (p : Vector (Vector Byte 64) 6), h.VectorsOfP k v
                ∧ v.PredictedFrom k .refNew v.mb.mv (v.mb.mode = .inter4V) v.vop.roundingType p
                ∧ RunsAll [.interBlock 0, .interBlock 1, .interBlock 2, .interBlock 3, .interBlock 4, .interBlock 5] { v with pred := p } t))

/-- A macroblock `k` of a B VOP that is not skipped stands at `BP` (R112): a header, vectors and six blocks that are read with
success. -/
def State.SyntaxB (s : State) (k : Nat) : Prop :=
  ∃ (h v t : State) (p : Vector (Vector Byte 64) 6),
    State.HeaderOfB { s with
      pmvF := if k % s.mbw = 0 then MV.zero else s.pmvF
      pmvB := if k % s.mbw = 0 then MV.zero else s.pmvB
      mb := { s.mb with acPred := false } } h
    ∧ h.VectorsOfB k v ∧ v.PredictedB k p
    ∧ RunsAll [.interBlock 0, .interBlock 1, .interBlock 2, .interBlock 3, .interBlock 4, .interBlock 5] { v with pred := p } t

/-- The syntax of macroblock `k` in the VOP at hand; a skipped macroblock of a B VOP has no bits (R112). -/
def State.SyntaxOf (s : State) (k : Nat) : Prop :=
  match s.vop.pictureType with
  | .i => s.SyntaxI
  | .p => s.SyntaxP k
  | .s => s.SyntaxP k
  | .b => (s.refmv.getD k MbInfo.reset).mode = .notCoded ∨ s.SyntaxB k

/-- The VOP group takes header `h` with the time stamps of the packet (R425, R426). -/
def State.withHeader (s : State) (pkt : Packet) (h : VopHeader) : State :=
  { s with vop := { h with
      pts := pkt.pts
      duration := pkt.duration
      timeBase := pkt.timeBase
      isKeyframe := pkt.isKeyframe } }

/-- The trajectory of a VOP header is read, where it has one: `SET_BP`, then `SPRITE_TRAJECTORY` (R425, R361). -/
def State.TrajectoryDone (s : State) (v : VopParse) (t : State) : Prop :=
  match v.trajectory with
  | none => t = s
  | some p => ∃ m : State, s.Runs (.setBp p) m ∧ m.Runs .spriteTrajectory t

/-- `SEND_PACKET` skips this VOP (R429). -/
def State.Waits (s : State) (v : VopParse) : Prop := s.waitKeyframe = true ∧ v.header.pictureType ≠ .i

/-- One VOP of a packet is sent with `Ok` from `s` to `t` (R426). -/
def State.VopSent (s : State) (pkt : Packet) (v : VopParse) (t : State) : Prop :=
  (s.Waits v ∧ t = s)
    ∨ (¬s.Waits v ∧ ∃ m : State, s.TrajectoryDone v m ∧ (m.withHeader pkt v.header).vopFault = none
        ∧ (m.withHeader pkt v.header).Runs .decodeVop t)

/-- The VOPs of a list are sent one after another (R426, R427). -/
def VopsSent (pkt : Packet) (l : List VopParse) (s t : State) : Prop :=
  match l with
  | [] => t = s
  | v :: rest => ∃ m : State, s.VopSent pkt v m ∧ VopsSent pkt rest m t

/-- One VOP of a packet fails with kind `k`, at its parse, its trajectory, a check or its decode, and leaves `t`
(R426, R463; `VOP` is as before where a check fails, log entry 21). -/
def State.VopFails (s : State) (pkt : Packet) (v : Option VopParse) (k : Kind) (t : State) : Prop :=
  match v with
  | none => k = .invalidData ∧ t = s
  | some v => ¬s.Waits v
      ∧ ((∃ p : Nat, v.trajectory = some p ∧ s.Raises (.setBp p) k t)
        ∨ (∃ (p : Nat) (m : State), v.trajectory = some p ∧ s.Runs (.setBp p) m ∧ m.Raises .spriteTrajectory k t)
        ∨ (s.TrajectoryDone v t ∧ (t.withHeader pkt v.header).vopFault = some k)
        ∨ (∃ m : State, s.TrajectoryDone v m ∧ (m.withHeader pkt v.header).vopFault = none
            ∧ (m.withHeader pkt v.header).Raises .decodeVop k t))

/-! ## The order of the reorder buffer -/

/-- Slot `a` may be taken before slot `b`: it has the smaller POC, or the same POC and no larger `seq` (R390). -/
def TakenBefore (a b : RobSlot) : Prop :=
  a.frame.info.poc < b.frame.info.poc ∨ (a.frame.info.poc = b.frame.info.poc ∧ a.seq ≤ b.seq)

/-! ## Kinds of instruction -/

/-- Instructions that act on the bits at `BP` or place `BP` (R130). -/
def movesBp (i : Instr) : Bool :=
  !i.isCommand
    || (match i with
        | .readBits _ => true
        | .skipBits _ => true
        | .decodeMb _ => true
        | .intraBlock _ => true
        | .interBlock _ => true
        | .spriteTrajectory => true
        | .decodeVop => true
        | .sendPacket _ _ => true
        | .flush => true
        | .openInst _ => true
        | .setBp _ => true
        | _ => false)

/-- Instructions that write the bitstream window (R70: "the host, at `SEND_PACKET`"; R38, R37). -/
def writesWindow (i : Instr) : Bool :=
  match i with
  | .sendPacket _ _ => true
  | .flush => true
  | .openInst _ => true
  | _ => false

/-- Instructions that write the `VOL` group and the matrices (R21, R424). -/
def writesVol (i : Instr) : Bool :=
  match i with
  | .loadVol _ => true
  | .sendPacket _ _ => true
  | .openInst _ => true
  | _ => false

/-- Instructions that write the `VOP` group (R23, R425, R426, R37). -/
def writesVop (i : Instr) : Bool :=
  match i with
  | .loadVop _ => true
  | .sendPacket _ _ => true
  | .openInst _ => true
  | _ => false

/-- Instructions that write `PC`: `PC_UPDATE` and what runs it (R288), and what makes it anew (R424, R37). -/
def writesCache (i : Instr) : Bool :=
  match i with
  | .pcUpdate _ => true
  | .intraBlock _ => true
  | .decodeMb _ => true
  | .decodeVop => true
  | .sendPacket _ _ => true
  | .loadVol _ => true
  | .openInst _ => true
  | _ => false

/-- Instructions that write the reference stores or `REFMV` (R385, R38, R424, R37). -/
def writesReferences (i : Instr) : Bool :=
  match i with
  | .completeRef => true
  | .decodeVop => true
  | .sendPacket _ _ => true
  | .flush => true
  | .loadVol _ => true
  | .openInst _ => true
  | _ => false

/-- Instructions that take frames from `OUTQ` (R393). -/
def takesOutput (i : Instr) : Bool :=
  match i with
  | .receiveFrame => true
  | .flush => true
  | .openInst _ => true
  | _ => false

/-- The macroblock an operation acts on, where it acts on one (R27). -/
def State.macroblockOf (s : State) (i : Instr) : Option Nat :=
  match i with
  | .decodeMb k => some k
  | .copyMb k _ => some k
  | .mbiWrite k => some k
  | .directMv k _ => some k
  | .dcPredict _ => some s.mbk
  | .acPredict _ => some s.mbk
  | .pcUpdate _ => some s.mbk
  | .intraBlock _ => some s.mbk
  | .interBlock _ => some s.mbk
  | _ => none

/-! ## The checks of `DECODE_VOP` -/

/-- The `VOL` group names a tool the block refuses (R466, R122). -/
def State.RefusedTool (s : State) : Prop :=
  s.vol.interlaced = true ∨ s.vol.dataPartitioned = true ∨ s.vol.spriteEnable = .static ∨ s.vol.spriteEnable = .reserved
    ∨ s.vol.shape ≠ 0 ∨ s.vol.notEightBit = true ∨ 3 < s.vol.warpPoints

/-- A value of the `VOP` group is not legal (R24). -/
def State.IllegalVop (s : State) : Prop :=
  (s.vop.pictureType ≠ .i ∧ s.vop.fcodeFwd = 0)
    ∨ (s.vop.pictureType = .b ∧ (s.vop.fcodeBwd = 0 ∨ s.vop.trd ≤ 0))
    ∨ (s.vop.pictureType = .s ∧ s.vol.spriteEnable = .none)

/-- The VOP is passed over: it carries no macroblock data (R383), or a reference its type needs is not
valid (R473, R474). -/
def State.PassedOver (s : State) : Prop :=
  s.vop.vopCoded = false
    ∨ ((s.vop.pictureType = .p ∨ s.vop.pictureType = .s) ∧ s.refNew.valid = false)
    ∨ (s.vop.pictureType = .b ∧ (s.refOld.valid = false ∨ s.refNew.valid = false))

/-- Every check of `DECODE_VOP` passes and the VOP is not passed over (R380). -/
def State.VopReady (s : State) : Prop :=
  s.vol.valid = true ∧ ¬s.RefusedTool ∧ ¬s.IllegalVop ∧ ¬s.PassedOver ∧ (s.vop.quant ≠ 0 ∨ s.prevQuant ≠ 0)
    ∧ s.vop.mbStart ≤ 8 * s.bslen

/-- The metadata a VOP gives its frame (R380). -/
def State.vopInfo (s : State) : FrameInfo :=
  ⟨s.vop.poc, s.vop.pts, s.vop.duration, s.vop.timeBase, s.vop.pictureType, s.vop.isKeyframe⟩

/-- The output frame a store becomes (R71, R432). -/
def State.outputOf (s : State) (f : FrameStore) : Frame :=
  { y := f.y, u := f.u, v := f.v, linesize := (16 * s.mbw, 8 * s.mbw, 8 * s.mbw), width := s.vol.width
    height := s.vol.height, pixelFormat := .yuv420p, info := f.info }

/-! ## The body of `DECODE_VOP` -/

/-- Every register `DECODE_VOP` sets before its first macroblock (R380, R26, R362). `CUR` is not valid from here on (log
entry 20). -/
def State.VopBegins (s t : State) : Prop :=
  let q := if s.vop.quant ≠ 0 then s.vop.quant else s.prevQuant
  let z : State := { s with
    qp := q
    prevQuant := q
    fail := false
    mbi := List.replicate s.mbCount ⟨.notCoded, 0, Vector.replicate 4 MV.zero⟩
    pmvF := MV.zero
    pmvB := MV.zero
    bp := s.vop.mbStart
    cur := { s.cur with valid := false, info := s.vopInfo } }
  if s.vop.pictureType = .s then z.Runs .gmcSetup t else t = z

/-- `degrade(k)` as R380 runs it after a failure: `COPY_MB k` from `REF_NEW`, and outside a B VOP the `MBI` entry of
a macroblock that is not coded (R472). No bit is read. -/
def State.Degrades (s : State) (k : Nat) (t : State) : Prop :=
  ∃ u : State, State.Runs { s with mbk := k } (.copyMb k .refNew) u
    ∧ t = if s.vop.pictureType = .b then u else { u with mbi := u.mbi.set k ⟨.notCoded, u.qp, Vector.replicate 4 MV.zero⟩ }

/-- The loop of R380 over the macroblocks of a list: `DECODE_MB k` while `FAIL` is 0, `degrade(k)` after (R472). -/
def MacroblocksDone (l : List Nat) (s t : State) : Prop :=
  match l with
  | [] => t = s
  | k :: rest => ∃ m : State, (if s.fail = true then s.Degrades k m else s.Runs (.decodeMb k) m) ∧ MacroblocksDone rest m t

end Sys2Proof.Machine
end

