-- ==== Sys2Proof/Certificates/Slice0/Obligations.lean ====
section
/-! DEFINITION. The statements about M4VD, from the numbered rules of spec/. The terms they use stand in
`Safety.lean`; OBLIGATIONS.json lists them. -/

section

open Sys2Proof Sys2Proof.Machine

/-- R160, R161, R162, R121: what an MCBPC and a CBPY codeword write. That the part of `MB.cbp` a codeword does not
carry is kept when the codeword is given alone is the model's reading (log entry 22). -/
def Obligations.McbpcAndCbpyCodewords : Prop :=
  (∀ p ∈ ([
      (.mcbpcI_3_0, 1, .intra, 0), (.mcbpcI_3_1, 3, .intra, 1), (.mcbpcI_3_2, 3, .intra, 2),
      (.mcbpcI_3_3, 3, .intra, 3), (.mcbpcI_4_0, 4, .intraQ, 0), (.mcbpcI_4_1, 6, .intraQ, 1),
      (.mcbpcI_4_2, 6, .intraQ, 2), (.mcbpcI_4_3, 6, .intraQ, 3),
      (.mcbpcP_0_0, 1, .inter, 0), (.mcbpcP_0_1, 4, .inter, 1), (.mcbpcP_0_2, 4, .inter, 2),
      (.mcbpcP_0_3, 6, .inter, 3), (.mcbpcP_1_0, 3, .interQ, 0), (.mcbpcP_1_1, 7, .interQ, 1),
      (.mcbpcP_1_2, 7, .interQ, 2), (.mcbpcP_1_3, 9, .interQ, 3), (.mcbpcP_2_0, 3, .inter4V, 0),
      (.mcbpcP_2_1, 7, .inter4V, 1), (.mcbpcP_2_2, 7, .inter4V, 2), (.mcbpcP_2_3, 8, .inter4V, 3),
      (.mcbpcP_3_0, 5, .intra, 0), (.mcbpcP_3_1, 8, .intra, 1), (.mcbpcP_3_2, 8, .intra, 2),
      (.mcbpcP_3_3, 7, .intra, 3), (.mcbpcP_4_0, 6, .intraQ, 0), (.mcbpcP_4_1, 9, .intraQ, 1),
      (.mcbpcP_4_2, 9, .intraQ, 2), (.mcbpcP_4_3, 9, .intraQ, 3)] : List (Instr × Nat × MbMode × Nat)),
    Completes p.1 p.2.1 (fun s => { s with mb := { s.mb with
      mode := p.2.2.1
      cbp := BitVec.ofNat 6 (4 * (s.mb.cbp.toNat / 4) + p.2.2.2) } }) .none)
  ∧ Completes .mcbpcI_stuff 9 (fun s => s) .none
  ∧ Completes .mcbpcP_stuff 9 (fun s => s) .none
  ∧ (∀ p ∈ ([
      (.cbpy_0, 4, 0), (.cbpy_1, 5, 1), (.cbpy_2, 5, 2), (.cbpy_3, 4, 3), (.cbpy_4, 5, 4),
      (.cbpy_5, 4, 5), (.cbpy_6, 6, 6), (.cbpy_7, 4, 7), (.cbpy_8, 5, 8), (.cbpy_9, 6, 9),
      (.cbpy_10, 4, 10), (.cbpy_11, 4, 11), (.cbpy_12, 4, 12), (.cbpy_13, 4, 13), (.cbpy_14, 4, 14),
      (.cbpy_15, 2, 15)] : List (Instr × Nat × Nat)),
    Completes p.1 p.2.1 (fun s => { s with mb := { s.mb with
      cbp := BitVec.ofNat 6
        (4 * (if s.mb.mode = .intra ∨ s.mb.mode = .intraQ then p.2.2 else 15 - p.2.2) + s.mb.cbp.toNat % 4) } }) .none)

/-- R106 with the magnitudes of R174. -/
def Obligations.MvdCodewords : Prop :=
  Completes .mvd_0 1 (fun s => s) (.int 0)
  ∧ ∀ (f : Nat) (neg : Bool) (res : Nat), 1 ≤ f → f ≤ 7 → res < 2 ^ (f - 1) →
    ∀ p ∈ ([
      (1, .mvd_1 f neg res, 2), (2, .mvd_2 f neg res, 3), (3, .mvd_3 f neg res, 4), (4, .mvd_4 f neg res, 6),
      (5, .mvd_5 f neg res, 7), (6, .mvd_6 f neg res, 7), (7, .mvd_7 f neg res, 7), (8, .mvd_8 f neg res, 9),
      (9, .mvd_9 f neg res, 9), (10, .mvd_10 f neg res, 9), (11, .mvd_11 f neg res, 10), (12, .mvd_12 f neg res, 10),
      (13, .mvd_13 f neg res, 10), (14, .mvd_14 f neg res, 10), (15, .mvd_15 f neg res, 10), (16, .mvd_16 f neg res, 10),
      (17, .mvd_17 f neg res, 10), (18, .mvd_18 f neg res, 10), (19, .mvd_19 f neg res, 10), (20, .mvd_20 f neg res, 10),
      (21, .mvd_21 f neg res, 10), (22, .mvd_22 f neg res, 10), (23, .mvd_23 f neg res, 10), (24, .mvd_24 f neg res, 10),
      (25, .mvd_25 f neg res, 11), (26, .mvd_26 f neg res, 11), (27, .mvd_27 f neg res, 11), (28, .mvd_28 f neg res, 11),
      (29, .mvd_29 f neg res, 11), (30, .mvd_30 f neg res, 11), (31, .mvd_31 f neg res, 12), (32, .mvd_32 f neg res, 12)] : List (Nat × Instr × Nat)),
      Completes p.2.1 (p.2.2 + f) (fun s => s)
        (.int (if neg then -(((p.1 - 1) * 2 ^ (f - 1) + res + 1 : Nat) : Int) else (((p.1 - 1) * 2 ^ (f - 1) + res + 1 : Nat) : Int)))

/-- R107, R200, R201; R109, R360. A marker of 0 is reserved (R122) and left out. That `DCVAL` moves no bit pointer
is the model's choice (log entry 15). -/
def Obligations.IntraDcAndTrajectoryCodewords : Prop :=
  (Completes .dcszL_0 3 (fun s => s) (.int 0)
  ∧ (∀ v : BitVec 1, Completes (.dcszL_1 v) 3 (fun s => s) (.int (fieldValue 1 v.toNat)))
  ∧ (∀ v : BitVec 2, Completes (.dcszL_2 v) 4 (fun s => s) (.int (fieldValue 2 v.toNat)))
  ∧ (∀ v : BitVec 3, Completes (.dcszL_3 v) 6 (fun s => s) (.int (fieldValue 3 v.toNat)))
  ∧ (∀ v : BitVec 4, Completes (.dcszL_4 v) 7 (fun s => s) (.int (fieldValue 4 v.toNat)))
  ∧ (∀ v : BitVec 5, Completes (.dcszL_5 v) 9 (fun s => s) (.int (fieldValue 5 v.toNat)))
  ∧ (∀ v : BitVec 6, Completes (.dcszL_6 v) 11 (fun s => s) (.int (fieldValue 6 v.toNat)))
  ∧ (∀ v : BitVec 7, Completes (.dcszL_7 v) 13 (fun s => s) (.int (fieldValue 7 v.toNat)))
  ∧ (∀ v : BitVec 8, Completes (.dcszL_8 v) 15 (fun s => s) (.int (fieldValue 8 v.toNat)))
  ∧ (∀ v : BitVec 9, Completes (.dcszL_9 v true) 18 (fun s => s) (.int (fieldValue 9 v.toNat)))
  ∧ (∀ v : BitVec 10, Completes (.dcszL_10 v true) 20 (fun s => s) (.int (fieldValue 10 v.toNat)))
  ∧ (∀ v : BitVec 11, Completes (.dcszL_11 v true) 22 (fun s => s) (.int (fieldValue 11 v.toNat)))
  ∧ (∀ v : BitVec 12, Completes (.dcszL_12 v true) 24 (fun s => s) (.int (fieldValue 12 v.toNat)))
  ∧ Completes .dcszC_0 2 (fun s => s) (.int 0)
  ∧ (∀ v : BitVec 1, Completes (.dcszC_1 v) 3 (fun s => s) (.int (fieldValue 1 v.toNat)))
  ∧ (∀ v : BitVec 2, Completes (.dcszC_2 v) 4 (fun s => s) (.int (fieldValue 2 v.toNat)))
  ∧ (∀ v : BitVec 3, Completes (.dcszC_3 v) 6 (fun s => s) (.int (fieldValue 3 v.toNat)))
  ∧ (∀ v : BitVec 4, Completes (.dcszC_4 v) 8 (fun s => s) (.int (fieldValue 4 v.toNat)))
  ∧ (∀ v : BitVec 5, Completes (.dcszC_5 v) 10 (fun s => s) (.int (fieldValue 5 v.toNat)))
  ∧ (∀ v : BitVec 6, Completes (.dcszC_6 v) 12 (fun s => s) (.int (fieldValue 6 v.toNat)))
  ∧ (∀ v : BitVec 7, Completes (.dcszC_7 v) 14 (fun s => s) (.int (fieldValue 7 v.toNat)))
  ∧ (∀ v : BitVec 8, Completes (.dcszC_8 v) 16 (fun s => s) (.int (fieldValue 8 v.toNat)))
  ∧ (∀ v : BitVec 9, Completes (.dcszC_9 v true) 19 (fun s => s) (.int (fieldValue 9 v.toNat)))
  ∧ (∀ v : BitVec 10, Completes (.dcszC_10 v true) 21 (fun s => s) (.int (fieldValue 10 v.toNat)))
  ∧ (∀ v : BitVec 11, Completes (.dcszC_11 v true) 23 (fun s => s) (.int (fieldValue 11 v.toNat)))
  ∧ (∀ v : BitVec 12, Completes (.dcszC_12 v true) 25 (fun s => s) (.int (fieldValue 12 v.toNat))))
  ∧ (Completes .traj_0 1 (fun s => s) (.int 0)
  ∧ (∀ v : BitVec 1, Completes (.traj_1 v) 3 (fun s => s) (.int (fieldValue 1 v.toNat)))
  ∧ (∀ v : BitVec 2, Completes (.traj_2 v) 5 (fun s => s) (.int (fieldValue 2 v.toNat)))
  ∧ (∀ v : BitVec 3, Completes (.traj_3 v) 7 (fun s => s) (.int (fieldValue 3 v.toNat)))
  ∧ (∀ v : BitVec 4, Completes (.traj_4 v) 9 (fun s => s) (.int (fieldValue 4 v.toNat)))
  ∧ (∀ v : BitVec 5, Completes (.traj_5 v) 11 (fun s => s) (.int (fieldValue 5 v.toNat)))
  ∧ (∀ v : BitVec 6, Completes (.traj_6 v) 13 (fun s => s) (.int (fieldValue 6 v.toNat)))
  ∧ (∀ v : BitVec 7, Completes (.traj_7 v) 15 (fun s => s) (.int (fieldValue 7 v.toNat)))
  ∧ (∀ v : BitVec 8, Completes (.traj_8 v) 17 (fun s => s) (.int (fieldValue 8 v.toNat)))
  ∧ (∀ v : BitVec 9, Completes (.traj_9 v) 19 (fun s => s) (.int (fieldValue 9 v.toNat)))
  ∧ (∀ v : BitVec 10, Completes (.traj_10 v) 21 (fun s => s) (.int (fieldValue 10 v.toNat)))
  ∧ (∀ v : BitVec 11, Completes (.traj_11 v) 23 (fun s => s) (.int (fieldValue 11 v.toNat)))
  ∧ (∀ v : BitVec 12, Completes (.traj_12 v) 25 (fun s => s) (.int (fieldValue 12 v.toNat))))
  ∧ ∀ (size : Fin 13) (v : Nat) (s : State), s.opened = true → v < 2 ^ size.val →
      Answers (.dcval size v) s (.int (fieldValue size.val v))

/-- R206, R207, R212: the event of every row of the two AC tables. -/
def Obligations.AcTableRowsWriteTheirEvent : Prop :=
  (∀ p ∈ ([
      (.acIntra_0_0_1, 2, false, 0, 1), (.acIntra_0_0_2, 3, false, 0, 2), (.acIntra_0_0_3, 4, false, 0, 3),
      (.acIntra_0_0_4, 5, false, 0, 4), (.acIntra_0_0_5, 5, false, 0, 5), (.acIntra_0_0_6, 6, false, 0, 6),
      (.acIntra_0_0_7, 6, false, 0, 7), (.acIntra_0_0_8, 6, false, 0, 8), (.acIntra_0_0_9, 7, false, 0, 9),
      (.acIntra_0_0_10, 8, false, 0, 10), (.acIntra_0_0_11, 8, false, 0, 11), (.acIntra_0_0_12, 8, false, 0, 12),
      (.acIntra_0_0_13, 9, false, 0, 13), (.acIntra_0_0_14, 9, false, 0, 14), (.acIntra_0_0_15, 9, false, 0, 15),
      (.acIntra_0_0_16, 9, false, 0, 16), (.acIntra_0_0_17, 10, false, 0, 17), (.acIntra_0_0_18, 10, false, 0, 18),
      (.acIntra_0_0_19, 10, false, 0, 19), (.acIntra_0_0_20, 10, false, 0, 20), (.acIntra_0_0_21, 11, false, 0, 21),
      (.acIntra_0_0_22, 11, false, 0, 22), (.acIntra_0_0_23, 11, false, 0, 23), (.acIntra_0_0_24, 11, false, 0, 24),
      (.acIntra_0_0_25, 12, false, 0, 25), (.acIntra_0_0_26, 12, false, 0, 26), (.acIntra_0_0_27, 12, false, 0, 27),
      (.acIntra_0_1_1, 4, false, 1, 1), (.acIntra_0_1_2, 6, false, 1, 2), (.acIntra_0_1_3, 7, false, 1, 3),
      (.acIntra_0_1_4, 8, false, 1, 4), (.acIntra_0_1_5, 9, false, 1, 5), (.acIntra_0_1_6, 9, false, 1, 6),
      (.acIntra_0_1_7, 10, false, 1, 7), (.acIntra_0_1_8, 11, false, 1, 8), (.acIntra_0_1_9, 12, false, 1, 9),
      (.acIntra_0_1_10, 12, false, 1, 10), (.acIntra_0_2_1, 5, false, 2, 1), (.acIntra_0_2_2, 7, false, 2, 2),
      (.acIntra_0_2_3, 9, false, 2, 3), (.acIntra_0_2_4, 10, false, 2, 4), (.acIntra_0_2_5, 12, false, 2, 5),
      (.acIntra_0_3_1, 6, false, 3, 1), (.acIntra_0_3_2, 8, false, 3, 2), (.acIntra_0_3_3, 9, false, 3, 3),
      (.acIntra_0_3_4, 10, false, 3, 4), (.acIntra_0_4_1, 6, false, 4, 1), (.acIntra_0_4_2, 9, false, 4, 2),
      (.acIntra_0_4_3, 10, false, 4, 3), (.acIntra_0_5_1, 6, false, 5, 1), (.acIntra_0_5_2, 9, false, 5, 2)] : List (Instr × Nat × Bool × Nat × Nat)),
    RowCompletes p.1 p.2.1 p.2.2.1 p.2.2.2.1 (p.2.2.2.2 : Nat))
  ∧
  (∀ p ∈ ([
      (.acIntra_0_5_3, 10, false, 5, 3), (.acIntra_0_6_1, 7, false, 6, 1), (.acIntra_0_6_2, 9, false, 6, 2),
      (.acIntra_0_6_3, 12, false, 6, 3), (.acIntra_0_7_1, 7, false, 7, 1), (.acIntra_0_7_2, 9, false, 7, 2),
      (.acIntra_0_7_3, 12, false, 7, 3), (.acIntra_0_8_1, 8, false, 8, 1), (.acIntra_0_8_2, 10, false, 8, 2),
      (.acIntra_0_9_1, 8, false, 9, 1), (.acIntra_0_9_2, 11, false, 9, 2), (.acIntra_0_10_1, 8, false, 10, 1),
      (.acIntra_0_11_1, 9, false, 11, 1), (.acIntra_0_12_1, 9, false, 12, 1), (.acIntra_0_13_1, 10, false, 13, 1),
      (.acIntra_0_14_1, 12, false, 14, 1), (.acIntra_1_0_1, 4, true, 0, 1), (.acIntra_1_0_2, 6, true, 0, 2),
      (.acIntra_1_0_3, 8, true, 0, 3), (.acIntra_1_0_4, 9, true, 0, 4), (.acIntra_1_0_5, 10, true, 0, 5),
      (.acIntra_1_0_6, 11, true, 0, 6), (.acIntra_1_0_7, 11, true, 0, 7), (.acIntra_1_0_8, 12, true, 0, 8),
      (.acIntra_1_1_1, 6, true, 1, 1), (.acIntra_1_1_2, 9, true, 1, 2), (.acIntra_1_1_3, 10, true, 1, 3),
      (.acIntra_1_2_1, 6, true, 2, 1), (.acIntra_1_2_2, 10, true, 2, 2), (.acIntra_1_3_1, 7, true, 3, 1),
      (.acIntra_1_3_2, 11, true, 3, 2), (.acIntra_1_4_1, 7, true, 4, 1), (.acIntra_1_4_2, 11, true, 4, 2),
      (.acIntra_1_5_1, 7, true, 5, 1), (.acIntra_1_5_2, 12, true, 5, 2), (.acIntra_1_6_1, 8, true, 6, 1),
      (.acIntra_1_6_2, 12, true, 6, 2), (.acIntra_1_7_1, 8, true, 7, 1), (.acIntra_1_8_1, 8, true, 8, 1),
      (.acIntra_1_9_1, 8, true, 9, 1), (.acIntra_1_10_1, 9, true, 10, 1), (.acIntra_1_11_1, 9, true, 11, 1),
      (.acIntra_1_12_1, 9, true, 12, 1), (.acIntra_1_13_1, 9, true, 13, 1), (.acIntra_1_14_1, 9, true, 14, 1),
      (.acIntra_1_15_1, 11, true, 15, 1), (.acIntra_1_16_1, 11, true, 16, 1), (.acIntra_1_17_1, 12, true, 17, 1),
      (.acIntra_1_18_1, 12, true, 18, 1), (.acIntra_1_19_1, 12, true, 19, 1), (.acIntra_1_20_1, 12, true, 20, 1)] : List (Instr × Nat × Bool × Nat × Nat)),
    RowCompletes p.1 p.2.1 p.2.2.1 p.2.2.2.1 (p.2.2.2.2 : Nat))
  ∧
  (∀ p ∈ ([
      (.acInter_0_0_1, 2, false, 0, 1), (.acInter_0_0_2, 4, false, 0, 2), (.acInter_0_0_3, 6, false, 0, 3),
      (.acInter_0_0_4, 7, false, 0, 4), (.acInter_0_0_5, 8, false, 0, 5), (.acInter_0_0_6, 9, false, 0, 6),
      (.acInter_0_0_7, 9, false, 0, 7), (.acInter_0_0_8, 10, false, 0, 8), (.acInter_0_0_9, 10, false, 0, 9),
      (.acInter_0_0_10, 11, false, 0, 10), (.acInter_0_0_11, 11, false, 0, 11), (.acInter_0_0_12, 11, false, 0, 12),
      (.acInter_0_1_1, 3, false, 1, 1), (.acInter_0_1_2, 6, false, 1, 2), (.acInter_0_1_3, 8, false, 1, 3),
      (.acInter_0_1_4, 10, false, 1, 4), (.acInter_0_1_5, 11, false, 1, 5), (.acInter_0_1_6, 12, false, 1, 6),
      (.acInter_0_2_1, 4, false, 2, 1), (.acInter_0_2_2, 8, false, 2, 2), (.acInter_0_2_3, 10, false, 2, 3),
      (.acInter_0_2_4, 12, false, 2, 4), (.acInter_0_3_1, 5, false, 3, 1), (.acInter_0_3_2, 9, false, 3, 2),
      (.acInter_0_3_3, 10, false, 3, 3), (.acInter_0_4_1, 5, false, 4, 1), (.acInter_0_4_2, 9, false, 4, 2),
      (.acInter_0_4_3, 12, false, 4, 3), (.acInter_0_5_1, 5, false, 5, 1), (.acInter_0_5_2, 10, false, 5, 2),
      (.acInter_0_5_3, 12, false, 5, 3), (.acInter_0_6_1, 6, false, 6, 1), (.acInter_0_6_2, 10, false, 6, 2),
      (.acInter_0_6_3, 12, false, 6, 3), (.acInter_0_7_1, 6, false, 7, 1), (.acInter_0_7_2, 10, false, 7, 2),
      (.acInter_0_8_1, 6, false, 8, 1), (.acInter_0_8_2, 10, false, 8, 2), (.acInter_0_9_1, 6, false, 9, 1),
      (.acInter_0_9_2, 10, false, 9, 2), (.acInter_0_10_1, 7, false, 10, 1), (.acInter_0_10_2, 12, false, 10, 2),
      (.acInter_0_11_1, 7, false, 11, 1), (.acInter_0_12_1, 7, false, 12, 1), (.acInter_0_13_1, 8, false, 13, 1),
      (.acInter_0_14_1, 8, false, 14, 1), (.acInter_0_15_1, 9, false, 15, 1), (.acInter_0_16_1, 9, false, 16, 1),
      (.acInter_0_17_1, 9, false, 17, 1), (.acInter_0_18_1, 9, false, 18, 1), (.acInter_0_19_1, 9, false, 19, 1)] : List (Instr × Nat × Bool × Nat × Nat)),
    RowCompletes p.1 p.2.1 p.2.2.1 p.2.2.2.1 (p.2.2.2.2 : Nat))
  ∧
  (∀ p ∈ ([
      (.acInter_0_20_1, 9, false, 20, 1), (.acInter_0_21_1, 9, false, 21, 1), (.acInter_0_22_1, 9, false, 22, 1),
      (.acInter_0_23_1, 11, false, 23, 1), (.acInter_0_24_1, 11, false, 24, 1), (.acInter_0_25_1, 12, false, 25, 1),
      (.acInter_0_26_1, 12, false, 26, 1), (.acInter_1_0_1, 4, true, 0, 1), (.acInter_1_0_2, 9, true, 0, 2),
      (.acInter_1_0_3, 11, true, 0, 3), (.acInter_1_1_1, 6, true, 1, 1), (.acInter_1_1_2, 11, true, 1, 2),
      (.acInter_1_2_1, 6, true, 2, 1), (.acInter_1_3_1, 6, true, 3, 1), (.acInter_1_4_1, 6, true, 4, 1),
      (.acInter_1_5_1, 7, true, 5, 1), (.acInter_1_6_1, 7, true, 6, 1), (.acInter_1_7_1, 7, true, 7, 1),
      (.acInter_1_8_1, 7, true, 8, 1), (.acInter_1_9_1, 8, true, 9, 1), (.acInter_1_10_1, 8, true, 10, 1),
      (.acInter_1_11_1, 8, true, 11, 1), (.acInter_1_12_1, 8, true, 12, 1), (.acInter_1_13_1, 8, true, 13, 1),
      (.acInter_1_14_1, 8, true, 14, 1), (.acInter_1_15_1, 8, true, 15, 1), (.acInter_1_16_1, 8, true, 16, 1),
      (.acInter_1_17_1, 9, true, 17, 1), (.acInter_1_18_1, 9, true, 18, 1), (.acInter_1_19_1, 9, true, 19, 1),
      (.acInter_1_20_1, 9, true, 20, 1), (.acInter_1_21_1, 9, true, 21, 1), (.acInter_1_22_1, 9, true, 22, 1),
      (.acInter_1_23_1, 9, true, 23, 1), (.acInter_1_24_1, 9, true, 24, 1), (.acInter_1_25_1, 10, true, 25, 1),
      (.acInter_1_26_1, 10, true, 26, 1), (.acInter_1_27_1, 10, true, 27, 1), (.acInter_1_28_1, 10, true, 28, 1),
      (.acInter_1_29_1, 11, true, 29, 1), (.acInter_1_30_1, 11, true, 30, 1), (.acInter_1_31_1, 11, true, 31, 1),
      (.acInter_1_32_1, 11, true, 32, 1), (.acInter_1_33_1, 12, true, 33, 1), (.acInter_1_34_1, 12, true, 34, 1),
      (.acInter_1_35_1, 12, true, 35, 1), (.acInter_1_36_1, 12, true, 36, 1), (.acInter_1_37_1, 12, true, 37, 1),
      (.acInter_1_38_1, 12, true, 38, 1), (.acInter_1_39_1, 12, true, 39, 1), (.acInter_1_40_1, 12, true, 40, 1)] : List (Instr × Nat × Bool × Nat × Nat)),
    RowCompletes p.1 p.2.1 p.2.2.1 p.2.2.2.1 (p.2.2.2.2 : Nat))

/-- R213, R214, R217, with LMAX and RMAX as the largest entries of the tables (R208, R209). The `ESC3` fields that
R122 reserves are left out. -/
def Obligations.AcEscapesWriteTheirEvent : Prop :=
  (∀ (inner : Fin 102) (neg : Bool),
    let r := AcSel.row .intra inner
    Completes (.acIntra_esc1 inner neg) (7 + 1 + r.code.length + 1) (fun s => { s with
      ev := ⟨r.last, r.run, if neg then -((r.level + largestLevel .intra r.last r.run : Nat) : Int) else ((r.level + largestLevel .intra r.last r.run : Nat) : Int)⟩ }) .none
    ∧ Completes (.acIntra_esc2 inner neg) (7 + 2 + r.code.length + 1) (fun s => { s with
      ev := ⟨r.last, r.run + largestRun .intra r.last r.level + 1, if neg then -(r.level : Int) else (r.level : Int)⟩ }) .none)
  ∧ (∀ (last : Bool) (run : BitVec 6) (level : BitVec 12), level ≠ 0#12 → level ≠ 2048#12 →
    Completes (.acIntra_esc3 last run true level true) 30 (fun s => { s with ev := ⟨last, run.toNat, level.toInt⟩ }) .none)
  ∧ (∀ (inner : Fin 102) (neg : Bool),
    let r := AcSel.row .inter inner
    Completes (.acInter_esc1 inner neg) (7 + 1 + r.code.length + 1) (fun s => { s with
      ev := ⟨r.last, r.run, if neg then -((r.level + largestLevel .inter r.last r.run : Nat) : Int) else ((r.level + largestLevel .inter r.last r.run : Nat) : Int)⟩ }) .none
    ∧ Completes (.acInter_esc2 inner neg) (7 + 2 + r.code.length + 1) (fun s => { s with
      ev := ⟨r.last, r.run + largestRun .inter r.last r.level + 1, if neg then -(r.level : Int) else (r.level : Int)⟩ }) .none)
  ∧ (∀ (last : Bool) (run : BitVec 6) (level : BitVec 12), level ≠ 0#12 → level ≠ 2048#12 →
    Completes (.acInter_esc3 last run true level true) 30 (fun s => { s with ev := ⟨last, run.toNat, level.toInt⟩ }) .none)

/-- R101, R170 to R173, R180 to R183. What `NOT_CODED 0` and the `MODB` codewords do when given alone is the model's
reading (log entry 22). -/
def Obligations.HeaderFieldsAndQuantizerCodes : Prop :=
  (∀ b : Bool,
    Completes (.notCoded b) 1 (fun s => { s with mb := { s.mb with mode := if b then .notCoded else s.mb.mode } }) .none
    ∧ Completes (.acPred b) 1 (fun s => { s with mb := { s.mb with acPred := b } }) .none
    ∧ Completes (.mcsel b) 1 (fun s => { s with mb := { s.mb with mcsel := b } }) .none)
  ∧ Completes .modb_1 1 (fun s => { s with mb := { s.mb with btype := .directNoneMv, cbp := 0#6 } }) .none
  ∧ Completes .modb_01 2 (fun s => { s with mb := { s.mb with cbp := 0#6 } }) .none
  ∧ Completes .modb_00 2 (fun s => s) .none
  ∧ (∀ p ∈ ([(.bmbtype_direct, 1, .direct), (.bmbtype_interpolate, 2, .interpolate), (.bmbtype_backward, 3, .backward),
      (.bmbtype_forward, 4, .forward)] : List (Instr × Nat × BType)),
    Completes p.1 p.2.1 (fun s => { s with mb := { s.mb with btype := p.2.2 } }) .none)
  ∧ (∀ v : BitVec 6, Completes (.cbpb v) 6 (fun s => { s with mb := { s.mb with cbp := v } }) .none)
  ∧ (∀ p ∈ ([(.dquant_00, 2, -1), (.dquant_01, 2, -2), (.dquant_10, 2, 1), (.dquant_11, 2, 2), (.dbquant_0, 1, 0),
      (.dbquant_minus2, 2, -2), (.dbquant_plus2, 2, 2)] : List (Instr × Nat × Int)),
    Completes p.1 p.2.1 (fun s => { s with qp := (within 1 31 ((s.qp : Int) + p.2.2)).toNat }) .none)

/-- R111, R173, R177, R320, R362, with the order of R310 and R311. `MBK <- k` is log entry 19, `MB.ac_pred <- 0` in
a macroblock without the flag log entry 27. That the reference is read whatever its `valid` is log entry 35. -/
def Obligations.CodedMacroblockOfAPOrSVopIsItsSyntax : Prop :=
  ∀ (k : Nat) (s : State), s.opened = true → k < s.mbCount → s.vop.pictureType = .p ∨ s.vop.pictureType = .s →
    (∀ s1 s2 : State, s.Reads .notCoded (.notCoded false) s1 → s1.Reads .mcbpcP .mcbpcP_stuff s2 →
      exec (.decodeMb k) s = exec (.decodeMb k) { s with bp := s.bp + 10 })
    ∧ (∀ h t : State, State.HeaderOfP { s with mbk := k } h → h.mb.mode = .intra ∨ h.mb.mode = .intraQ →
      RunsAll [.intraBlock 0, .intraBlock 1, .intraBlock 2, .intraBlock 3, .intraBlock 4, .intraBlock 5] h t →
      exec (.decodeMb k) s = exec (.mbiWrite k) t)
    ∧ (∀ (h v t : State) (p : Vector (Vector Byte 64) 6), State.HeaderOfP { s with mbk := k } h →
      h.mb.mode = .inter ∨ h.mb.mode = .interQ ∨ h.mb.mode = .inter4V → h.VectorsOfP k v →
      v.PredictedFrom k .refNew v.mb.mv (v.mb.mode = .inter4V) v.vop.roundingType p →
      RunsAll [.interBlock 0, .interBlock 1, .interBlock 2, .interBlock 3, .interBlock 4, .interBlock 5] { v with pred := p } t →
      exec (.decodeMb k) s = exec (.mbiWrite k) t)

/-- R470 ("leaves `BP` after its last successful read"), with R104, R140 and R461; the reads as R106, R107, R109 and
R212 list them; R463 causes 7, 12 and 13. That an instruction given alone is the reads of its encoding is log
entry 8, and one read for `SC` and `RESYNC` in a fetch log entry 14. -/
def Obligations.CutOffCodewordStopsAfterItsLastRead : Prop :=
  (∀ (t : Table) (i : Instr) (s : State), t ≠ .sc → t ≠ .resync → i.inTable t = true → isReserved i = false →
    (∀ n : Nat, 8 * s.bslen < s.bp + (encode i).length → ReadsTaken (readsOf i) (8 * s.bslen - s.bp) n →
        exec i s = .next { s with bp := s.bp + n, status := .failed .invalidData, result := .none })
    ∧ (t = .acIntra ∨ t = .acInter → isEscape i = false → s.bp + (encode i).length = 8 * s.bslen →
        exec i s = .next { s with bp := s.bp + (encode i).length, status := .failed .invalidData, result := .none }))
  ∧ (∀ (t : Table) (rest : List Request) (s : State), s.inq = .fetch t :: rest → (∀ f : Nat, t = .mvd f → 1 ≤ f ∧ f ≤ 7) →
    (∀ (i : Instr) (m n : Nat), i.inTable t = true → i.wf = true → isReserved i = false → m < (encode i).length →
        s.ahead = (encode i).take m → ReadsTaken (readsOf i) m n → s.FetchFails n)
    ∧ ((∀ i : Instr, i.inTable t = true → i.wf = true → ¬(encode i).take ((readsOf i).headD 0) <+: s.ahead) → s.FetchFails 0)
    ∧ (t = .traj → List.replicate 13 false <+: s.ahead → s.FetchFails 13)
    ∧ (∀ sel : AcSel, t = acTable sel →
        (escapeCode ++ [false] ++ escapeCode <+: s.ahead → s.FetchFails 15)
        ∧ (escapeCode ++ [true, false] ++ escapeCode <+: s.ahead → s.FetchFails 16)
        ∧ (∀ tail : List Bool, ¬escapeCode <+: tail → (∀ r ∈ sel.rows, ¬r.code <+: tail) →
            (s.ahead = escapeCode ++ [false] ++ tail → s.FetchFails 8)
            ∧ (s.ahead = escapeCode ++ [true, false] ++ tail → s.FetchFails 9))))

/-- R140, R141, R142, R143. -/
def Obligations.BitReaderReadsAllOrNothing : Prop :=
  ∀ (n : Fin 33) (s : State), s.opened = true →
    (s.bp + n.val ≤ 8 * s.bslen →
      exec (.readBits n) s = .next { s with bp := s.bp + n.val, status := .ok, result := .bits (some (s.bits s.bp n.val)) }
      ∧ Answers (.peekBits n) s (.bits (some (s.bits s.bp n.val)))
      ∧ exec (.skipBits n) s = .next { s with bp := s.bp + n.val, status := .ok, result := .done true })
    ∧ (8 * s.bslen < s.bp + n.val →
      Answers (.readBits n) s (.bits none) ∧ Answers (.peekBits n) s (.bits none) ∧ Answers (.skipBits n) s (.done false))
    ∧ Answers .byteAligned s (.flag (decide (s.bp % 8 = 0)))

/-- R11, R72: MSB-first bits and big-endian fields. -/
def Obligations.BitsAreMostSignificantFirst : Prop :=
  ∀ s : State,
    (∀ p a b : Nat, s.bits p (a + b) = s.bits p a * 2 ^ b + s.bits (p + a) b)
    ∧ (∀ p n : Nat, s.bits p n < 2 ^ n)
    ∧ (∀ a : Nat, s.bits (8 * a) 8 = (s.bs.read a).toNat)
    ∧ (∀ a : Nat, s.bits (8 * a) 16 = 256 * (s.bs.read a).toNat + (s.bs.read (a + 1)).toNat)
    ∧ (∀ p : Nat, s.bit p = (s.bs.read (p / 8)).toNat.testBit (7 - p % 8))

/-- R144, R145, R114. That `SC` given alone recognizes the code in place and moves no `BP` is the model's choice
(log entry 14). -/
def Obligations.StartCodeScanFindsTheFirst : Prop :=
  (∀ (data : List Byte) (code : Byte) (s : State), s.opened = true →
    ∃ r : Option Nat, Answers (.findStartCode data code) s (.offset r)
      ∧ ∀ v : Nat, r = some v ↔ 4 ≤ v ∧ StartCodeIn data (v - 4) code ∧ ∀ a, a < v - 4 → ¬StartCodeIn data a code)
  ∧ (∀ (data : List Byte) (lo hi : Byte) (s : State), s.opened = true →
    ∃ r : Option (Nat × Byte), Answers (.findStartCodeRange data lo hi) s (.offsetCode r)
      ∧ ∀ (v : Nat) (c : Byte), r = some (v, c) ↔
          4 ≤ v ∧ StartCodeIn data (v - 4) c ∧ lo.toNat ≤ c.toNat ∧ c.toNat ≤ hi.toNat
            ∧ ∀ (a : Nat) (d : Byte), a < v - 4 → lo.toNat ≤ d.toNat → d.toNat ≤ hi.toNat → ¬StartCodeIn data a d)
  ∧ (∀ (c : Byte) (s : State),
    Answers (.sc c) s (.offset
      (if s.bp % 8 = 0 ∧ s.bp / 8 + 4 ≤ s.bslen ∧ s.bs.read (s.bp / 8) = 0#8 ∧ s.bs.read (s.bp / 8 + 1) = 0#8
          ∧ s.bs.read (s.bp / 8 + 2) = 1#8 ∧ s.bs.read (s.bp / 8 + 3) = c
        then some (s.bp / 8 + 4) else none)))

/-- R146, R115. What `RESYNC` given alone answers is the model's choice (log entry 14). -/
def Obligations.ResyncDetectorMatchesThePattern : Prop :=
  (∀ (p : Nat) (f : Fin 8) (s : State), s.opened = true →
    ∃ b : Bool, Answers (.resyncDetect p f) s (.flag b) ∧ (b = true ↔ s.ResyncAt p f.val))
  ∧ (∀ (k f : Fin 8) (s : State),
    ∃ b : Bool, Answers (.resync k f) s (.flag b) ∧ (b = true ↔ k.val = 7 - s.bp % 8 ∧ s.ResyncAt s.bp f.val))

/-- R241, R242, R243, and R240 for what they apply to. -/
def Obligations.DequantH263 : Prop :=
  ∀ (intra : Bool) (s : State), s.opened = true → s.vol.quantType = .h263 →
    exec (.dequant intra) s = .next { s with
      coef := Vector.ofFn (fun i : Fin 64 =>
        if intra = true ∧ i.val = 0 then s.coef[i]
        else if s.qf[i] = 0 then 0
        else if intra = true then saturated s.params (2 * (s.qp : Int) * s.qf[i])
        else
          let a : Int := if s.qp % 2 = 1 then (s.qp : Int) else (s.qp : Int) - 1
          saturated s.params (2 * (s.qp : Int) * s.qf[i] + (if 0 < s.qf[i] then a else -a)))
      status := .ok
      result := .none }

/-- R240, R244, R245, R247. -/
def Obligations.DequantMpegWithMismatch : Prop :=
  (∀ s : State, s.opened = true → s.vol.quantType = .mpeg →
    exec (.dequant true) s = .next { s with
      coef := Vector.ofFn (fun i : Fin 64 =>
        if i.val = 0 then s.coef[i]
        else if s.qf[i] = 0 then 0
        else
          let p : Int := s.qf[i] * s.qp * s.qmIntra[i]
          saturated s.params (match s.params.mpegIntraShift with
            | .floor => p.fdiv 16
            | .towardZero => p.tdiv 16))
      status := .ok
      result := .none })
  ∧ (∀ s : State, s.opened = true → s.vol.quantType = .mpeg →
    ∃ f : Vector Int 64,
      exec (.dequant false) s = .next { s with coef := f, status := .ok, result := .none }
      ∧ f.toList.sum % 2 = 1
      ∧ ∀ i : Fin 64,
          let m : Int := ((2 * (s.qf[i].natAbs : Int) + 1) * s.qmInter[i] * s.qp) / 16
          let x : Int := if s.qf[i] = 0 then 0 else if 0 < s.qf[i] then min m 2047 else -(min m 2048)
          (i.val < 63 → f[i] = x) ∧ (i.val = 63 → f[i] = x ∨ (x % 2 = 0 ∧ f[i] = x + 1) ∨ (x % 2 = 1 ∧ f[i] = x - 1)))
  ∧ (∀ s : State, s.opened = true →
    (s.coef.toList.sum % 2 = 1 → Answers .mismatch s .none)
    ∧ (s.coef.toList.sum % 2 = 0 →
        exec .mismatch s = .next { s with
          coef := s.coef.set 63 (if s.coef[63] % 2 = 0 then s.coef[63] + 1 else s.coef[63] - 1)
          status := .ok
          result := .none }))

/-- R260 and R262; the second clause is R264. -/
def Obligations.IdctIsTheMatrixProduct : Prop :=
  ∀ s : State, s.opened = true →
    let t := fun (r n : Fin 8) => (((List.finRange 8).map (fun k => idctMatrix[k][n] * s.coef[at8 r k])).sum + 2 ^ 10) / 2 ^ 11
    ∃ f : Vector Int 64,
      exec .idct s = .next { s with residual := f, status := .ok, result := .none }
      ∧ (∀ n c : Fin 8,
          f[at8 n c] = (((List.finRange 8).map (fun k => idctMatrix[k][n] * t k c)).sum + 2 ^ 19) / 2 ^ 20)
      ∧ ((∀ i : Fin 64, i.val ≠ 0 → s.coef[i] = 0) → ∀ i : Fin 64, f[i] = (s.coef[0] + 4) / 8)

/-- R283 and R284: the neighbours as offsets of the macroblock index. -/
def Obligations.IntraNeighbourTable : Prop :=
  ∀ (s : State) (k : Nat), k < s.mbCount →
    let far : Neighbour := ⟨⟨1024, Vector.replicate 7 0, Vector.replicate 7 0⟩, s.qp⟩
    let info := fun m => s.mbi.getD m MbInfo.reset
    let other := fun (inside : Prop) [Decidable inside] (m i : Nat) =>
      if inside ∧ ((info m).mode = .intra ∨ (info m).mode = .intraQ)
      then (⟨s.pc.getD (6 * m + i) PcSlot.zero, (info m).quant⟩ : Neighbour) else far
    let own := fun i => (⟨s.pc.getD (6 * k + i) PcSlot.zero, s.qp⟩ : Neighbour)
    let left := other (k % s.mbw ≠ 0) (k - 1)
    let above := other (s.mbw ≤ k) (k - s.mbw)
    let aboveLeft := other (k % s.mbw ≠ 0 ∧ s.mbw ≤ k) (k - s.mbw - 1)
    s.intraNeighbours k 0 = (left 1, aboveLeft 3, above 2)
    ∧ s.intraNeighbours k 1 = (own 0, above 2, above 3)
    ∧ s.intraNeighbours k 2 = (left 3, left 1, own 0)
    ∧ s.intraNeighbours k 3 = (own 2, own 0, own 1)
    ∧ s.intraNeighbours k 4 = (left 4, aboveLeft 4, above 4)
    ∧ s.intraNeighbours k 5 = (left 5, aboveLeft 5, above 5)

/-- R285. -/
def Obligations.DcPredictChoosesDirection : Prop :=
  ∀ (b : Fin 6) (s : State), s.opened = true → s.mbk < s.mbCount →
    let n := s.intraNeighbours s.mbk b
    let a := n.1.slot.dc
    let bb := n.2.1.slot.dc
    let c := n.2.2.slot.dc
    ((a - bb).natAbs < (bb - c).natAbs → Answers (.dcPredict b) s (.prediction .vertical c n.2.2.slot))
    ∧ ((bb - c).natAbs ≤ (a - bb).natAbs → Answers (.dcPredict b) s (.prediction .horizontal a n.1.slot))

/-- R286 with the table of R282. -/
def Obligations.DcReconScalesAndClamps : Prop :=
  ∀ (b : Fin 6) (diff pr : Int) (s : State), s.opened = true → 1 ≤ s.qp → s.qp ≤ 31 →
    ∃ (scale : Nat) (q : Int),
      IsDcScale (decide (b.val < 4)) s.qp scale ∧ NearestQuotient pr scale q
      ∧ exec (.dcRecon b diff pr) s = .next { s with
          qf := s.qf.set 0 (within (-2048) 2047 (diff + q))
          coef := s.coef.set 0 (within (-2048) 2047 (within (-2048) 2047 (diff + q) * scale))
          status := .ok
          result := .none }

/-- R287. -/
def Obligations.AcPredictAddsRowOrColumn : Prop :=
  ∀ (b : Fin 6) (s : State), s.opened = true → s.mbk < s.mbCount → 1 ≤ s.qp →
    (s.mb.acPred = false → Answers (.acPredict b) s .none)
    ∧ (s.mb.acPred = true →
      let p := s.dcPredict s.mbk b
      ∃ q : Vector Int 64,
        exec (.acPredict b) s = .next { s with qf := q, status := .ok, result := .none }
        ∧ (p.dir = .vertical →
            (∀ j : Fin 7, ∃ r, Rescaled p.nb.slot.row[j] p.nb.quant s.qp r
              ∧ q[j.val + 1]'(by omega) = within (-2048) 2047 (s.qf[j.val + 1]'(by omega) + r))
            ∧ ∀ i : Fin 64, i.val = 0 ∨ 8 ≤ i.val → q[i] = s.qf[i])
        ∧ (p.dir = .horizontal →
            (∀ j : Fin 7, ∃ r, Rescaled p.nb.slot.col[j] p.nb.quant s.qp r
              ∧ q[8 * (j.val + 1)]'(by omega) = within (-2048) 2047 (s.qf[8 * (j.val + 1)]'(by omega) + r))
            ∧ ∀ i : Fin 64, i.val = 0 ∨ i.val % 8 ≠ 0 → q[i] = s.qf[i]))

/-- R288, the slot index as in R30. Which other instructions can write `PC` is `WhoMayWriteWhat`. -/
def Obligations.PcUpdateWritesItsOwnSlot : Prop :=
  ∀ (b : Fin 6) (s : State), s.opened = true → s.mbk < s.mbCount → s.pc.length = 6 * s.mbCount →
    ∃ pc : List PcSlot,
      exec (.pcUpdate b) s = .next { s with pc := pc, status := .ok, result := .none }
      ∧ (∃ slot : PcSlot, pc[6 * s.mbk + b.val]? = some slot ∧ slot.dc = s.coef[0]
          ∧ ∀ j : Fin 7, slot.row[j] = s.qf[j.val + 1]'(by omega) ∧ slot.col[j] = s.qf[8 * (j.val + 1)]'(by omega))
      ∧ pc.length = s.pc.length
      ∧ ∀ j : Nat, j ≠ 6 * s.mbk + b.val → pc[j]? = s.pc[j]?

/-- R290, R322. That no macroblock of a B VOP counts as intra is the model's reading (log entry 16). -/
def Obligations.ScanSelectAndRecon : Prop :=
  (∀ (dir : Direction) (s : State), s.opened = true →
    Answers (.scanSelect dir) s (.scan
      (if s.vop.pictureType ≠ .b ∧ (s.mb.mode = .intra ∨ s.mb.mode = .intraQ) ∧ s.mb.acPred = true
        then (if dir = .vertical then .altH else .altV) else .zigzag)))
  ∧ (∀ (p : Byte) (f : Int) (s : State), s.opened = true →
    ∃ v : Byte, Answers (.recon p f) s (.sample v) ∧ (v.toNat : Int) = within 0 255 (p.toNat + f))

/-- R216, one turn of the loop from a given position; R212 with R104, R461 and R470 for the event it reads, which is
the codeword that `decode` finds at `BP`. -/
def Obligations.AcLoopPlacesEventsAndStops : Prop :=
  (∀ (t : AcSel) (scan : Scan) (start : Nat) (s u : State), acEvent t s = .ok () u →
    (∀ h : start + u.ev.run < 64,
      let placed : State := { u with qf := u.qf.set (scan.table[start + u.ev.run]).val u.ev.level }
      (u.ev.last = true → decodeAc t start scan s = .ok () placed)
      ∧ (u.ev.last = false → decodeAc t start scan s = decodeAc t (start + u.ev.run + 1) scan placed))
    ∧ (63 < start + u.ev.run → decodeAc t start scan s = .error .invalidData u))
  ∧ (∀ (t : AcSel) (scan : Scan) (start : Nat) (s u : State) (e : Kind), acEvent t s = .error e u → decodeAc t start scan s = .error e u)
  ∧ ∀ (t : AcSel) (s : State), s.ReadBy (acTable t) (acEvent t) (fun _ => .none)

/-- R314 with R281: all four ways the bits of an intra block can stand; R202 for the DC code, and R463 cause 12 with
R470 where a read fails. -/
def Obligations.IntraBlockReconstructs : Prop :=
  ∀ (b : Fin 6) (s : State), s.opened = true → s.mbk < s.mbCount →
    let p := s.dcPredict s.mbk b
    let scan := s.scanSelect p.dir
    let coded := s.mb.cbp.toNat.testBit (5 - b.val) = true
    let vlc := ∃ thr : Fin 8, thr.val = s.vop.intraDcVlcThr ∧ s.qp < dcThreshold[thr]
    let cleared : State := { s with qf := Vector.replicate 64 0 }
    let rebuilt := fun (diff : Int) (u : State) =>
      let w := (((((u.dcRecon b diff p.pr).acPredict p.dir p.nb).pcUpdate s.mbk b).dequant true).idct)
      ∃ cur : FrameStore,
        exec (.intraBlock b) s = .next { u with
          qf := w.qf
          coef := w.coef
          residual := w.residual
          pc := w.pc
          cur := cur
          status := .ok
          result := .none }
        ∧ s.BlockWritten s.mbk b (Vector.ofFn (fun i : Fin 64 => BitVec.ofInt 8 (within 0 255 w.residual[i]))) cur
    let raised := fun (e : Kind) (u : State) =>
      exec (.intraBlock b) s = .next { u with status := .failed e, result := .none }
        ∧ u = { s with bp := u.bp, ev := u.ev, qf := u.qf }
    (∀ u : State, u.ReadBy (if b.val < 4 then .dcszL else .dcszC) (dcDiff b) Result.int)
    ∧ (¬vlc → ¬coded → rebuilt 0 cleared)
    ∧ (∀ u : State, ¬vlc → coded → decodeAc .intra 0 scan cleared = .ok () u → rebuilt u.qf[0] u)
    ∧ (∀ (d : Int) (u : State), vlc → ¬coded → dcDiff b cleared = .ok d u → rebuilt d u)
    ∧ (∀ (d : Int) (t u : State), vlc → coded → dcDiff b cleared = .ok d t → decodeAc .intra 1 scan t = .ok () u → rebuilt d u)
    ∧ (∀ (e : Kind) (u : State), ¬vlc → coded → decodeAc .intra 0 scan cleared = .error e u → raised e u)
    ∧ (∀ (e : Kind) (u : State), vlc → dcDiff b cleared = .error e u → raised e u)
    ∧ (∀ (d : Int) (e : Kind) (t u : State), vlc → coded → dcDiff b cleared = .ok d t → decodeAc .intra 1 scan t = .error e u → raised e u)

/-- R315, and R463 cause 12 with R470 where a read fails. -/
def Obligations.InterBlockWritesPredictionAndResidual : Prop :=
  ∀ (b : Fin 6) (s : State), s.opened = true → s.mbk < s.mbCount →
    (s.mb.cbp.toNat.testBit (5 - b.val) = false →
      ∃ cur : FrameStore, exec (.interBlock b) s = .next { s with cur := cur, status := .ok, result := .none }
        ∧ s.BlockWritten s.mbk b s.pred[b] cur)
    ∧ (∀ u : State, s.mb.cbp.toNat.testBit (5 - b.val) = true →
      decodeAc .inter 0 .zigzag { s with qf := Vector.replicate 64 0 } = .ok () u →
      let w := (u.dequant false).idct
      ∃ cur : FrameStore,
        exec (.interBlock b) s = .next { u with coef := w.coef, residual := w.residual, cur := cur, status := .ok, result := .none }
        ∧ s.BlockWritten s.mbk b
            (Vector.ofFn (fun i : Fin 64 => BitVec.ofInt 8 (within 0 255 ((s.pred[b][i].toNat : Int) + w.residual[i])))) cur)
    ∧ (∀ (e : Kind) (u : State), s.mb.cbp.toNat.testBit (5 - b.val) = true →
      decodeAc .inter 0 .zigzag { s with qf := Vector.replicate 64 0 } = .error e u →
      exec (.interBlock b) s = .next { u with status := .failed e, result := .none } ∧ u = { s with bp := u.bp, ev := u.ev, qf := u.qf })

/-- R318, R324. That `COPY_MB` given alone copies from a store with `valid` 0 as well is the model's choice, log
entry 35, and so is that the store may be `CUR`, log entry 37. -/
def Obligations.CopyMbAndMbiWrite : Prop :=
  ∀ (k : Nat) (s : State), s.opened = true → k < s.mbCount →
    (∀ src : StoreSel, ∃ cur : FrameStore,
      exec (.copyMb k src) s = .next { s with cur := cur, status := .ok, result := .none }
      ∧ (∀ x y : Nat, x < 16 → y < 16 →
          let a := (16 * (k / s.mbw) + y) * (16 * s.mbw) + (16 * (k % s.mbw) + x)
          cur.y.read a = (s.store src).y.read a)
      ∧ (∀ x y : Nat, x < 8 → y < 8 →
          let a := (8 * (k / s.mbw) + y) * (8 * s.mbw) + (8 * (k % s.mbw) + x)
          cur.u.read a = (s.store src).u.read a ∧ cur.v.read a = (s.store src).v.read a)
      ∧ (∀ (p : Plane) (a : Nat), ¬s.OwnSample k p a → (cur.plane p).read a = (s.cur.plane p).read a)
      ∧ cur.valid = s.cur.valid ∧ cur.info = s.cur.info)
    ∧ (s.vop.pictureType ≠ .b →
      exec (.mbiWrite k) s = .next { s with
        mbi := s.mbi.set k ⟨s.mb.mode, s.qp,
          if s.mb.mode = .inter ∨ s.mb.mode = .interQ ∨ s.mb.mode = .inter4V then s.mb.mv else Vector.replicate 4 MV.zero⟩
        status := .ok
        result := .none })
    ∧ (s.vop.pictureType = .b → Answers (.mbiWrite k) s .none)

/-- R342 with R341, and R347. Where `dx = dy = 0` the formula is the reference sample itself. That these operations
given alone do not look at `valid` is the model's choice, log entry 35, and so is that they read `CUR` where it
is named (R70 and R341 speak of the reference stores only), log entry 37. -/
def Obligations.MotionCompensationInterpolates : Prop :=
  ∀ (src : StoreSel) (x0 y0 : Int) (v : MV) (r : Bool) (s : State), s.opened = true → 0 < s.mbCount →
    (∃ out : Vector Byte 64, Answers (.mcLuma src x0 y0 v r) s (.samples out)
      ∧ ∀ i : Fin 64, (out[i].toNat : Int) =
          mcSample (s.store src).y (16 * s.mbw) (16 * s.mbh) (x0 + (i.val % 8 : Nat)) (y0 + (i.val / 8 : Nat))
            (if s.vol.quarterpel = true then v.x else 2 * v.x) (if s.vol.quarterpel = true then v.y else 2 * v.y) r)
    ∧ (∀ c : ChromaSel, ∃ out : Vector Byte 64, Answers (.mcChroma src c x0 y0 v r) s (.samples out)
      ∧ ∀ i : Fin 64, (out[i].toNat : Int) =
          mcSample ((s.store src).plane (chromaPlane c)) (8 * s.mbw) (8 * s.mbh) (x0 + (i.val % 8 : Nat)) (y0 + (i.val / 8 : Nat))
            (2 * v.x) (2 * v.y) r)

/-- R345 (in the form "`(h >> 1) + [0, 1, 0, 0][h mod 4]`") and R346. -/
def Obligations.ChromaVectorsRoundAsTheTables : Prop :=
  ∀ s : State, s.opened = true →
    let half := fun (c : Int) => if s.vol.quarterpel = true then c.tdiv 2 else c
    let one := fun (c : Int) => half c / 2 + (if half c % 4 = 1 then 1 else 0)
    let four := fun (t : Int) => 2 * (t / 16) + (if t % 16 ≤ 2 then 0 else if t % 16 ≤ 13 then 1 else 2)
    (∀ v : MV, Answers (.chromaMv_1 v) s (.vector ⟨one v.x, one v.y⟩))
    ∧ (∀ v0 v1 v2 v3 : MV, Answers (.chromaMv_4 v0 v1 v2 v3) s (.vector
        ⟨four (half v0.x + half v1.x + half v2.x + half v3.x), four (half v0.y + half v1.y + half v2.y + half v3.y)⟩))

/-- R438; LOAD_VOP as R425 says; R361 with R470 for a trajectory that fails part-way; R362. -/
def Obligations.HeaderParseOperations : Prop :=
  ∀ s : State, s.opened = true →
    (∀ p : Nat, p ≤ 8 * s.bslen → exec (.setBp p) s = .next { s with bp := p, status := .ok, result := .none })
    ∧ (∀ p : Nat, 8 * s.bslen < p → Refuses (.setBp p) s .invalidData)
    ∧ (∀ h : VopHeader, exec (.loadVop h) s = .next { s with vop := h, status := .ok, result := .none })
    ∧ (∀ (vals : List Int) (n : Nat), s.vol.warpPoints ≤ 3 → vals.length = 2 * s.vol.warpPoints → TrajectoryRead vals s n →
      exec .spriteTrajectory s = .next { s with
        bp := s.bp + n
        gmc := { s.gmc with
          du := Vector.ofFn (fun i : Fin 3 => vals.getD (2 * i.val) 0)
          dv := Vector.ofFn (fun i : Fin 3 => vals.getD (2 * i.val + 1) 0) }
        status := .ok
        result := .none })
    ∧ (∀ (vals : List Int) (n : Nat) (e : Reject) (c : Cursor), s.vol.warpPoints ≤ 3 → vals.length < 2 * s.vol.warpPoints →
      TrajectoryRead vals s n → parseTraj ⟨({ s with bp := s.bp + n } : State).ahead, 0⟩ = .error e c →
      exec .spriteTrajectory s = .next { s with
        bp := s.bp + n + c.used
        gmc := { s.gmc with
          du := Vector.ofFn (fun i : Fin 3 => vals.getD (2 * i.val) s.gmc.du[i])
          dv := Vector.ofFn (fun i : Fin 3 => vals.getD (2 * i.val + 1) s.gmc.dv[i]) }
        status := .failed .invalidData
        result := .none })
    ∧ exec .gmcSetup s = .next { s with
        gmc := { s.gmc with gmv :=
          if s.vol.warpPoints = 0 then ⟨0, 0⟩
          else if s.vol.quarterpel = true then ⟨2 * s.gmc.du[0], 2 * s.gmc.dv[0]⟩ else ⟨s.gmc.du[0], s.gmc.dv[0]⟩ }
        status := .ok
        result := .none }

/-- R400. -/
def Obligations.DirectModeVectors : Prop :=
  ∀ (k : Nat) (delta : MV) (s : State), s.opened = true → k < s.mbCount → 0 < s.vop.trd →
    let co := (s.refmv.getD k MbInfo.reset).mv
    let fwd := fun (c d : Int) => (s.vop.trb * c).tdiv s.vop.trd + d
    let bwd := fun (c d : Int) => if d = 0 then ((s.vop.trb - s.vop.trd) * c).tdiv s.vop.trd else fwd c d - c
    exec (.directMv k delta) s = .next { s with
      mb := { s.mb with
        mv := Vector.ofFn (fun b : Fin 4 => (⟨fwd co[b].x delta.x, fwd co[b].y delta.y⟩ : MV))
        mvb := Vector.ofFn (fun b : Fin 4 => (⟨bwd co[b].x delta.x, bwd co[b].y delta.y⟩ : MV)) }
      status := .ok
      result := .none }

/-- R178, R177, R176; R175 for the delta, which is the `MVD` codeword that `decode` finds at `BP`; R470 where it is
none. -/
def Obligations.MotionVectorPredictorIsTheMedian : Prop :=
  (∀ (s : State) (k : Nat), k < s.mbCount →
    let entry := fun (inside : Prop) [Decidable inside] (m : Nat) (i : Fin 4) =>
      if inside then some (s.mbi.getD m MbInfo.reset).mv[i] else none
    let left := entry (k % s.mbw ≠ 0) (k - 1)
    let above := entry (s.mbw ≤ k) (k - s.mbw)
    let aboveRight := entry (s.mbw ≤ k ∧ k % s.mbw + 1 < s.mbw) (k - s.mbw + 1)
    let pick := fun (a b c : Option MV) =>
      match a, b, c with
      | some a, none, none => a
      | none, some b, none => b
      | none, none, some c => c
      | a, b, c =>
        (⟨middle (a.getD MV.zero).x (b.getD MV.zero).x (c.getD MV.zero).x,
          middle (a.getD MV.zero).y (b.getD MV.zero).y (c.getD MV.zero).y⟩ : MV)
    s.mvPredictor k 0 = pick (left 1) (above 2) (aboveRight 2)
    ∧ s.mvPredictor k 1 = pick (some s.mb.mv[0]) (above 3) (aboveRight 2)
    ∧ s.mvPredictor k 2 = pick (left 3) (some s.mb.mv[0]) (some s.mb.mv[1])
    ∧ s.mvPredictor k 3 = pick (some s.mb.mv[2]) (some s.mb.mv[0]) (some s.mb.mv[1]))
  ∧ (∀ (k : Nat) (b : Fin 4) (s t u : State) (dx dy : Int),
    decodeDelta s.vop.fcodeFwd s = .ok dx t → decodeDelta s.vop.fcodeFwd t = .ok dy u →
    decodeMv k b s = .ok ⟨wrapMv ((s.mvPredictor k b).x + dx) s.vop.fcodeFwd, wrapMv ((s.mvPredictor k b).y + dy) s.vop.fcodeFwd⟩ u)
  ∧ (∀ (k : Nat) (b : Fin 4) (s u : State) (e : Kind), decodeDelta s.vop.fcodeFwd s = .error e u → decodeMv k b s = .error e u)
  ∧ (∀ (k : Nat) (b : Fin 4) (s t u : State) (dx : Int) (e : Kind),
    decodeDelta s.vop.fcodeFwd s = .ok dx t → decodeDelta s.vop.fcodeFwd t = .error e u → decodeMv k b s = .error e u)
  ∧ (∀ (f : Nat) (s : State), s.ReadBy (.mvd f) (decodeDelta f) Result.int)
  ∧ (∀ (f : Nat) (v : Int), -(2 ^ (f + 5)) ≤ v → v ≤ 2 ^ (f + 5) →
    -(2 ^ (f + 4)) ≤ wrapMv v f ∧ wrapMv v f ≤ 2 ^ (f + 4) - 1 ∧ (wrapMv v f - v) % 2 ^ (f + 5) = 0)

/-- R310, R111, R170, R318. `MBK <- k` is log entry 19 and `MB.ac_pred <- 0` log entry 27. That the reference is
read whatever its `valid` is log entry 35. -/
def Obligations.DecodeMbNotCodedCopies : Prop :=
  ∀ (k : Nat) (s : State), s.opened = true → k < s.mbCount → s.vop.pictureType = .p ∨ s.vop.pictureType = .s →
    s.bp < 8 * s.bslen → s.bit s.bp = true →
    ∃ cur : FrameStore,
      exec (.decodeMb k) s = .next { s with
        bp := s.bp + 1
        mbk := k
        mb := { s.mb with mode := .notCoded, acPred := false }
        mbi := s.mbi.set k ⟨.notCoded, s.qp, Vector.replicate 4 MV.zero⟩
        cur := cur
        status := .ok
        result := .none }
      ∧ (∀ (p : Plane) (a : Nat), s.OwnSample k p a → (cur.plane p).read a = (s.refNew.plane p).read a)
      ∧ (∀ (p : Plane) (a : Nat), ¬s.OwnSample k p a → (cur.plane p).read a = (s.cur.plane p).read a)
      ∧ cur.valid = s.cur.valid ∧ cur.info = s.cur.info

/-- R112, R185, R326. That a skipped macroblock is predicted and written is log entry 18, `MBK <- k` log entry 19,
and `MB.ac_pred <- 0` log entry 27. That the reference is read whatever its `valid` is log entry 35. -/
def Obligations.DecodeMbSkippedInBCopiesForward : Prop :=
  ∀ (k : Nat) (s : State), s.opened = true → k < s.mbCount → s.vop.pictureType = .b → (s.refmv.getD k MbInfo.reset).mode = .notCoded →
    ∃ (cur : FrameStore) (pred : Vector (Vector Byte 64) 6),
      exec (.decodeMb k) s = .next { s with
        mbk := k
        pmvF := if k % s.mbw = 0 then MV.zero else s.pmvF
        pmvB := if k % s.mbw = 0 then MV.zero else s.pmvB
        mb := { s.mb with btype := .forward, mv := Vector.replicate 4 MV.zero, cbp := 0#6, acPred := false }
        pred := pred
        cur := cur
        status := .ok
        result := .none }
      ∧ (∀ (p : Plane) (a : Nat), s.OwnSample k p a → (cur.plane p).read a = (s.refOld.plane p).read a)
      ∧ (∀ (p : Plane) (a : Nat), ¬s.OwnSample k p a → (cur.plane p).read a = (s.cur.plane p).read a)
      ∧ cur.valid = s.cur.valid ∧ cur.info = s.cur.info

/-- R310 ("`decode_mb` itself never lets an error out of a P, S or B VOP"), R472, R476, and R463 cause 12 for what
raises: bits that are not the syntax of R110 to R112. `MBK <- k` is log entry 19, `MB.ac_pred <- 0` log entry
27. That the reference is read whatever its `valid` is log entry 35. -/
def Obligations.DecodeMbContainsItsFailure : Prop :=
  ∀ (k : Nat) (s : State), s.opened = true → k < s.mbCount →
    ∃ t : State, exec (.decodeMb k) s = .next t
      ∧ (s.vop.pictureType ≠ .i → t.status = .ok ∧ t.result = .none)
      ∧ (∀ (e : Kind) (u : State), s.vop.pictureType ≠ .i → decodeMb k { s with mbk := k } = .error e u →
          t.fail = true ∧ (∀ (p : Plane) (a : Nat), s.OwnSample k p a → (t.cur.plane p).read a = (s.refNew.plane p).read a)
          ∧ (s.vop.pictureType ≠ .b → t.mbi = u.mbi.set k ⟨.notCoded, u.qp, Vector.replicate 4 MV.zero⟩))
      ∧ (s.vop.pictureType = .i → (t.status = .ok ∧ t.result = .none) ∨ (t.status = .failed .invalidData ∧ t.fail = true))
      ∧ (¬State.SyntaxOf { s with mbk := k } k →
          t.fail = true ∧ (s.vop.pictureType = .i → t.status = .failed .invalidData)
          ∧ (s.vop.pictureType ≠ .i → ∀ (p : Plane) (a : Nat), s.OwnSample k p a → (t.cur.plane p).read a = (s.refNew.plane p).read a)
          ∧ (s.vop.pictureType = .p ∨ s.vop.pictureType = .s → t.mbi = s.mbi.set k ⟨.notCoded, t.qp, Vector.replicate 4 MV.zero⟩))

/-- R110, with the order of R311 and R310. `MBK <- k` is log entry 19. -/
def Obligations.IntraMacroblockIsItsCodewordsThenItsBlocks : Prop :=
  ∀ (k : Nat) (s : State), s.opened = true → k < s.mbCount → s.vop.pictureType = .i →
    (∀ n : Nat, decode .mcbpcI s.ahead = .ok .mcbpcI_stuff n → exec (.decodeMb k) s = exec (.decodeMb k) { s with bp := s.bp + 9 })
    ∧ (∀ (m a y q : Instr) (s1 s2 s3 s4 b0 b1 b2 b3 b4 b5 : State),
        State.Reads { s with mbk := k } .mcbpcI m s1 → m ≠ .mcbpcI_stuff → s1.Reads .acPred a s2 → s2.Reads .cbpy y s3 →
        (s3.mb.mode = .intraQ → s3.Reads .dquant q s4) → (s3.mb.mode ≠ .intraQ → s4 = s3) →
        s4.Runs (.intraBlock 0) b0 → b0.Runs (.intraBlock 1) b1 → b1.Runs (.intraBlock 2) b2 → b2.Runs (.intraBlock 3) b3 →
        b3.Runs (.intraBlock 4) b4 → b4.Runs (.intraBlock 5) b5 →
        exec (.decodeMb k) s = exec (.mbiWrite k) b5)

/-- R328 ("It writes only its own 16x16 luma and two 8x8 chroma areas of `CUR`"), with R288 and R324 for the files. -/
def Obligations.MacroblockWritesOnlyItsOwnArea : Prop :=
  ∀ (k : Nat) (s t : State), s.opened = true → k < s.mbCount → exec (.decodeMb k) s = .next t →
    (∀ (p : Plane) (a : Nat), ¬s.OwnSample k p a → (t.cur.plane p).read a = (s.cur.plane p).read a)
    ∧ t.cur.valid = s.cur.valid ∧ t.cur.info = s.cur.info
    ∧ (∀ j : Nat, j ≠ k → t.mbi[j]? = s.mbi[j]?)
    ∧ (∀ j : Nat, j / 6 ≠ k → t.pc[j]? = s.pc[j]?)
    ∧ t.bs = s.bs ∧ t.bslen = s.bslen ∧ t.vol = s.vol ∧ t.vop = s.vop ∧ t.qmIntra = s.qmIntra ∧ t.qmInter = s.qmInter
    ∧ t.prevQuant = s.prevQuant ∧ t.refmv = s.refmv ∧ t.refmvValid = s.refmvValid ∧ t.gmc = s.gmc
    ∧ t.refNew = s.refNew ∧ t.refOld = s.refOld ∧ t.rob = s.rob ∧ t.robSeq = s.robSeq ∧ t.outq = s.outq
    ∧ t.opened = s.opened ∧ t.flushing = s.flushing ∧ t.waitKeyframe = s.waitKeyframe ∧ t.params = s.params ∧ t.inq = s.inq

/-- R462 and R22, R24, R383, R473, R474, with R466, R26 and R463 cause 11, in the order of R469. -/
def Obligations.DecodeVopChecksComeFirst : Prop :=
  ∀ s : State, s.opened = true →
    (s.vol.valid = false → Refuses .decodeVop s .invalidData)
    ∧ (s.vol.valid = true → s.RefusedTool → Refuses .decodeVop s .unsupported)
    ∧ (s.vol.valid = true → ¬s.RefusedTool → s.IllegalVop → Refuses .decodeVop s .invalidData)
    ∧ (s.vol.valid = true → ¬s.RefusedTool → ¬s.IllegalVop → s.PassedOver → Answers .decodeVop s .none)
    ∧ (s.vol.valid = true → ¬s.RefusedTool → ¬s.IllegalVop → ¬s.PassedOver → s.vop.quant = 0 → s.prevQuant = 0 →
        Refuses .decodeVop s .invalidData)
    ∧ (s.vol.valid = true → ¬s.RefusedTool → ¬s.IllegalVop → ¬s.PassedOver → s.vop.quant ≠ 0 ∨ s.prevQuant ≠ 0 →
        8 * s.bslen < s.vop.mbStart → Refuses .decodeVop s .invalidData)

/-- R380 with R472 (no macroblock failure ends a P, S or B VOP), R385 to R387, R26, R362. That `CUR` is not valid
while the macroblocks run is log entry 20. -/
def Obligations.PredictedVopAlwaysCompletes : Prop :=
  ∀ s : State, s.opened = true → s.VopReady → s.vop.pictureType ≠ .i →
    ∃ b u t : State, s.VopBegins b ∧ MacroblocksDone (List.range s.mbCount) b u
      ∧ exec .decodeVop s =
          exec (if s.vop.pictureType = .b then .completeB else .completeRef) { u with cur := { u.cur with valid := true } }
      ∧ exec .decodeVop s = .next t ∧ t.status = .ok ∧ t.result = .none
      ∧ t.cur.valid = true ∧ t.cur.info = s.vopInfo
      ∧ t.prevQuant = (if s.vop.quant ≠ 0 then s.vop.quant else s.prevQuant)
      ∧ t.robSeq = s.robSeq + 1 ∧ t.rob.length + t.outq.length = s.rob.length + s.outq.length + 1
      ∧ t.waitKeyframe = s.waitKeyframe
      ∧ (s.vop.pictureType ≠ .b → t.refNew = t.cur ∧ t.refOld = s.refNew ∧ t.refmv = t.mbi ∧ t.refmvValid = true)
      ∧ (s.vop.pictureType = .b →
          t.refNew = s.refNew ∧ t.refOld = s.refOld ∧ t.refmv = s.refmv ∧ t.refmvValid = s.refmvValid)
      ∧ t.vol = s.vol ∧ t.vop = s.vop ∧ t.qmIntra = s.qmIntra ∧ t.qmInter = s.qmInter ∧ t.bs = s.bs ∧ t.bslen = s.bslen
      ∧ t.opened = s.opened ∧ t.flushing = s.flushing ∧ t.params = s.params

/-- R380, R385, R476, R26. That `CUR` is not valid while the macroblocks run, and so after a failure, is log entry
20. -/
def Obligations.IntraVopInstallsOrLeavesReferences : Prop :=
  ∀ s : State, s.opened = true → s.VopReady → s.vop.pictureType = .i →
    ∃ b t : State, s.VopBegins b ∧ exec .decodeVop s = .next t
      ∧ ((∃ u : State, MacroblocksDone (List.range s.mbCount) b u
            ∧ exec .decodeVop s = exec .completeRef { u with cur := { u.cur with valid := true } }
            ∧ t.status = .ok ∧ t.cur.valid = true ∧ t.cur.info = s.vopInfo ∧ t.refNew = t.cur ∧ t.refOld = s.refNew ∧ t.refmv = t.mbi
            ∧ t.refmvValid = true ∧ t.waitKeyframe = false ∧ t.robSeq = s.robSeq + 1)
        ∨ (∃ (k : Nat) (u : State), k < s.mbCount ∧ MacroblocksDone (List.range k) b u
            ∧ exec .decodeVop s = exec (.decodeMb k) u
            ∧ t.status = .failed .invalidData ∧ t.fail = true ∧ t.cur.valid = false ∧ t.refNew = s.refNew ∧ t.refOld = s.refOld
            ∧ t.refmv = s.refmv ∧ t.refmvValid = s.refmvValid ∧ t.rob = s.rob ∧ t.outq = s.outq ∧ t.robSeq = s.robSeq
            ∧ t.waitKeyframe = s.waitKeyframe))

/-- R385, R386, R387. That a completion given alone installs and pushes a `CUR` with `valid` 0 as well is log entry
35. -/
def Obligations.CompletionMovesReferences : Prop :=
  ∀ s : State, s.opened = true →
    exec .completeRef s = exec (.push .cur) { s with
      refmv := s.mbi
      refmvValid := true
      refOld := s.refNew
      refNew := s.cur
      waitKeyframe := if s.vop.pictureType = .i then false else s.waitKeyframe }
    ∧ exec .completeB s = exec (.push .cur) s
    ∧ (∃ t : State, exec .completeRef s = .next t ∧ t.status = .ok ∧ t.refmv = s.mbi ∧ t.refmvValid = true ∧ t.refOld = s.refNew ∧ t.refNew = s.cur)
    ∧ (∃ t : State, exec .completeB s = .next t ∧ t.status = .ok ∧ t.refmv = s.refmv ∧ t.refmvValid = s.refmvValid ∧ t.refOld = s.refOld
        ∧ t.refNew = s.refNew ∧ t.waitKeyframe = s.waitKeyframe)

/-- R390, R33. That the frame is the whole store with the display size beside it, not a cropped copy, is log entry
31. That `PUSH` given alone pushes a store with `valid` 0 as well is log entry 35, that it pushes `REF_NEW` or
`REF_OLD` where one is named (R385 and R387 push `CUR`) log entry 37. -/
def Obligations.PushEvictsTheLowestPoc : Prop :=
  ∀ (src : StoreSel) (s : State), s.opened = true → s.rob.length ≤ s.params.reorderDepth →
    let slot : RobSlot := ⟨s.outputOf (s.store src), s.robSeq⟩
    (s.rob.length < s.params.reorderDepth →
      exec (.push src) s = .next { s with rob := s.rob ++ [slot], robSeq := s.robSeq + 1, status := .ok, result := .none })
    ∧ (s.rob.length = s.params.reorderDepth →
      ∃ (first : RobSlot) (others : List RobSlot),
        exec (.push src) s = .next { s with
          rob := others
          outq := s.outq ++ [first.frame]
          robSeq := s.robSeq + 1
          status := .ok
          result := .none }
        ∧ (first :: others).Perm (s.rob ++ [slot]) ∧ ∀ b ∈ others, TakenBefore first b)

/-- R391. -/
def Obligations.DrainOutputsInAscendingPoc : Prop :=
  ∀ s : State, s.opened = true →
    ∃ order : List RobSlot,
      exec .drain s = .next { s with rob := [], outq := s.outq ++ order.map (fun r => r.frame), status := .ok, result := .none }
      ∧ order.Perm s.rob ∧ order.Pairwise TakenBefore

/-- R422, R37, R421, R466. The creation values the spec leaves unspecified are the model's (log entry 6), and so is
that the parameters and the pending requests are kept (log entry 29). -/
def Obligations.OpenMakesAnOpenedInstance : Prop :=
  ∀ (p : CodecParameters) (s : State), s.opened = false →
    let made := fun (w h : Nat) =>
      let n := ((w + 15) / 16) * ((h + 15) / 16)
      ({ State.creation s.params s.inq with
        opened := true
        vol := { volReset with width := w, height := h }
        mbi := List.replicate n ⟨.notCoded, 0, Vector.replicate 4 MV.zero⟩
        refmv := List.replicate n ⟨.notCoded, 0, Vector.replicate 4 MV.zero⟩
        pc := List.replicate (6 * n) PcSlot.zero } : State)
    (hasVol p.extraData = false → p.width ≠ 0 → p.height ≠ 0 → exec (.openInst p) s = .next (made p.width p.height))
    ∧ (hasVol p.extraData = false → p.width = 0 ∨ p.height = 0 → Refuses (.openInst p) s .invalidData)
    ∧ (hasVol p.extraData = true → p.extraVol = none → Refuses (.openInst p) s .invalidData)
    ∧ (∀ v : VolHeader, hasVol p.extraData = true → p.extraVol = some v →
        let size := v.size.getD (p.width, p.height)
        let bad := size.1 = 0 ∨ size.2 = 0 ∨ (∃ m, v.intraMatrix = some m ∧ 0 ∈ m.toList) ∨ (∃ m, v.interMatrix = some m ∧ 0 ∈ m.toList)
        let refused := v.interlaced = true ∨ v.dataPartitioned = true ∨ v.spriteEnable = .static ∨ v.spriteEnable = .reserved ∨ v.shape ≠ 0
          ∨ v.notEightBit = true ∨ 3 < v.warpPoints
        (bad → Refuses (.openInst p) s .invalidData) ∧ (¬bad → refused → Refuses (.openInst p) s .unsupported))
    ∧ (∀ (v : VolHeader) (w h : Nat), hasVol p.extraData = true → p.extraVol = some v → v.size.getD (p.width, p.height) = (w, h) →
        w ≠ 0 → h ≠ 0 → headerInvalid v = false → headerRefused v = false →
        exec (.openInst p) s = .next { made w h with
          vol := ⟨true, v.timeIncRes, v.quantType, v.interlaced, v.quarterpel, v.spriteEnable, v.warpPoints, v.warpAccuracy,
            v.resyncMarkerDisable, v.dataPartitioned, v.shape, v.notEightBit, w, h⟩
          qmIntra := v.intraMatrix.getD defaultIntraMatrix
          qmInter := v.interMatrix.getD defaultInterMatrix })

/-- R424 with R466 and R421. That any change of width or height counts as a new size, and that it also clears
`REFMV_VALID`, is how the model reads "re-made with reset values" (log entry 30). -/
def Obligations.LoadVolWritesTheGroup : Prop :=
  ∀ (v : VolHeader) (s : State), s.opened = true →
    let bad := (∃ w h, v.size = some (w, h) ∧ (w = 0 ∨ h = 0)) ∨ (∃ m, v.intraMatrix = some m ∧ 0 ∈ m.toList)
      ∨ (∃ m, v.interMatrix = some m ∧ 0 ∈ m.toList)
    let refused := v.interlaced = true ∨ v.dataPartitioned = true ∨ v.spriteEnable = .static ∨ v.spriteEnable = .reserved ∨ v.shape ≠ 0
      ∨ v.notEightBit = true ∨ 3 < v.warpPoints
    let size := v.size.getD (s.vol.width, s.vol.height)
    let vol : VolRegs := ⟨true, v.timeIncRes, v.quantType, v.interlaced, v.quarterpel, v.spriteEnable, v.warpPoints, v.warpAccuracy,
      v.resyncMarkerDisable, v.dataPartitioned, v.shape, v.notEightBit, size.1, size.2⟩
    let loaded : State := { s with
      vol := vol
      qmIntra := v.intraMatrix.getD defaultIntraMatrix
      qmInter := v.interMatrix.getD defaultInterMatrix
      status := .ok
      result := .none }
    let n := ((size.1 + 15) / 16) * ((size.2 + 15) / 16)
    (bad → Refuses (.loadVol v) s .invalidData)
    ∧ (¬bad → refused → Refuses (.loadVol v) s .unsupported)
    ∧ (¬bad → ¬refused → size = (s.vol.width, s.vol.height) → exec (.loadVol v) s = .next loaded)
    ∧ (¬bad → ¬refused → size ≠ (s.vol.width, s.vol.height) → exec (.loadVol v) s = .next { loaded with
        cur := FrameStore.reset
        refNew := FrameStore.reset
        refOld := FrameStore.reset
        mbi := List.replicate n ⟨.notCoded, 0, Vector.replicate 4 MV.zero⟩
        refmv := List.replicate n ⟨.notCoded, 0, Vector.replicate 4 MV.zero⟩
        refmvValid := false
        pc := List.replicate (6 * n) PcSlot.zero })

/-- R112, R185, R326, R400, with the order of R310 and R311. `MBK <- k` is log entry 19, `MB.ac_pred <- 0` log entry
27, the four-vector chroma rule for `DirectNoneMv` log entry 17. That the references are read whatever their
`valid` is log entry 35. -/
def Obligations.MacroblockOfABVopIsItsSyntax : Prop :=
  ∀ (k : Nat) (s : State), s.opened = true → k < s.mbCount → s.vop.pictureType = .b → (s.refmv.getD k MbInfo.reset).mode ≠ .notCoded →
    ∀ (h v t : State) (p : Vector (Vector Byte 64) 6),
      State.HeaderOfB { s with
        mbk := k
        pmvF := if k % s.mbw = 0 then MV.zero else s.pmvF
        pmvB := if k % s.mbw = 0 then MV.zero else s.pmvB
        mb := { s.mb with acPred := false } } h →
      h.VectorsOfB k v → v.PredictedB k p →
      RunsAll [.interBlock 0, .interBlock 1, .interBlock 2, .interBlock 3, .interBlock 4, .interBlock 5] { v with pred := p } t →
      exec (.decodeMb k) s = .next { t with status := .ok, result := .none }

/-- R428, R426, R471; R463 causes 5 and 6. That `BP` stays 0 over the host's parse of the VOL is log entry 34. -/
def Obligations.SendPacketThatDecodesNoVop : Prop :=
  ∀ (pkt : Packet) (hp : HeaderParse) (s : State), s.opened = true →
    let w : State := { s with flushing := false, bs := Memory.ofBytes 0 pkt.data, bslen := pkt.data.length, bp := 0 }
    (pkt.data = [] → exec (.sendPacket pkt hp) s = exec .drain { s with flushing := true }
      ∧ ∃ t : State, exec (.sendPacket pkt hp) s = .next t ∧ t.status = .ok ∧ t.flushing = true ∧ t.rob = []
          ∧ t.outq.length = s.outq.length + s.rob.length)
    ∧ (pkt.data ≠ [] → (∀ (a : Nat) (c : Byte), StartCodeIn pkt.data a c → ¬(32 ≤ c.toNat ∧ c.toNat ≤ 47) ∧ c ≠ 0xB6#8) →
        exec (.sendPacket pkt hp) s = .next { w with status := .failed .invalidData, result := .none })
    ∧ (∀ (a : Nat) (c : Byte) (v : VolHeader), StartCodeIn pkt.data a c → 32 ≤ c.toNat → c.toNat ≤ 47 →
        (∀ b : Nat, ¬StartCodeIn pkt.data b 0xB6#8) → hp.vol = some v →
        exec (.sendPacket pkt hp) s = exec (.loadVol v) w)
    ∧ (∀ (a : Nat) (c : Byte), StartCodeIn pkt.data a c → 32 ≤ c.toNat → c.toNat ≤ 47 →
        (hp.vol = none → exec (.sendPacket pkt hp) s = .next { w with status := .failed .invalidData, result := .none })
        ∧ (∀ (v : VolHeader) (k : Kind), hp.vol = some v → Refuses (.loadVol v) w k →
            exec (.sendPacket pkt hp) s = .next { w with status := .failed k, result := .none }))

/-- R426, R427, R429, R425, R471, R463 causes 6 and 7. That a check that raises leaves `VOP` as it was follows R471
(log entry 21); that a VOL loaded before a failing VOP stays is log entry 33; that the host's parse moves no
`BP` but for a trajectory is log entry 34; that a skipped VOP's trajectory is not read is log entry 24. -/
def Obligations.SendPacketDecodesItsVops : Prop :=
  (∀ data : List Byte,
    (vopOffsets data.length 0 data).Pairwise (fun a b => a < b)
    ∧ (∀ o : Nat, o ∈ vopOffsets data.length 0 data ↔ 4 ≤ o ∧ StartCodeIn data (o - 4) 0xB6#8)
    ∧ (hasVol data = true ↔ ∃ (a : Nat) (c : Byte), StartCodeIn data a c ∧ 32 ≤ c.toNat ∧ c.toNat ≤ 47))
  ∧ (∀ (pkt : Packet) (hp : HeaderParse) (vs : List VopParse) (s x y : State), s.opened = true → pkt.data ≠ [] →
    let w : State := { s with flushing := false, bs := Memory.ofBytes 0 pkt.data, bslen := pkt.data.length, bp := 0 }
    let offs := vopOffsets pkt.data.length 0 pkt.data
    (hasVol pkt.data = false ∧ x = w) ∨ (hasVol pkt.data = true ∧ ∃ v : VolHeader, hp.vol = some v ∧ w.Runs (.loadVol v) x) →
    hp.vops.take vs.length = vs.map some → VopsSent pkt vs x y →
    (vs.length = offs.length → offs ≠ [] ∨ hasVol pkt.data = true →
      exec (.sendPacket pkt hp) s = .next { y with status := .ok, result := .none })
    ∧ (vs.length < offs.length → ∀ (k : Kind) (t : State), y.VopFails pkt (hp.vops.getD vs.length none) k t →
      exec (.sendPacket pkt hp) s = .next { t with status := .failed k, result := .none }))
  ∧ (∀ (pkt : Packet) (hp : HeaderParse) (h : VopHeader) (a : Nat) (s : State), s.opened = true → pkt.data ≠ [] →
    hasVol pkt.data = false → vopOffsets pkt.data.length 0 pkt.data = [a] → hp.vops = [some ⟨h, none⟩] →
    let w : State := { s with flushing := false, bs := Memory.ofBytes 0 pkt.data, bslen := pkt.data.length, bp := 0 }
    let d : State := { w with vop := { h with
      pts := pkt.pts
      duration := pkt.duration
      timeBase := pkt.timeBase
      isKeyframe := pkt.isKeyframe } }
    (s.waitKeyframe = true → h.pictureType ≠ .i → exec (.sendPacket pkt hp) s = .next { w with status := .ok, result := .none })
    ∧ (s.waitKeyframe = false ∨ h.pictureType = .i → d.vopFault = none → exec (.sendPacket pkt hp) s = exec .decodeVop d)
    ∧ (∀ k : Kind, s.waitKeyframe = false ∨ h.pictureType = .i → d.vopFault = some k →
        exec (.sendPacket pkt hp) s = .next { w with status := .failed k, result := .none })
    ∧ (s.waitKeyframe = false → h.pictureType ≠ .i → d.VopReady →
        ∃ t : State, exec (.sendPacket pkt hp) s = .next t ∧ t.status = .ok ∧ t.result = .none ∧ t.cur.valid = true
          ∧ t.cur.info = d.vopInfo ∧ t.robSeq = s.robSeq + 1))

/-- R430. -/
def Obligations.ReceiveFrameTakesTheHead : Prop :=
  ∀ s : State, s.opened = true →
    (∀ (fr : Frame) (rest : List Frame), s.outq = fr :: rest →
      exec .receiveFrame s = .next { s with outq := rest, status := .ok, result := .frame fr })
    ∧ (s.outq = [] → s.flushing = true → Refuses .receiveFrame s .eof)
    ∧ (s.outq = [] → s.flushing = false → Refuses .receiveFrame s .needMoreData)

/-- R467. -/
def Obligations.OnlyReceiveFrameSignals : Prop :=
  ∀ (i : Instr) (s t : State), exec i s = .next t → t.status = .failed .needMoreData ∨ t.status = .failed .eof → i = .receiveFrame

/-- R38, R39, R431. Registers that R39 calls unspecified after `FLUSH`, and the samples of the three stores, are
kept, by the "Exactly" of R38 (log entry 25). -/
def Obligations.FlushResetsStreamState : Prop :=
  ∀ s : State, s.opened = true →
    exec .flush s = .next { s with
      bs := []
      bslen := 0
      bp := 0
      cur := { s.cur with valid := false }
      refNew := { s.refNew with valid := false }
      refOld := { s.refOld with valid := false }
      refmvValid := false
      mbi := List.replicate s.mbCount ⟨.notCoded, 0, Vector.replicate 4 MV.zero⟩
      refmv := List.replicate s.mbCount ⟨.notCoded, 0, Vector.replicate 4 MV.zero⟩
      rob := []
      outq := []
      robSeq := 0
      flushing := false
      waitKeyframe := true
      prevQuant := 0
      fail := false
      mbk := 0
      pmvF := MV.zero
      pmvB := MV.zero
      gmc := Gmc.zero
      status := .ok
      result := .none }

/-- R420, R501. That an internal operation given alone, `DCVAL` among them, is held to the check of a command is log
entry 23. -/
def Obligations.CommandInWrongStateChangesNothing : Prop :=
  (∀ (i : Instr) (s : State), i.isCommand = true → (∀ p, i ≠ .openInst p) → s.opened = false →
    Refuses i s .invalidData)
  ∧ (∀ (p : CodecParameters) (s : State), s.opened = true → Refuses (.openInst p) s .invalidData)

/-- R477: every failure is a kind returned. The fault is the model's own (log entry 12). -/
def Obligations.ExecStopsOnlyOffTheFrame : Prop :=
  ∀ (i : Instr) (s : State),
    (∃ t : State, exec i s = .next t)
    ∨ (exec i s = .fault .noSuchMacroblock ∧ s.opened = true ∧ ∃ k : Nat, s.macroblockOf i = some k ∧ s.mbCount ≤ k)

/-- R103, R104 and the formats of R100: decoding inverts encoding. The fields R122 reserves are left out. -/
def Obligations.DecodeInvertsEncode : Prop :=
  ∀ (t : Table) (i : Instr) (tail : List Bool), i.inTable t = true → i.wf = true → isReserved i = false →
    decode t (encode i ++ tail) = .ok i (encode i).length

/-- R103, R104: the other direction. -/
def Obligations.DecodedBitsAreTheEncoding : Prop :=
  ∀ (t : Table) (bits : List Bool) (i : Instr) (n : Nat), (∀ f, t = .mvd f → 1 ≤ f ∧ f ≤ 7) → decode t bits = .ok i n →
    isReserved i = false → i.wf = true ∧ i.inTable t = true ∧ n ≤ bits.length ∧ encode i = bits.take n

/-- The step and the decoder (log entries 8 and 14); R36 for the idle block. -/
def Obligations.StepRunsTheDecodedInstruction : Prop :=
  (∀ (s : State) (t : Table) (rest : List Request) (i : Instr) (n : Nat), s.inq = .fetch t :: rest → decode t s.ahead = .ok i n →
    step s = exec i { s with inq := rest })
  ∧ (∀ (s : State) (t : Table) (rest : List Request) (e : Reject) (used : Nat), s.inq = .fetch t :: rest →
    decode t s.ahead = .reject e used →
    step s = .next { s with inq := rest, bp := s.bp + used, status := .failed .invalidData, result := .none })
  ∧ (∀ (s : State) (i : Instr) (rest : List Request), s.inq = .command i :: rest → i.isCommand = true →
    step s = exec i { s with inq := rest })
  ∧ (∀ s : State, s.inq = [] → step s = .next s)

/-- The codewords of R160 to R183, R200 to R217, R360, R114. -/
def Obligations.SpecWordsDecode : Prop :=
  decode .mcbpcI [false, true, true] = .ok .mcbpcI_3_3 3
  ∧ decode .mcbpcP [false, false, false, true, false, true] = .ok .mcbpcP_0_3 6
  ∧ decode .cbpy [false, false, true, true] = .ok .cbpy_0 4
  ∧ decode (.mvd 2) [false, false, true, true, true] = .ok (.mvd_2 2 true 1) 5
  ∧ decode .dcszL [false, true, false, true, false, true] = .ok (.dcszL_3 5#3) 6
  ∧ decode .dcszC [true, true] = .ok .dcszC_0 2
  ∧ decode .acInter [false, true, true, true] = .ok .acInter_1_0_1 4
  ∧ decode .acInter ([false, false, false, false, false, true, true] ++ [true, false, true, false, false]) = .ok (.acInter_esc2 0 false) 12
  ∧ decode .acIntra [true, true, false] = .ok .acIntra_0_0_2 3
  ∧ decode .acIntra ([false, false, false, false, false, true, true, true, true, true] ++ [false, false, false, true, false, true, true]
      ++ [true, true, true, true, true, true, true, true, true, true, false, true, true])
      = .ok (.acIntra_esc3 true 5#6 true 4093#12 true) 30
  ∧ decode .modb [false, true] = .ok .modb_01 2
  ∧ decode .bmbtype [false, false, true] = .ok .bmbtype_backward 3
  ∧ decode .dbquant [true, true] = .ok .dbquant_plus2 2
  ∧ decode .dquant [true, true] = .ok .dquant_11 2
  ∧ decode .cbpb [true, false, false, false, false, true] = .ok (.cbpb 33#6) 6
  ∧ decode .traj [false, false, false, true, true, false, true] = .ok (.traj_3 5#3) 7
  ∧ decode .sc (toBits 32 0x1B6) = .ok (.sc 0xB6#8) 32

/-- An invariant that every step keeps: R20, R26, R28 to R30, R33, R466, R421 and the canonical form of memory. `QP`
and `VOP.quant` after `OPEN` are the model's choice (log entry 6), and that `FLUSH` keeps them and `PC` is its
reading (log entry 25). -/
def Obligations.EveryStepKeepsTheInvariant : Prop :=
  ∀ s t : State, s.Inv → step s = .next t → t.Inv

/-- R25: "`QF[0..63]` 64 x i16, each in -2048..2047" and "run: u7 (0 to 81)". `EV` after `OPEN` is the model's
choice (log entry 6), and that `FLUSH` keeps it is its reading (log entry 25). -/
def Obligations.EveryStepKeepsLevelsInRange : Prop :=
  ∀ s t : State, s.LevelsLegal → step s = .next t → t.LevelsLegal

/-- R75: "writes to `CUR` are always inside it". -/
def Obligations.EveryStepKeepsSamplesInsideTheirPlanes : Prop :=
  ∀ s t : State, s.StoresInside → step s = .next t → t.StoresInside

/-- R39, column "creation", for the values named one by one. The parts of `Inv` and `LevelsLegal` about `QP`,
`VOP.quant`, `VOL.width`, `VOL.height` (the sizes of the register files) and `EV` speak of registers that R39
leaves unspecified at creation: there the statement is about the model's own values, log entry 6. -/
def Obligations.ResetMeetsTheInvariant : Prop :=
  State.reset.Inv ∧ State.reset.LevelsLegal ∧ State.reset.StoresInside
  ∧ State.reset.opened = false ∧ State.reset.flushing = false ∧ State.reset.waitKeyframe = false
  ∧ State.reset.bp = 0 ∧ State.reset.bslen = 0 ∧ State.reset.prevQuant = 0 ∧ State.reset.mbk = 0 ∧ State.reset.fail = false
  ∧ State.reset.vol.valid = false ∧ State.reset.qmIntra = defaultIntraMatrix ∧ State.reset.qmInter = defaultInterMatrix
  ∧ State.reset.qf = Vector.replicate 64 0 ∧ State.reset.coef = Vector.replicate 64 0 ∧ State.reset.residual = Vector.replicate 64 0
  ∧ State.reset.pmvF = MV.zero ∧ State.reset.pmvB = MV.zero ∧ State.reset.gmc = Gmc.zero ∧ State.reset.refmvValid = false
  ∧ State.reset.cur.valid = false ∧ State.reset.refNew.valid = false ∧ State.reset.refOld.valid = false
  ∧ State.reset.rob = [] ∧ State.reset.outq = [] ∧ State.reset.robSeq = 0

/-- R21, R23, R70, R81, R130, R393, R434; R288 for `PC` ("It is the only write to `PC`"), which R424 and R37 make
anew. Not the rules' but the model's: that `FLUSH` leaves `VOP` and `PC` unchanged, which R39 calls unspecified
after it (log entry 25); that `OPEN` keeps the parameters and the pending requests (log entry 29); that `DCVAL`
leaves `BP` (log entry 15). -/
def Obligations.WhoMayWriteWhat : Prop :=
  ∀ (i : Instr) (s t : State), exec i s = .next t →
    (writesWindow i = false → t.bs = s.bs ∧ t.bslen = s.bslen)
    ∧ (movesBp i = false → t.bp = s.bp)
    ∧ (writesVol i = false → t.vol = s.vol ∧ t.qmIntra = s.qmIntra ∧ t.qmInter = s.qmInter)
    ∧ (writesVop i = false → t.vop = s.vop)
    ∧ (writesReferences i = false → t.refNew = s.refNew ∧ t.refOld = s.refOld ∧ t.refmv = s.refmv ∧ t.refmvValid = s.refmvValid)
    ∧ (writesCache i = false → t.pc = s.pc)
    ∧ (takesOutput i = false → s.outq <+: t.outq)
    ∧ (s.opened = true → t.opened = true)
    ∧ (s.opened = false → t.opened = true → ∃ p, i = .openInst p)
    ∧ t.params = s.params ∧ t.inq = s.inq

end
end

