-- ==== Sys2Proof/Laws/Act.lean ====
section
/-! SUPPORT. Reasoning about operations: `Act.Rel R a` says that whatever operation `a` does, returning or
raising, the state it starts from and the state it leaves are related by `R`. With a reflexive and
transitive `R` it passes through every way the operations are put together, so an invariant or a frame
of a long operation is a matter of its smallest parts. -/

namespace Sys2Proof.Machine

variable {α β : Type}

/-- The state an operation leaves. -/
def stateOf (r : EStateM.Result Kind State α) : State :=
  match r with
  | .ok _ t => t
  | .error _ t => t

@[simp] theorem stateOf_ok (a : α) (t : State) : stateOf (.ok a t : EStateM.Result Kind State α) = t := rfl

@[simp] theorem stateOf_error (k : Kind) (t : State) : stateOf (.error k t : EStateM.Result Kind State α) = t := rfl

/-- What an operation may do to the state. -/
def Act.Rel (R : State → State → Prop) (a : Act α) : Prop := ∀ s, R s (stateOf (a s))

/-- A bind returns exactly where both its parts do. -/
theorem bind_ok_iff (x : Act α) (f : α → Act β) (s t : State) (b : β) :
    (x >>= f) s = .ok b t ↔ ∃ a u, x s = .ok a u ∧ f a u = .ok b t := by
  show EStateM.bind x f s = _ ↔ _
  unfold EStateM.bind
  cases h : x s with
  | ok a u =>
    constructor
    · intro hf
      exact ⟨a, u, rfl, hf⟩
    · rintro ⟨a1, u1, he, hf⟩
      cases he
      exact hf
  | error k u => simp

/-- A bind raises where its first part does, or its second part on what the first returned. -/
theorem bind_error_iff (x : Act α) (f : α → Act β) (s t : State) (k : Kind) :
    (x >>= f) s = .error k t ↔ x s = .error k t ∨ ∃ a u, x s = .ok a u ∧ f a u = .error k t := by
  show EStateM.bind x f s = _ ↔ _
  unfold EStateM.bind
  cases h : x s with
  | ok a u =>
    constructor
    · intro hf
      exact .inr ⟨a, u, rfl, hf⟩
    · rintro (he | ⟨a1, u1, he, hf⟩)
      · cases he
      · cases he
        exact hf
  | error k u => simp

@[simp] theorem pure_apply (a : α) (s : State) : (pure a : Act α) s = .ok a s := rfl

@[simp] theorem get_apply (s : State) : (get : Act State) s = .ok s s := rfl

@[simp] theorem update_apply (g : State → State) (s : State) : update g s = .ok () (g s) := rfl

@[simp] theorem raiseKind_apply (k : Kind) (s : State) : (raiseKind k : Act α) s = .error k s := rfl

@[simp] theorem Act.of_apply (f : State → EStateM.Result Kind State α) (s : State) : Act.of f s = f s := rfl

theorem readBits_apply (n : Nat) (s : State) :
    readBits n s = if s.bp + n ≤ 8 * s.bslen then .ok (s.bits s.bp n) (s.advance n) else .error .invalidData s := rfl

theorem parse_apply (d : Dec α) (s : State) :
    parse d s = match d ⟨s.ahead, 0⟩ with
      | .ok v c => .ok v (s.advance c.used)
      | .error _ c => .error .invalidData (s.advance c.used) := rfl

theorem require_apply (c : Bool) (k : Kind) (s : State) :
    require c k s = if c then .ok () s else .error k s := by
  unfold require
  split <;> rfl

theorem bind_apply_ok (x : Act α) (f : α → Act β) (s u : State) (a : α) (h : x s = .ok a u) : (x >>= f) s = f a u := by
  show EStateM.bind x f s = _
  simp [EStateM.bind, h]

theorem bind_apply_error (x : Act α) (f : α → Act β) (s u : State) (k : Kind) (h : x s = .error k u) :
    (x >>= f) s = .error k u := by
  show EStateM.bind x f s = _
  simp [EStateM.bind, h]

section

variable {R : State → State → Prop}

theorem Act.rel_pure (hr : ∀ s, R s s) (a : α) : Act.Rel R (pure a : Act α) := fun s => hr s

theorem Act.rel_get (hr : ∀ s, R s s) : Act.Rel R (get : Act State) := fun s => hr s

theorem Act.rel_raise (hr : ∀ s, R s s) (k : Kind) : Act.Rel R (raiseKind k : Act α) := fun s => hr s

theorem Act.rel_update {g : State → State} (hg : ∀ s, R s (g s)) : Act.Rel R (update g) := fun s => hg s

theorem Act.rel_require (hr : ∀ s, R s s) (c : Bool) (k : Kind) : Act.Rel R (require c k) := fun s => by
  rw [require_apply]
  split <;> exact hr s

theorem Act.rel_bind (ht : ∀ s t u, R s t → R t u → R s u) {x : Act α} {f : α → Act β} (hx : Act.Rel R x)
    (hf : ∀ a, Act.Rel R (f a)) : Act.Rel R (x >>= f) := fun s => by
  show R s (stateOf (EStateM.bind x f s))
  have h := hx s
  unfold EStateM.bind
  cases hs : x s with
  | ok a u =>
    rw [hs] at h
    exact ht s u _ h (hf a u)
  | error k u =>
    rw [hs] at h
    exact h

theorem Act.rel_ite {c : Prop} [Decidable c] {x y : Act α} (hx : Act.Rel R x) (hy : Act.Rel R y) :
    Act.Rel R (if c then x else y) := by
  split
  · exact hx
  · exact hy

theorem Act.rel_forEach (hr : ∀ s, R s s) (ht : ∀ s t u, R s t → R t u → R s u) (l : List α) {f : α → Act Unit}
    (hf : ∀ a, Act.Rel R (f a)) : Act.Rel R (forEach l f) := by
  induction l with
  | nil => exact Act.rel_pure hr ()
  | cons a l ih => exact Act.rel_bind ht (hf a) (fun _ => ih)

/-- A read only moves `BP`. -/
theorem Act.rel_readBits (hr : ∀ s, R s s) (n : Nat)
    (h : ∀ s, s.bp + n ≤ 8 * s.bslen → R s (s.advance n)) : Act.Rel R (readBits n) := fun s => by
  unfold readBits
  split
  · rename_i hs
    exact h s hs
  · exact hr s

end

/-- The cursor a parser leaves. -/
def cursorOf (r : EStateM.Result Reject Cursor α) : Cursor :=
  match r with
  | .ok _ e => e
  | .error _ e => e

@[simp] theorem cursorOf_ok (a : α) (e : Cursor) : cursorOf (.ok a e : EStateM.Result Reject Cursor α) = e := rfl

@[simp] theorem cursorOf_error (k : Reject) (e : Cursor) :
    cursorOf (.error k e : EStateM.Result Reject Cursor α) = e := rfl

/-- A parser that counts what it takes: it never reads past the bits it is given, and every bit it has
used is gone from the rest. -/
def Dec.Counts (d : Dec α) : Prop :=
  ∀ c, (cursorOf (d c)).used + (cursorOf (d c)).rest.length = c.used + c.rest.length

theorem Dec.counts_pure (a : α) : Dec.Counts (pure a : Dec α) := fun _ => rfl

theorem Dec.counts_throw (e : Reject) : Dec.Counts (throw e : Dec α) := fun _ => rfl

theorem Dec.counts_bind {x : Dec α} {f : α → Dec β} (hx : Dec.Counts x) (hf : ∀ a, Dec.Counts (f a)) :
    Dec.Counts (x >>= f) := fun c => by
  have h := hx c
  show (cursorOf (EStateM.bind x f c)).used + (cursorOf (EStateM.bind x f c)).rest.length = _
  unfold EStateM.bind
  cases hs : x c with
  | ok a u =>
    rw [hs] at h
    exact (hf a u).trans h
  | error k u =>
    rw [hs] at h
    exact h

theorem Dec.counts_takeBits (n : Nat) : Dec.Counts (takeBits n) := fun c => by
  unfold takeBits
  split
  · simp only [cursorOf_ok, Cursor.skip, List.length_drop]
    omega
  · simp

theorem Dec.counts_takeBit : Dec.Counts takeBit :=
  Dec.counts_bind (Dec.counts_takeBits 1) (fun _ => Dec.counts_pure _)

theorem Dec.counts_vlc (code : α → List Bool) (t : List α) : Dec.Counts (vlc code t) := fun c => by
  unfold vlc
  cases hr : t.find? (fun r => (code r).isPrefixOf c.rest) with
  | some r =>
    have h1 := List.find?_some hr
    have h2 := (List.isPrefixOf_iff_prefix.1 h1).length_le
    simp only [cursorOf_ok, Cursor.skip, List.length_drop]
    omega
  | none =>
    dsimp only
    split <;> rfl

/-- A counting parser run at `BP` moves `BP` by what it used, and by no more than the window holds. -/
theorem parse_state (d : Dec α) (hd : Dec.Counts d) (s : State) :
    ∃ n, stateOf (parse d s) = s.advance n ∧ n ≤ s.ahead.length := by
  have h := hd ⟨s.ahead, 0⟩
  unfold parse
  cases hs : d ⟨s.ahead, 0⟩ with
  | ok a c =>
    rw [hs] at h
    simp only [cursorOf_ok] at h
    exact ⟨c.used, rfl, by omega⟩
  | error k c =>
    rw [hs] at h
    simp only [cursorOf_error] at h
    exact ⟨c.used, rfl, by omega⟩

@[simp] theorem State.bitList_length (s : State) (p n : Nat) : (s.bitList p n).length = n := by
  induction n generalizing p with
  | zero => rfl
  | succ n ih => simp [State.bitList, ih]

theorem State.ahead_length (s : State) : s.ahead.length = min 32 (8 * s.bslen - s.bp) := by
  simp [State.ahead]

theorem Act.rel_parse {R : State → State → Prop} (d : Dec α) (hd : Dec.Counts d)
    (h : ∀ s n, n ≤ 8 * s.bslen - s.bp → R s (s.advance n)) : Act.Rel R (parse d) := fun s => by
  obtain ⟨n, hn, hl⟩ := parse_state d hd s
  rw [hn]
  rw [State.ahead_length] at hl
  exact h s n (by omega)

/-! ## What the runners answer -/

/-- A command in `Opened` ends as its operation does. -/
theorem runCommand_opened (a : Act Result) (s : State) (h : s.opened = true) : runCommand a s = outcomeOf (a s) := by
  simp [runCommand, h]

/-- A command given by its answer, in `Opened`. -/
theorem runCommand_of_opened (f : State → EStateM.Result Kind State Result) (s : State) (h : s.opened = true) :
    runCommand (Act.of f) s = outcomeOf (f s) := runCommand_opened _ _ h

/-- A command on a macroblock of the frame, in `Opened`, ends as its operation does. -/
theorem runOnMacroblock_opened (k : Nat) (a : Act Result) (s : State) (h : s.opened = true) (hk : k < s.mbCount) :
    runOnMacroblock k a s = outcomeOf (a s) := by
  rw [runOnMacroblock, if_pos h, if_pos hk]

/-- A command in `Closed` raises `InvalidData` (R420). -/
theorem runCommand_closed (a : Act Result) (s : State) (h : s.opened = false) :
    runCommand a s = .next (s.raise .invalidData) := by
  simp [runCommand, h]

/-- All that a command can answer. -/
theorem runCommand_cases (a : Act Result) (s t : State) (h : runCommand a s = .next t) :
    (s.opened = false ∧ t = s.raise .invalidData) ∨
    (s.opened = true ∧ ((∃ r u, a s = .ok r u ∧ t = u.finish r) ∨ ∃ k u, a s = .error k u ∧ t = u.raise k)) := by
  unfold runCommand at h
  split at h
  · rename_i ho
    refine .inr ⟨ho, ?_⟩
    cases hs : a s with
    | ok r u =>
      rw [hs] at h
      simp only [outcomeOf, Host.Outcome.next.injEq] at h
      exact .inl ⟨r, u, rfl, h.symm⟩
    | error k u =>
      rw [hs] at h
      simp only [outcomeOf, Host.Outcome.next.injEq] at h
      exact .inr ⟨k, u, rfl, h.symm⟩
  · rename_i ho
    simp only [Host.Outcome.next.injEq] at h
    exact .inl ⟨by simpa using ho, h.symm⟩

/-- All that a command on a macroblock can answer. -/
theorem runOnMacroblock_cases (k : Nat) (a : Act Result) (s t : State) (h : runOnMacroblock k a s = .next t) :
    (s.opened = false ∧ t = s.raise .invalidData) ∨
    (s.opened = true ∧ k < s.mbCount ∧
      ((∃ r u, a s = .ok r u ∧ t = u.finish r) ∨ ∃ e u, a s = .error e u ∧ t = u.raise e)) := by
  unfold runOnMacroblock at h
  split at h
  · rename_i ho
    split at h
    · rename_i hk
      refine .inr ⟨ho, hk, ?_⟩
      cases hs : a s with
      | ok r u =>
        rw [hs] at h
        simp only [outcomeOf, Host.Outcome.next.injEq] at h
        exact .inl ⟨r, u, rfl, h.symm⟩
      | error e u =>
        rw [hs] at h
        simp only [outcomeOf, Host.Outcome.next.injEq] at h
        exact .inr ⟨e, u, rfl, h.symm⟩
    · simp at h
  · rename_i ho
    simp only [Host.Outcome.next.injEq] at h
    exact .inl ⟨by simpa using ho, h.symm⟩

/-- All that a bitstream instruction of `n` bits can answer. -/
theorem runCode_cases (n : Nat) (g : State → State) (r : Result) (s t : State) (h : runCode n g r s = .next t) :
    (s.bp + n ≤ 8 * s.bslen ∧ t = (g (s.advance n)).finish r) ∨
    (8 * s.bslen < s.bp + n ∧ t = s.raise .invalidData) := by
  unfold runCode at h
  split at h
  · simp only [Host.Outcome.next.injEq] at h
    exact .inl ⟨‹_›, h.symm⟩
  · simp only [Host.Outcome.next.injEq] at h
    exact .inr ⟨by omega, h.symm⟩

/-- All that a bitstream instruction of several reads can answer. -/
theorem runReads_cases (l : List Nat) (g : State → State) (r : Result) (s t : State) (h : runReads l g r s = .next t) :
    (s.bp + l.sum ≤ 8 * s.bslen ∧ t = (g (s.advance l.sum)).finish r) ∨
    (8 * s.bslen < s.bp + l.sum ∧ t = (s.advance (wholeReads l (8 * s.bslen - s.bp))).raise .invalidData) := by
  unfold runReads at h
  split at h
  · simp only [Host.Outcome.next.injEq] at h
    exact .inl ⟨‹_›, h.symm⟩
  · simp only [Host.Outcome.next.injEq] at h
    exact .inr ⟨by omega, h.symm⟩

/-- Whole reads take no more than there is. -/
theorem wholeReads_le (l : List Nat) (n : Nat) : wholeReads l n ≤ n := by
  induction l generalizing n with
  | nil => exact Nat.zero_le _
  | cons a l ih =>
    rw [wholeReads]
    split
    · have := ih (n - a)
      omega
    · exact Nat.zero_le _

/-- Where all the reads fit, they are all taken. -/
theorem wholeReads_all (l : List Nat) (n : Nat) (h : l.sum ≤ n) : wholeReads l n = l.sum := by
  induction l generalizing n with
  | nil => rfl
  | cons a l ih =>
    simp only [List.sum_cons] at h
    rw [wholeReads, if_pos (by omega), ih (n - a) (by omega), List.sum_cons]

/-- What whole reads take is the sum of a run of first reads, the longest that fits. -/
theorem wholeReads_first (l : List Nat) (n : Nat) : (∃ k, wholeReads l n = (l.take k).sum)
    ∧ ∀ k, (l.take k).sum ≤ n → (l.take k).sum ≤ wholeReads l n := by
  induction l generalizing n with
  | nil => exact ⟨⟨0, rfl⟩, fun k _ => by simp⟩
  | cons a l ih =>
    rw [wholeReads]
    split
    · rename_i ha
      obtain ⟨⟨k, h1⟩, h2⟩ := ih (n - a)
      refine ⟨⟨k + 1, by simp [h1]⟩, fun k hk => ?_⟩
      cases k with
      | zero => simp
      | succ k =>
        simp only [List.take_succ_cons, List.sum_cons] at hk ⊢
        have := h2 k (by omega)
        omega
    · rename_i ha
      refine ⟨⟨0, by simp⟩, fun k hk => ?_⟩
      cases k with
      | zero => simp
      | succ k =>
        simp only [List.take_succ_cons, List.sum_cons] at hk
        omega

end Sys2Proof.Machine
end

