-- ==== Sys2Proof/Laws/Arith.lean ====
section
/-! SUPPORT. The arithmetic of the operations in the words of `Safety.lean`. -/

namespace Sys2Proof.Machine

/-- The value code of R107 and R109. -/
theorem signedField_eq (n v : Nat) (h : v < 2 ^ n) : signedField n v = fieldValue n v := by
  unfold signedField fieldValue
  split
  · rfl
  · rename_i hn
    obtain ⟨n, rfl⟩ : ∃ g, n = g + 1 := ⟨n - 1, by omega⟩
    simp only [Nat.add_sub_cancel]
    have : 2 ^ (n + 1) = 2 * 2 ^ n := by ring
    have hpos : 0 < 2 ^ n := Nat.two_pow_pos n
    have e : (v / 2 ^ n = 1) ↔ 2 ^ n ≤ v := by
      constructor
      · intro hv
        by_contra hc
        rw [Nat.div_eq_of_lt (by omega)] at hv
        omega
      · intro hv
        apply Nat.div_eq_of_lt_le <;> omega
    simp only [e]
    split
    · rfl
    · ring

/-- The clamp of R10. -/
theorem clamp_eq (lo hi v : Int) (h : lo ≤ hi) : clamp v lo hi = within lo hi v := by
  unfold clamp within
  split
  · omega
  · split <;> omega

theorem clampCoef_eq (v : Int) : clampCoef v = within (-2048) 2047 v := clamp_eq _ _ _ (by decide)

theorem clampCoef_bounds (v : Int) : -2048 ≤ clampCoef v ∧ clampCoef v ≤ 2047 := by
  rw [clampCoef_eq]
  unfold within
  omega

/-- The quantizer after an offset (R172, R183). -/
theorem adjustQuant_eq (q : Nat) (d : Int) : adjustQuant q d = (within 1 31 ((q : Int) + d)).toNat := by
  unfold adjustQuant
  rw [clamp_eq _ _ _ (by decide)]

/-- `sat(x)`, R243. -/
theorem sat_eq (p : Params) (x : Int) : sat p x = saturated p x := by
  unfold sat saturated
  split
  · exact clampCoef_eq x
  · rfl

/-- A sample is the clamped sum (R322). -/
theorem recon_toNat (p : Byte) (f : Int) : ((recon p f).toNat : Int) = within 0 255 (p.toNat + f) := by
  unfold recon toSample
  rw [clamp_eq _ _ _ (by decide)]
  have h : 0 ≤ within 0 255 (p.toNat + f) ∧ within 0 255 (p.toNat + f) ≤ 255 := by
    unfold within
    omega
  rw [BitVec.toNat_ofInt]
  omega

/-- `//` answers the nearest integer, the one farther from zero where two are as near (R10). -/
theorem roundDiv_nearest (a : Int) (b : Nat) (hb : b ≠ 0) : NearestQuotient a b (roundDiv a b) := by
  unfold NearestQuotient roundDiv
  rw [if_neg (by omega)]
  have hs : (b : Int).sign = 1 := Int.sign_eq_one_of_pos (by omega)
  rw [hs]
  simp only [Int.natAbs_natCast, mul_one]
  have e := Int.emod_add_mul_ediv (2 * (a.natAbs : Int) + b) (2 * b)
  have h1 := Int.emod_nonneg (2 * (a.natAbs : Int) + b) (show (2 * (b : Int)) ≠ 0 by omega)
  have h2 := Int.emod_lt_of_pos (2 * (a.natAbs : Int) + b) (show 0 < (2 * (b : Int)) by omega)
  generalize (2 * (a.natAbs : Int) + b) / (2 * b) = q at *
  generalize (2 * (a.natAbs : Int) + b) % (2 * b) = r at *
  have hq0 : 0 ≤ q := by
    by_contra hc
    have : q ≤ -1 := by omega
    nlinarith [show (0 : Int) < b by omega]
  have key : (2 * (((a - a.sign * q * b).natAbs : Nat) : Int) ≤ b)
      ∧ (2 * (((a - a.sign * q * b).natAbs : Nat) : Int) = b → (a.natAbs : Int) ≤ ((a.sign * q * b).natAbs : Nat)) := by
    rcases lt_trichotomy a 0 with ha | ha | ha
    · rw [Int.sign_eq_neg_one_of_neg ha]
      have e1 : (2 * (b : Int)) * q = 2 * (q * b) := by ring
      have e2 : a - -1 * q * b = a + q * b := by ring
      have e3 : -1 * q * (b : Int) = -(q * b) := by ring
      rw [e2, e3]
      have hp : 0 ≤ q * (b : Int) := by positivity
      generalize q * (b : Int) = z at *
      constructor <;> omega
    · subst ha
      simp
    · rw [Int.sign_eq_one_of_pos ha]
      have e1 : (2 * (b : Int)) * q = 2 * (q * b) := by ring
      have e2 : a - 1 * q * b = a - q * b := by ring
      have e3 : 1 * q * (b : Int) = (q * b) := by ring
      rw [e2, e3]
      have hp : 0 ≤ q * (b : Int) := by positivity
      generalize q * (b : Int) = z at *
      constructor <;> omega
  have key1 := key.1
  have key2 := key.2
  constructor
  · exact_mod_cast key1
  · intro h
    have := key2 (by exact_mod_cast h)
    exact_mod_cast this

end Sys2Proof.Machine
end

