-- ==== Sys2Proof/Laws/Bits.lean ====
section
/-! SUPPORT. Bits as numbers and numbers as bits, and codewords found in their tables. -/

namespace Sys2Proof

@[simp] theorem toBits_length (n v : Nat) : (toBits n v).length = n := by
  induction n with
  | zero => rfl
  | succ n ih => simp [toBits, ih]

theorem bitsVal_lt (bs : List Bool) : bitsVal bs < 2 ^ bs.length := by
  induction bs with
  | nil => simp [bitsVal]
  | cons b bs ih =>
    simp only [bitsVal, List.length_cons, Nat.pow_succ]
    cases b <;> simp <;> omega

/-- The number of the low `n` bits of `v`. -/
theorem bitsVal_toBits (n v : Nat) : bitsVal (toBits n v) = v % 2 ^ n := by
  induction n with
  | zero => simp [toBits, bitsVal, Nat.mod_one]
  | succ n ih =>
    simp only [toBits, bitsVal, toBits_length, ih]
    rw [Nat.pow_succ, Nat.mod_mul, Nat.testBit_eq_decide_div_mod_eq]
    have : v / 2 ^ n % 2 < 2 := Nat.mod_lt _ (by decide)
    by_cases h : v / 2 ^ n % 2 = 1
    · simp [h]
      omega
    · have h0 : v / 2 ^ n % 2 = 0 := by omega
      simp [h0]

theorem bitsVal_toBits_of_lt (n v : Nat) (h : v < 2 ^ n) : bitsVal (toBits n v) = v := by
  rw [bitsVal_toBits, Nat.mod_eq_of_lt h]

/-- Two lists of one length with one number are one list. -/
theorem bitsVal_inj (as bs : List Bool) (hl : as.length = bs.length) (h : bitsVal as = bitsVal bs) : as = bs := by
  induction as generalizing bs with
  | nil => cases bs with
    | nil => rfl
    | cons b bs => simp at hl
  | cons a as ih =>
    cases bs with
    | nil => simp at hl
    | cons b bs =>
      have hl' : as.length = bs.length := by simpa using hl
      have h1 := bitsVal_lt as
      have h2 := bitsVal_lt bs
      simp only [bitsVal] at h
      rw [hl'] at h h1
      cases a <;> cases b
      · simp at h
        rw [ih bs hl' h]
      · simp at h
        omega
      · simp at h
        omega
      · simp at h
        rw [ih bs hl' h]

/-- The bits of a list's number are the list. -/
theorem toBits_bitsVal (bs : List Bool) : toBits bs.length (bitsVal bs) = bs :=
  bitsVal_inj _ _ (by simp) (bitsVal_toBits_of_lt _ _ (bitsVal_lt bs))

end Sys2Proof
end

