-- ==== Sys2Proof/Laws/Memory.lean ====
section
/-! SUPPORT. Memory: what a read gives after a write, and that every memory operation keeps the canonical
form. -/

namespace Sys2Proof.Machine

@[simp] theorem Memory.find_nil (a : Nat) : Memory.find [] a = none := rfl

@[simp] theorem Memory.find_cons (c : Host.Cell) (m : Memory) (a : Nat) :
    Memory.find (c :: m) a = if c.1 = a then some c.2 else Memory.find m a := rfl

/-- Read after write to the same address. -/
@[simp] theorem Memory.find_write_same (m : Memory) (a : Nat) (v : Byte) : (m.write a v).find a = some v := by
  induction m with
  | nil => simp [Memory.write]
  | cons c m ih =>
    unfold Memory.write
    split
    · simp
    · split
      · simp
      · rename_i h1 h2
        simp [Ne.symm h2, ih]

/-- A write leaves every other address alone. -/
theorem Memory.find_write_other (m : Memory) (a b : Nat) (v : Byte) (h : b ≠ a) :
    (m.write a v).find b = m.find b := by
  induction m with
  | nil => simp [Memory.write, Ne.symm h]
  | cons c m ih =>
    unfold Memory.write
    split
    · simp [Ne.symm h]
    · split
      · rename_i h1 h2
        subst h2
        simp [Ne.symm h]
      · simp [ih]

@[simp] theorem Memory.read_write_same (m : Memory) (a : Nat) (v : Byte) : (m.write a v).read a = v := by
  simp [Memory.read]

theorem Memory.read_write_other (m : Memory) (a b : Nat) (v : Byte) (h : b ≠ a) :
    (m.write a v).read b = m.read b := by
  simp [Memory.read, Memory.find_write_other m a b v h]

theorem Memory.wf_cons_cons (c d : Host.Cell) (m : Memory) :
    Memory.wf (c :: d :: m) = (decide (c.1 < d.1) && Memory.wf (d :: m)) := rfl

/-- The canonical form, said with the library's order on lists. -/
theorem Memory.wf_iff (m : Memory) : m.wf = true ↔ m.Pairwise (fun c d => c.1 < d.1) := by
  induction m with
  | nil => simp [Memory.wf]
  | cons c m ih =>
    cases m with
    | nil => simp [Memory.wf]
    | cons d m =>
      rw [Memory.wf_cons_cons, Bool.and_eq_true, decide_eq_true_eq, ih]
      simp only [List.pairwise_cons]
      constructor
      · rintro ⟨h, h1, h2⟩
        refine ⟨?_, h1, h2⟩
        intro e he
        rcases List.mem_cons.1 he with rfl | he
        · exact h
        · exact Nat.lt_trans h (h1 e he)
      · rintro ⟨h, h1, h2⟩
        exact ⟨h d (List.mem_cons_self ..), h1, h2⟩

/-- Where the addresses a write leaves come from. -/
theorem Memory.mem_write (m : Memory) (a : Nat) (v : Byte) (c : Host.Cell) (h : c ∈ m.write a v) :
    c = (a, v) ∨ c ∈ m := by
  induction m with
  | nil => simpa [Memory.write] using h
  | cons d m ih =>
    unfold Memory.write at h
    split at h
    · rcases List.mem_cons.1 h with h | h
      · exact .inl h
      · exact .inr h
    · split at h
      · rcases List.mem_cons.1 h with h | h
        · exact .inl h
        · exact .inr (List.mem_cons_of_mem _ h)
      · rcases List.mem_cons.1 h with h | h
        · exact .inr (h ▸ List.mem_cons_self ..)
        · rcases ih h with h | h
          · exact .inl h
          · exact .inr (List.mem_cons_of_mem _ h)

/-- A write keeps the canonical form. -/
theorem Memory.wf_write (m : Memory) (a : Nat) (v : Byte) (h : m.wf = true) : (m.write a v).wf = true := by
  rw [Memory.wf_iff] at *
  induction m with
  | nil => simp [Memory.write]
  | cons c m ih =>
    have hc := List.pairwise_cons.1 h
    unfold Memory.write
    split
    · rename_i h1
      refine List.pairwise_cons.2 ⟨?_, h⟩
      intro d hd
      rcases List.mem_cons.1 hd with rfl | hd
      · exact h1
      · exact Nat.lt_trans h1 (hc.1 d hd)
    · split
      · rename_i h1 h2
        subst h2
        exact List.pairwise_cons.2 ⟨hc.1, hc.2⟩
      · rename_i h1 h2
        refine List.pairwise_cons.2 ⟨?_, ih hc.2⟩
        intro d hd
        rcases Memory.mem_write m a v d hd with rfl | hd
        · exact Nat.lt_of_le_of_ne (Nat.le_of_not_lt h1) (Ne.symm h2)
        · exact hc.1 d hd

/-- Loading bytes gives the canonical form. -/
theorem Memory.wf_ofBytes (base : Nat) (data : List Byte) : (Memory.ofBytes base data).wf = true := by
  induction data generalizing base with
  | nil => rfl
  | cons b rest ih =>
    cases rest with
    | nil => rfl
    | cons c rest =>
      have := ih (base + 1)
      simp only [Memory.ofBytes] at this ⊢
      rw [Memory.wf_cons_cons, this]
      simp

/-- The bytes loaded are the bytes read. -/
theorem Memory.find_ofBytes (base : Nat) (data : List Byte) (i : Nat) (h : i < data.length) :
    (Memory.ofBytes base data).find (base + i) = some data[i] := by
  induction data generalizing base i with
  | nil => simp at h
  | cons b rest ih =>
    cases i with
    | zero => simp [Memory.ofBytes]
    | succ i =>
      have := ih (base + 1) i (by simpa using h)
      simp only [Memory.ofBytes, Memory.find_cons]
      rw [if_neg (by omega), show base + (i + 1) = base + 1 + i by omega, this]
      simp

/-- Folding writes keeps the canonical form. -/
theorem Memory.wf_foldl_write {α : Type} (l : List α) (f : α → Nat) (g : α → Byte) (m : Memory) (h : m.wf = true) :
    (l.foldl (fun m i => m.write (f i) (g i)) m).wf = true := by
  induction l generalizing m with
  | nil => exact h
  | cons a l ih => exact ih _ (Memory.wf_write m _ _ h)

/-- Folding writes leaves an address that none of them names. -/
theorem Memory.find_foldl_write {α : Type} (l : List α) (f : α → Nat) (g : α → Byte) (m : Memory) (b : Nat)
    (h : ∀ i ∈ l, b ≠ f i) : (l.foldl (fun m i => m.write (f i) (g i)) m).find b = m.find b := by
  induction l generalizing m with
  | nil => rfl
  | cons a l ih =>
    simp only [List.foldl_cons]
    rw [ih _ (fun i hi => h i (List.mem_cons_of_mem _ hi)),
      Memory.find_write_other m (f a) b (g a) (h a (List.mem_cons_self ..))]

/-- A block write keeps the canonical form. -/
theorem Memory.wf_writeBlock (m : Memory) (stride x0 y0 : Nat) (v : Vector Byte 64) (h : m.wf = true) :
    (m.writeBlock stride x0 y0 v).wf = true :=
  Memory.wf_foldl_write raster _ _ m h

/-- A block write leaves every address outside the block alone. -/
theorem Memory.find_writeBlock_other (m : Memory) (stride x0 y0 : Nat) (v : Vector Byte 64) (b : Nat)
    (h : ∀ i : Fin 64, b ≠ (y0 + rowOf i) * stride + (x0 + colOf i)) :
    (m.writeBlock stride x0 y0 v).find b = m.find b :=
  Memory.find_foldl_write raster _ _ m b (fun i _ => h i)

end Sys2Proof.Machine
end

