-- ==== Sys2Proof/Laws/Block.lean ====
section
/-! SUPPORT. Writing a block of samples, and the registers that rebuilding a block leaves alone. -/

namespace Sys2Proof.Machine

@[simp] theorem FrameStore.plane_setPlane_same (f : FrameStore) (p : Plane) (m : Memory) : (f.setPlane p m).plane p = m := by
  cases p <;> rfl

theorem FrameStore.plane_setPlane_other (f : FrameStore) (p q : Plane) (m : Memory) (h : q ≠ p) :
    (f.setPlane p m).plane q = f.plane q := by
  cases p <;> cases q <;> first | rfl | exact absurd rfl h

@[simp] theorem FrameStore.setPlane_valid (f : FrameStore) (p : Plane) (m : Memory) : (f.setPlane p m).valid = f.valid := by
  cases p <;> rfl

@[simp] theorem FrameStore.setPlane_info (f : FrameStore) (p : Plane) (m : Memory) : (f.setPlane p m).info = f.info := by
  cases p <;> rfl

/-- Folding writes to different addresses leaves each its own value. -/
theorem Memory.read_foldl_write {α : Type} (l : List α) (f : α → Nat) (g : α → Byte) (m : Memory) (i : α) (hi : i ∈ l)
    (hl : l.Nodup) (hf : ∀ a ∈ l, ∀ b ∈ l, f a = f b → a = b) : (l.foldl (fun m i => m.write (f i) (g i)) m).read (f i) = g i := by
  induction l generalizing m with
  | nil => exact absurd hi (List.not_mem_nil)
  | cons a l ih =>
    simp only [List.foldl_cons]
    rcases List.mem_cons.1 hi with rfl | h
    · have hn : ∀ j ∈ l, f i ≠ f j := by
        intro j hj he
        have := hf i (List.mem_cons_self ..) j (List.mem_cons_of_mem _ hj) he
        subst this
        exact (List.nodup_cons.1 hl).1 hj
      unfold Memory.read
      rw [Memory.find_foldl_write l f g _ (f i) hn]
      simp
    · exact ih _ h (List.nodup_cons.1 hl).2
        (fun x hx y hy => hf x (List.mem_cons_of_mem _ hx) y (List.mem_cons_of_mem _ hy))

/-- The 64 samples of a block that lies in a row of `stride` samples stand at different offsets. -/
theorem sample_offsets_differ (stride x0 y0 : Nat) (h : x0 + 8 ≤ stride) (i j : Fin 64)
    (e : (y0 + rowOf i) * stride + (x0 + colOf i) = (y0 + rowOf j) * stride + (x0 + colOf j)) : i = j := by
  have hi : colOf i < 8 := Nat.mod_lt _ (by decide)
  have hj : colOf j < 8 := Nat.mod_lt _ (by decide)
  have hs : 0 < stride := by omega
  have hr : y0 + rowOf i = y0 + rowOf j := by
    have h1 := congrArg (· / stride) e
    simp only [Nat.mul_comm _ stride, Nat.mul_add_div hs] at h1
    rw [Nat.div_eq_of_lt (by omega : x0 + colOf i < stride), Nat.div_eq_of_lt (by omega : x0 + colOf j < stride)] at h1
    omega
  rw [hr] at e
  have hc : colOf i = colOf j := by omega
  unfold rowOf colOf at *
  apply Fin.ext
  omega

/-- A block of a macroblock of the frame lies inside the rows of its plane. -/
theorem State.block_fits (s : State) (k : Nat) (b : Fin 6) (hk : k < s.mbCount) :
    blockX (s.mbX k) b + 8 ≤ s.stride (blockPlane b) := by
  have hw : 0 < s.mbw := by
    rcases Nat.eq_zero_or_pos s.mbw with h | h
    · simp [State.mbCount, h] at hk
    · exact h
  have hx : k % s.mbw < s.mbw := Nat.mod_lt _ hw
  unfold blockX blockPlane State.stride State.mbX
  generalize k % s.mbw = x at *
  generalize s.mbw = w at *
  fin_cases b <;> simp <;> omega

/-- Writing a block writes its 64 samples and nothing else (R312). -/
theorem State.writeBlock_written (s : State) (k : Nat) (b : Fin 6) (v : Vector Byte 64) (hk : k < s.mbCount) :
    s.BlockWritten k b v (s.writeBlock k b v).cur := by
  have hfit := s.block_fits k b hk
  refine ⟨fun i => ?_, fun p a h => ?_, ?_, ?_⟩
  · show ((s.cur.setPlane (blockPlane b) _).plane (blockPlane b)).read _ = _
    rw [FrameStore.plane_setPlane_same]
    exact Memory.read_foldl_write raster
      (fun i => (blockY (s.mbY k) b + rowOf i) * s.stride (blockPlane b) + (blockX (s.mbX k) b + colOf i)) (fun i => v[i]) _ i
      (List.mem_finRange i) (List.nodup_finRange 64) (fun x _ y _ e => sample_offsets_differ _ _ _ hfit x y e)
  · show ((s.cur.setPlane (blockPlane b) _).plane p).read a = _
    by_cases hp : p = blockPlane b
    · subst hp
      rw [FrameStore.plane_setPlane_same]
      unfold Memory.read
      rw [Memory.find_writeBlock_other _ _ _ _ _ a (fun i => h rfl i)]
    · rw [FrameStore.plane_setPlane_other _ _ _ _ hp]
  · exact FrameStore.setPlane_valid _ _ _
  · exact FrameStore.setPlane_info _ _ _

/-! ## The registers a block may change -/

/-- `t` is `s` but for `QF`, `F`, `f`, `PC` and `CUR`. -/
def State.SameButBlock (s t : State) : Prop :=
  t = { s with qf := t.qf, coef := t.coef, residual := t.residual, pc := t.pc, cur := t.cur }

theorem State.SameButBlock.refl (s : State) : s.SameButBlock s := rfl

theorem State.SameButBlock.trans {s t u : State} (h : s.SameButBlock t) (g : t.SameButBlock u) : s.SameButBlock u := by
  unfold State.SameButBlock at *
  rw [g, h]

theorem State.dcRecon_block (s : State) (b : Fin 6) (diff pr : Int) : s.SameButBlock (s.dcRecon b diff pr) := rfl

theorem State.acPredict_block (s : State) (d : Direction) (n : Neighbour) : s.SameButBlock (s.acPredict d n) := by
  unfold State.acPredict
  split
  · generalize (Vector.ofFn _ : Vector Int 64) = q
    rfl
  · rfl

theorem State.pcUpdate_block (s : State) (k : Nat) (b : Fin 6) : s.SameButBlock (s.pcUpdate k b) := rfl

theorem State.mismatch_block (s : State) : s.SameButBlock s.mismatch := by
  unfold State.mismatch
  split <;> rfl

theorem State.dequant_block (s : State) (intra : Bool) : s.SameButBlock (s.dequant intra) := by
  unfold State.dequant
  generalize (Vector.ofFn _ : Vector Int 64) = q
  dsimp only
  split
  · exact State.SameButBlock.trans (t := { s with coef := q }) rfl (State.mismatch_block _)
  · rfl

theorem State.idct_block (s : State) : s.SameButBlock s.idct := by
  unfold State.idct
  generalize idctCols _ = f
  rfl

theorem State.writeBlock_block (s : State) (k : Nat) (b : Fin 6) (v : Vector Byte 64) : s.SameButBlock (s.writeBlock k b v) := rfl

end Sys2Proof.Machine
end

