-- ==== Sys2Proof/Laws/State.lean ====
section
/-! SUPPORT. What each named update of the state does to each field: one lemma a field, true by
definition, so that no proof unfolds a record update. -/

namespace Sys2Proof.Machine

@[simp] theorem State.advance_bs (s : State) (n : Nat) : (s.advance n).bs = s.bs := rfl
@[simp] theorem State.advance_bslen (s : State) (n : Nat) : (s.advance n).bslen = s.bslen := rfl
@[simp] theorem State.advance_bp (s : State) (n : Nat) : (s.advance n).bp = s.bp + n := rfl
@[simp] theorem State.advance_vol (s : State) (n : Nat) : (s.advance n).vol = s.vol := rfl
@[simp] theorem State.advance_qmIntra (s : State) (n : Nat) : (s.advance n).qmIntra = s.qmIntra := rfl
@[simp] theorem State.advance_qmInter (s : State) (n : Nat) : (s.advance n).qmInter = s.qmInter := rfl
@[simp] theorem State.advance_vop (s : State) (n : Nat) : (s.advance n).vop = s.vop := rfl
@[simp] theorem State.advance_qf (s : State) (n : Nat) : (s.advance n).qf = s.qf := rfl
@[simp] theorem State.advance_coef (s : State) (n : Nat) : (s.advance n).coef = s.coef := rfl
@[simp] theorem State.advance_residual (s : State) (n : Nat) : (s.advance n).residual = s.residual := rfl
@[simp] theorem State.advance_pred (s : State) (n : Nat) : (s.advance n).pred = s.pred := rfl
@[simp] theorem State.advance_ev (s : State) (n : Nat) : (s.advance n).ev = s.ev := rfl
@[simp] theorem State.advance_mb (s : State) (n : Nat) : (s.advance n).mb = s.mb := rfl
@[simp] theorem State.advance_pmvF (s : State) (n : Nat) : (s.advance n).pmvF = s.pmvF := rfl
@[simp] theorem State.advance_pmvB (s : State) (n : Nat) : (s.advance n).pmvB = s.pmvB := rfl
@[simp] theorem State.advance_qp (s : State) (n : Nat) : (s.advance n).qp = s.qp := rfl
@[simp] theorem State.advance_prevQuant (s : State) (n : Nat) : (s.advance n).prevQuant = s.prevQuant := rfl
@[simp] theorem State.advance_mbk (s : State) (n : Nat) : (s.advance n).mbk = s.mbk := rfl
@[simp] theorem State.advance_fail (s : State) (n : Nat) : (s.advance n).fail = s.fail := rfl
@[simp] theorem State.advance_mbi (s : State) (n : Nat) : (s.advance n).mbi = s.mbi := rfl
@[simp] theorem State.advance_refmv (s : State) (n : Nat) : (s.advance n).refmv = s.refmv := rfl
@[simp] theorem State.advance_refmvValid (s : State) (n : Nat) : (s.advance n).refmvValid = s.refmvValid := rfl
@[simp] theorem State.advance_pc (s : State) (n : Nat) : (s.advance n).pc = s.pc := rfl
@[simp] theorem State.advance_gmc (s : State) (n : Nat) : (s.advance n).gmc = s.gmc := rfl
@[simp] theorem State.advance_cur (s : State) (n : Nat) : (s.advance n).cur = s.cur := rfl
@[simp] theorem State.advance_refNew (s : State) (n : Nat) : (s.advance n).refNew = s.refNew := rfl
@[simp] theorem State.advance_refOld (s : State) (n : Nat) : (s.advance n).refOld = s.refOld := rfl
@[simp] theorem State.advance_rob (s : State) (n : Nat) : (s.advance n).rob = s.rob := rfl
@[simp] theorem State.advance_robSeq (s : State) (n : Nat) : (s.advance n).robSeq = s.robSeq := rfl
@[simp] theorem State.advance_outq (s : State) (n : Nat) : (s.advance n).outq = s.outq := rfl
@[simp] theorem State.advance_opened (s : State) (n : Nat) : (s.advance n).opened = s.opened := rfl
@[simp] theorem State.advance_flushing (s : State) (n : Nat) : (s.advance n).flushing = s.flushing := rfl
@[simp] theorem State.advance_waitKeyframe (s : State) (n : Nat) : (s.advance n).waitKeyframe = s.waitKeyframe := rfl
@[simp] theorem State.advance_params (s : State) (n : Nat) : (s.advance n).params = s.params := rfl
@[simp] theorem State.advance_inq (s : State) (n : Nat) : (s.advance n).inq = s.inq := rfl
@[simp] theorem State.advance_status (s : State) (n : Nat) : (s.advance n).status = s.status := rfl
@[simp] theorem State.advance_result (s : State) (n : Nat) : (s.advance n).result = s.result := rfl

@[simp] theorem State.setQp_bs (s : State) (q : Nat) : (s.setQp q).bs = s.bs := rfl
@[simp] theorem State.setQp_bslen (s : State) (q : Nat) : (s.setQp q).bslen = s.bslen := rfl
@[simp] theorem State.setQp_bp (s : State) (q : Nat) : (s.setQp q).bp = s.bp := rfl
@[simp] theorem State.setQp_vol (s : State) (q : Nat) : (s.setQp q).vol = s.vol := rfl
@[simp] theorem State.setQp_qmIntra (s : State) (q : Nat) : (s.setQp q).qmIntra = s.qmIntra := rfl
@[simp] theorem State.setQp_qmInter (s : State) (q : Nat) : (s.setQp q).qmInter = s.qmInter := rfl
@[simp] theorem State.setQp_vop (s : State) (q : Nat) : (s.setQp q).vop = s.vop := rfl
@[simp] theorem State.setQp_qf (s : State) (q : Nat) : (s.setQp q).qf = s.qf := rfl
@[simp] theorem State.setQp_coef (s : State) (q : Nat) : (s.setQp q).coef = s.coef := rfl
@[simp] theorem State.setQp_residual (s : State) (q : Nat) : (s.setQp q).residual = s.residual := rfl
@[simp] theorem State.setQp_pred (s : State) (q : Nat) : (s.setQp q).pred = s.pred := rfl
@[simp] theorem State.setQp_ev (s : State) (q : Nat) : (s.setQp q).ev = s.ev := rfl
@[simp] theorem State.setQp_mb (s : State) (q : Nat) : (s.setQp q).mb = s.mb := rfl
@[simp] theorem State.setQp_pmvF (s : State) (q : Nat) : (s.setQp q).pmvF = s.pmvF := rfl
@[simp] theorem State.setQp_pmvB (s : State) (q : Nat) : (s.setQp q).pmvB = s.pmvB := rfl
@[simp] theorem State.setQp_qp (s : State) (q : Nat) : (s.setQp q).qp = q := rfl
@[simp] theorem State.setQp_prevQuant (s : State) (q : Nat) : (s.setQp q).prevQuant = s.prevQuant := rfl
@[simp] theorem State.setQp_mbk (s : State) (q : Nat) : (s.setQp q).mbk = s.mbk := rfl
@[simp] theorem State.setQp_fail (s : State) (q : Nat) : (s.setQp q).fail = s.fail := rfl
@[simp] theorem State.setQp_mbi (s : State) (q : Nat) : (s.setQp q).mbi = s.mbi := rfl
@[simp] theorem State.setQp_refmv (s : State) (q : Nat) : (s.setQp q).refmv = s.refmv := rfl
@[simp] theorem State.setQp_refmvValid (s : State) (q : Nat) : (s.setQp q).refmvValid = s.refmvValid := rfl
@[simp] theorem State.setQp_pc (s : State) (q : Nat) : (s.setQp q).pc = s.pc := rfl
@[simp] theorem State.setQp_gmc (s : State) (q : Nat) : (s.setQp q).gmc = s.gmc := rfl
@[simp] theorem State.setQp_cur (s : State) (q : Nat) : (s.setQp q).cur = s.cur := rfl
@[simp] theorem State.setQp_refNew (s : State) (q : Nat) : (s.setQp q).refNew = s.refNew := rfl
@[simp] theorem State.setQp_refOld (s : State) (q : Nat) : (s.setQp q).refOld = s.refOld := rfl
@[simp] theorem State.setQp_rob (s : State) (q : Nat) : (s.setQp q).rob = s.rob := rfl
@[simp] theorem State.setQp_robSeq (s : State) (q : Nat) : (s.setQp q).robSeq = s.robSeq := rfl
@[simp] theorem State.setQp_outq (s : State) (q : Nat) : (s.setQp q).outq = s.outq := rfl
@[simp] theorem State.setQp_opened (s : State) (q : Nat) : (s.setQp q).opened = s.opened := rfl
@[simp] theorem State.setQp_flushing (s : State) (q : Nat) : (s.setQp q).flushing = s.flushing := rfl
@[simp] theorem State.setQp_waitKeyframe (s : State) (q : Nat) : (s.setQp q).waitKeyframe = s.waitKeyframe := rfl
@[simp] theorem State.setQp_params (s : State) (q : Nat) : (s.setQp q).params = s.params := rfl
@[simp] theorem State.setQp_inq (s : State) (q : Nat) : (s.setQp q).inq = s.inq := rfl
@[simp] theorem State.setQp_status (s : State) (q : Nat) : (s.setQp q).status = s.status := rfl
@[simp] theorem State.setQp_result (s : State) (q : Nat) : (s.setQp q).result = s.result := rfl

@[simp] theorem State.setEv_bs (s : State) (e : Event) : (s.setEv e).bs = s.bs := rfl
@[simp] theorem State.setEv_bslen (s : State) (e : Event) : (s.setEv e).bslen = s.bslen := rfl
@[simp] theorem State.setEv_bp (s : State) (e : Event) : (s.setEv e).bp = s.bp := rfl
@[simp] theorem State.setEv_vol (s : State) (e : Event) : (s.setEv e).vol = s.vol := rfl
@[simp] theorem State.setEv_qmIntra (s : State) (e : Event) : (s.setEv e).qmIntra = s.qmIntra := rfl
@[simp] theorem State.setEv_qmInter (s : State) (e : Event) : (s.setEv e).qmInter = s.qmInter := rfl
@[simp] theorem State.setEv_vop (s : State) (e : Event) : (s.setEv e).vop = s.vop := rfl
@[simp] theorem State.setEv_qf (s : State) (e : Event) : (s.setEv e).qf = s.qf := rfl
@[simp] theorem State.setEv_coef (s : State) (e : Event) : (s.setEv e).coef = s.coef := rfl
@[simp] theorem State.setEv_residual (s : State) (e : Event) : (s.setEv e).residual = s.residual := rfl
@[simp] theorem State.setEv_pred (s : State) (e : Event) : (s.setEv e).pred = s.pred := rfl
@[simp] theorem State.setEv_ev (s : State) (e : Event) : (s.setEv e).ev = e := rfl
@[simp] theorem State.setEv_mb (s : State) (e : Event) : (s.setEv e).mb = s.mb := rfl
@[simp] theorem State.setEv_pmvF (s : State) (e : Event) : (s.setEv e).pmvF = s.pmvF := rfl
@[simp] theorem State.setEv_pmvB (s : State) (e : Event) : (s.setEv e).pmvB = s.pmvB := rfl
@[simp] theorem State.setEv_qp (s : State) (e : Event) : (s.setEv e).qp = s.qp := rfl
@[simp] theorem State.setEv_prevQuant (s : State) (e : Event) : (s.setEv e).prevQuant = s.prevQuant := rfl
@[simp] theorem State.setEv_mbk (s : State) (e : Event) : (s.setEv e).mbk = s.mbk := rfl
@[simp] theorem State.setEv_fail (s : State) (e : Event) : (s.setEv e).fail = s.fail := rfl
@[simp] theorem State.setEv_mbi (s : State) (e : Event) : (s.setEv e).mbi = s.mbi := rfl
@[simp] theorem State.setEv_refmv (s : State) (e : Event) : (s.setEv e).refmv = s.refmv := rfl
@[simp] theorem State.setEv_refmvValid (s : State) (e : Event) : (s.setEv e).refmvValid = s.refmvValid := rfl
@[simp] theorem State.setEv_pc (s : State) (e : Event) : (s.setEv e).pc = s.pc := rfl
@[simp] theorem State.setEv_gmc (s : State) (e : Event) : (s.setEv e).gmc = s.gmc := rfl
@[simp] theorem State.setEv_cur (s : State) (e : Event) : (s.setEv e).cur = s.cur := rfl
@[simp] theorem State.setEv_refNew (s : State) (e : Event) : (s.setEv e).refNew = s.refNew := rfl
@[simp] theorem State.setEv_refOld (s : State) (e : Event) : (s.setEv e).refOld = s.refOld := rfl
@[simp] theorem State.setEv_rob (s : State) (e : Event) : (s.setEv e).rob = s.rob := rfl
@[simp] theorem State.setEv_robSeq (s : State) (e : Event) : (s.setEv e).robSeq = s.robSeq := rfl
@[simp] theorem State.setEv_outq (s : State) (e : Event) : (s.setEv e).outq = s.outq := rfl
@[simp] theorem State.setEv_opened (s : State) (e : Event) : (s.setEv e).opened = s.opened := rfl
@[simp] theorem State.setEv_flushing (s : State) (e : Event) : (s.setEv e).flushing = s.flushing := rfl
@[simp] theorem State.setEv_waitKeyframe (s : State) (e : Event) : (s.setEv e).waitKeyframe = s.waitKeyframe := rfl
@[simp] theorem State.setEv_params (s : State) (e : Event) : (s.setEv e).params = s.params := rfl
@[simp] theorem State.setEv_inq (s : State) (e : Event) : (s.setEv e).inq = s.inq := rfl
@[simp] theorem State.setEv_status (s : State) (e : Event) : (s.setEv e).status = s.status := rfl
@[simp] theorem State.setEv_result (s : State) (e : Event) : (s.setEv e).result = s.result := rfl

@[simp] theorem State.setMb_bs (s : State) (m : MbRegs) : (s.setMb m).bs = s.bs := rfl
@[simp] theorem State.setMb_bslen (s : State) (m : MbRegs) : (s.setMb m).bslen = s.bslen := rfl
@[simp] theorem State.setMb_bp (s : State) (m : MbRegs) : (s.setMb m).bp = s.bp := rfl
@[simp] theorem State.setMb_vol (s : State) (m : MbRegs) : (s.setMb m).vol = s.vol := rfl
@[simp] theorem State.setMb_qmIntra (s : State) (m : MbRegs) : (s.setMb m).qmIntra = s.qmIntra := rfl
@[simp] theorem State.setMb_qmInter (s : State) (m : MbRegs) : (s.setMb m).qmInter = s.qmInter := rfl
@[simp] theorem State.setMb_vop (s : State) (m : MbRegs) : (s.setMb m).vop = s.vop := rfl
@[simp] theorem State.setMb_qf (s : State) (m : MbRegs) : (s.setMb m).qf = s.qf := rfl
@[simp] theorem State.setMb_coef (s : State) (m : MbRegs) : (s.setMb m).coef = s.coef := rfl
@[simp] theorem State.setMb_residual (s : State) (m : MbRegs) : (s.setMb m).residual = s.residual := rfl
@[simp] theorem State.setMb_pred (s : State) (m : MbRegs) : (s.setMb m).pred = s.pred := rfl
@[simp] theorem State.setMb_ev (s : State) (m : MbRegs) : (s.setMb m).ev = s.ev := rfl
@[simp] theorem State.setMb_mb (s : State) (m : MbRegs) : (s.setMb m).mb = m := rfl
@[simp] theorem State.setMb_pmvF (s : State) (m : MbRegs) : (s.setMb m).pmvF = s.pmvF := rfl
@[simp] theorem State.setMb_pmvB (s : State) (m : MbRegs) : (s.setMb m).pmvB = s.pmvB := rfl
@[simp] theorem State.setMb_qp (s : State) (m : MbRegs) : (s.setMb m).qp = s.qp := rfl
@[simp] theorem State.setMb_prevQuant (s : State) (m : MbRegs) : (s.setMb m).prevQuant = s.prevQuant := rfl
@[simp] theorem State.setMb_mbk (s : State) (m : MbRegs) : (s.setMb m).mbk = s.mbk := rfl
@[simp] theorem State.setMb_fail (s : State) (m : MbRegs) : (s.setMb m).fail = s.fail := rfl
@[simp] theorem State.setMb_mbi (s : State) (m : MbRegs) : (s.setMb m).mbi = s.mbi := rfl
@[simp] theorem State.setMb_refmv (s : State) (m : MbRegs) : (s.setMb m).refmv = s.refmv := rfl
@[simp] theorem State.setMb_refmvValid (s : State) (m : MbRegs) : (s.setMb m).refmvValid = s.refmvValid := rfl
@[simp] theorem State.setMb_pc (s : State) (m : MbRegs) : (s.setMb m).pc = s.pc := rfl
@[simp] theorem State.setMb_gmc (s : State) (m : MbRegs) : (s.setMb m).gmc = s.gmc := rfl
@[simp] theorem State.setMb_cur (s : State) (m : MbRegs) : (s.setMb m).cur = s.cur := rfl
@[simp] theorem State.setMb_refNew (s : State) (m : MbRegs) : (s.setMb m).refNew = s.refNew := rfl
@[simp] theorem State.setMb_refOld (s : State) (m : MbRegs) : (s.setMb m).refOld = s.refOld := rfl
@[simp] theorem State.setMb_rob (s : State) (m : MbRegs) : (s.setMb m).rob = s.rob := rfl
@[simp] theorem State.setMb_robSeq (s : State) (m : MbRegs) : (s.setMb m).robSeq = s.robSeq := rfl
@[simp] theorem State.setMb_outq (s : State) (m : MbRegs) : (s.setMb m).outq = s.outq := rfl
@[simp] theorem State.setMb_opened (s : State) (m : MbRegs) : (s.setMb m).opened = s.opened := rfl
@[simp] theorem State.setMb_flushing (s : State) (m : MbRegs) : (s.setMb m).flushing = s.flushing := rfl
@[simp] theorem State.setMb_waitKeyframe (s : State) (m : MbRegs) : (s.setMb m).waitKeyframe = s.waitKeyframe := rfl
@[simp] theorem State.setMb_params (s : State) (m : MbRegs) : (s.setMb m).params = s.params := rfl
@[simp] theorem State.setMb_inq (s : State) (m : MbRegs) : (s.setMb m).inq = s.inq := rfl
@[simp] theorem State.setMb_status (s : State) (m : MbRegs) : (s.setMb m).status = s.status := rfl
@[simp] theorem State.setMb_result (s : State) (m : MbRegs) : (s.setMb m).result = s.result := rfl

@[simp] theorem State.setQf_bs (s : State) (q : Vector Int 64) : (s.setQf q).bs = s.bs := rfl
@[simp] theorem State.setQf_bslen (s : State) (q : Vector Int 64) : (s.setQf q).bslen = s.bslen := rfl
@[simp] theorem State.setQf_bp (s : State) (q : Vector Int 64) : (s.setQf q).bp = s.bp := rfl
@[simp] theorem State.setQf_vol (s : State) (q : Vector Int 64) : (s.setQf q).vol = s.vol := rfl
@[simp] theorem State.setQf_qmIntra (s : State) (q : Vector Int 64) : (s.setQf q).qmIntra = s.qmIntra := rfl
@[simp] theorem State.setQf_qmInter (s : State) (q : Vector Int 64) : (s.setQf q).qmInter = s.qmInter := rfl
@[simp] theorem State.setQf_vop (s : State) (q : Vector Int 64) : (s.setQf q).vop = s.vop := rfl
@[simp] theorem State.setQf_qf (s : State) (q : Vector Int 64) : (s.setQf q).qf = q := rfl
@[simp] theorem State.setQf_coef (s : State) (q : Vector Int 64) : (s.setQf q).coef = s.coef := rfl
@[simp] theorem State.setQf_residual (s : State) (q : Vector Int 64) : (s.setQf q).residual = s.residual := rfl
@[simp] theorem State.setQf_pred (s : State) (q : Vector Int 64) : (s.setQf q).pred = s.pred := rfl
@[simp] theorem State.setQf_ev (s : State) (q : Vector Int 64) : (s.setQf q).ev = s.ev := rfl
@[simp] theorem State.setQf_mb (s : State) (q : Vector Int 64) : (s.setQf q).mb = s.mb := rfl
@[simp] theorem State.setQf_pmvF (s : State) (q : Vector Int 64) : (s.setQf q).pmvF = s.pmvF := rfl
@[simp] theorem State.setQf_pmvB (s : State) (q : Vector Int 64) : (s.setQf q).pmvB = s.pmvB := rfl
@[simp] theorem State.setQf_qp (s : State) (q : Vector Int 64) : (s.setQf q).qp = s.qp := rfl
@[simp] theorem State.setQf_prevQuant (s : State) (q : Vector Int 64) : (s.setQf q).prevQuant = s.prevQuant := rfl
@[simp] theorem State.setQf_mbk (s : State) (q : Vector Int 64) : (s.setQf q).mbk = s.mbk := rfl
@[simp] theorem State.setQf_fail (s : State) (q : Vector Int 64) : (s.setQf q).fail = s.fail := rfl
@[simp] theorem State.setQf_mbi (s : State) (q : Vector Int 64) : (s.setQf q).mbi = s.mbi := rfl
@[simp] theorem State.setQf_refmv (s : State) (q : Vector Int 64) : (s.setQf q).refmv = s.refmv := rfl
@[simp] theorem State.setQf_refmvValid (s : State) (q : Vector Int 64) : (s.setQf q).refmvValid = s.refmvValid := rfl
@[simp] theorem State.setQf_pc (s : State) (q : Vector Int 64) : (s.setQf q).pc = s.pc := rfl
@[simp] theorem State.setQf_gmc (s : State) (q : Vector Int 64) : (s.setQf q).gmc = s.gmc := rfl
@[simp] theorem State.setQf_cur (s : State) (q : Vector Int 64) : (s.setQf q).cur = s.cur := rfl
@[simp] theorem State.setQf_refNew (s : State) (q : Vector Int 64) : (s.setQf q).refNew = s.refNew := rfl
@[simp] theorem State.setQf_refOld (s : State) (q : Vector Int 64) : (s.setQf q).refOld = s.refOld := rfl
@[simp] theorem State.setQf_rob (s : State) (q : Vector Int 64) : (s.setQf q).rob = s.rob := rfl
@[simp] theorem State.setQf_robSeq (s : State) (q : Vector Int 64) : (s.setQf q).robSeq = s.robSeq := rfl
@[simp] theorem State.setQf_outq (s : State) (q : Vector Int 64) : (s.setQf q).outq = s.outq := rfl
@[simp] theorem State.setQf_opened (s : State) (q : Vector Int 64) : (s.setQf q).opened = s.opened := rfl
@[simp] theorem State.setQf_flushing (s : State) (q : Vector Int 64) : (s.setQf q).flushing = s.flushing := rfl
@[simp] theorem State.setQf_waitKeyframe (s : State) (q : Vector Int 64) : (s.setQf q).waitKeyframe = s.waitKeyframe := rfl
@[simp] theorem State.setQf_params (s : State) (q : Vector Int 64) : (s.setQf q).params = s.params := rfl
@[simp] theorem State.setQf_inq (s : State) (q : Vector Int 64) : (s.setQf q).inq = s.inq := rfl
@[simp] theorem State.setQf_status (s : State) (q : Vector Int 64) : (s.setQf q).status = s.status := rfl
@[simp] theorem State.setQf_result (s : State) (q : Vector Int 64) : (s.setQf q).result = s.result := rfl

@[simp] theorem State.raise_bs (s : State) (k : Kind) : (s.raise k).bs = s.bs := rfl
@[simp] theorem State.raise_bslen (s : State) (k : Kind) : (s.raise k).bslen = s.bslen := rfl
@[simp] theorem State.raise_bp (s : State) (k : Kind) : (s.raise k).bp = s.bp := rfl
@[simp] theorem State.raise_vol (s : State) (k : Kind) : (s.raise k).vol = s.vol := rfl
@[simp] theorem State.raise_qmIntra (s : State) (k : Kind) : (s.raise k).qmIntra = s.qmIntra := rfl
@[simp] theorem State.raise_qmInter (s : State) (k : Kind) : (s.raise k).qmInter = s.qmInter := rfl
@[simp] theorem State.raise_vop (s : State) (k : Kind) : (s.raise k).vop = s.vop := rfl
@[simp] theorem State.raise_qf (s : State) (k : Kind) : (s.raise k).qf = s.qf := rfl
@[simp] theorem State.raise_coef (s : State) (k : Kind) : (s.raise k).coef = s.coef := rfl
@[simp] theorem State.raise_residual (s : State) (k : Kind) : (s.raise k).residual = s.residual := rfl
@[simp] theorem State.raise_pred (s : State) (k : Kind) : (s.raise k).pred = s.pred := rfl
@[simp] theorem State.raise_ev (s : State) (k : Kind) : (s.raise k).ev = s.ev := rfl
@[simp] theorem State.raise_mb (s : State) (k : Kind) : (s.raise k).mb = s.mb := rfl
@[simp] theorem State.raise_pmvF (s : State) (k : Kind) : (s.raise k).pmvF = s.pmvF := rfl
@[simp] theorem State.raise_pmvB (s : State) (k : Kind) : (s.raise k).pmvB = s.pmvB := rfl
@[simp] theorem State.raise_qp (s : State) (k : Kind) : (s.raise k).qp = s.qp := rfl
@[simp] theorem State.raise_prevQuant (s : State) (k : Kind) : (s.raise k).prevQuant = s.prevQuant := rfl
@[simp] theorem State.raise_mbk (s : State) (k : Kind) : (s.raise k).mbk = s.mbk := rfl
@[simp] theorem State.raise_fail (s : State) (k : Kind) : (s.raise k).fail = s.fail := rfl
@[simp] theorem State.raise_mbi (s : State) (k : Kind) : (s.raise k).mbi = s.mbi := rfl
@[simp] theorem State.raise_refmv (s : State) (k : Kind) : (s.raise k).refmv = s.refmv := rfl
@[simp] theorem State.raise_refmvValid (s : State) (k : Kind) : (s.raise k).refmvValid = s.refmvValid := rfl
@[simp] theorem State.raise_pc (s : State) (k : Kind) : (s.raise k).pc = s.pc := rfl
@[simp] theorem State.raise_gmc (s : State) (k : Kind) : (s.raise k).gmc = s.gmc := rfl
@[simp] theorem State.raise_cur (s : State) (k : Kind) : (s.raise k).cur = s.cur := rfl
@[simp] theorem State.raise_refNew (s : State) (k : Kind) : (s.raise k).refNew = s.refNew := rfl
@[simp] theorem State.raise_refOld (s : State) (k : Kind) : (s.raise k).refOld = s.refOld := rfl
@[simp] theorem State.raise_rob (s : State) (k : Kind) : (s.raise k).rob = s.rob := rfl
@[simp] theorem State.raise_robSeq (s : State) (k : Kind) : (s.raise k).robSeq = s.robSeq := rfl
@[simp] theorem State.raise_outq (s : State) (k : Kind) : (s.raise k).outq = s.outq := rfl
@[simp] theorem State.raise_opened (s : State) (k : Kind) : (s.raise k).opened = s.opened := rfl
@[simp] theorem State.raise_flushing (s : State) (k : Kind) : (s.raise k).flushing = s.flushing := rfl
@[simp] theorem State.raise_waitKeyframe (s : State) (k : Kind) : (s.raise k).waitKeyframe = s.waitKeyframe := rfl
@[simp] theorem State.raise_params (s : State) (k : Kind) : (s.raise k).params = s.params := rfl
@[simp] theorem State.raise_inq (s : State) (k : Kind) : (s.raise k).inq = s.inq := rfl
@[simp] theorem State.raise_status (s : State) (k : Kind) : (s.raise k).status = .failed k := rfl
@[simp] theorem State.raise_result (s : State) (k : Kind) : (s.raise k).result = .none := rfl

@[simp] theorem State.finish_bs (s : State) (r : Result) : (s.finish r).bs = s.bs := rfl
@[simp] theorem State.finish_bslen (s : State) (r : Result) : (s.finish r).bslen = s.bslen := rfl
@[simp] theorem State.finish_bp (s : State) (r : Result) : (s.finish r).bp = s.bp := rfl
@[simp] theorem State.finish_vol (s : State) (r : Result) : (s.finish r).vol = s.vol := rfl
@[simp] theorem State.finish_qmIntra (s : State) (r : Result) : (s.finish r).qmIntra = s.qmIntra := rfl
@[simp] theorem State.finish_qmInter (s : State) (r : Result) : (s.finish r).qmInter = s.qmInter := rfl
@[simp] theorem State.finish_vop (s : State) (r : Result) : (s.finish r).vop = s.vop := rfl
@[simp] theorem State.finish_qf (s : State) (r : Result) : (s.finish r).qf = s.qf := rfl
@[simp] theorem State.finish_coef (s : State) (r : Result) : (s.finish r).coef = s.coef := rfl
@[simp] theorem State.finish_residual (s : State) (r : Result) : (s.finish r).residual = s.residual := rfl
@[simp] theorem State.finish_pred (s : State) (r : Result) : (s.finish r).pred = s.pred := rfl
@[simp] theorem State.finish_ev (s : State) (r : Result) : (s.finish r).ev = s.ev := rfl
@[simp] theorem State.finish_mb (s : State) (r : Result) : (s.finish r).mb = s.mb := rfl
@[simp] theorem State.finish_pmvF (s : State) (r : Result) : (s.finish r).pmvF = s.pmvF := rfl
@[simp] theorem State.finish_pmvB (s : State) (r : Result) : (s.finish r).pmvB = s.pmvB := rfl
@[simp] theorem State.finish_qp (s : State) (r : Result) : (s.finish r).qp = s.qp := rfl
@[simp] theorem State.finish_prevQuant (s : State) (r : Result) : (s.finish r).prevQuant = s.prevQuant := rfl
@[simp] theorem State.finish_mbk (s : State) (r : Result) : (s.finish r).mbk = s.mbk := rfl
@[simp] theorem State.finish_fail (s : State) (r : Result) : (s.finish r).fail = s.fail := rfl
@[simp] theorem State.finish_mbi (s : State) (r : Result) : (s.finish r).mbi = s.mbi := rfl
@[simp] theorem State.finish_refmv (s : State) (r : Result) : (s.finish r).refmv = s.refmv := rfl
@[simp] theorem State.finish_refmvValid (s : State) (r : Result) : (s.finish r).refmvValid = s.refmvValid := rfl
@[simp] theorem State.finish_pc (s : State) (r : Result) : (s.finish r).pc = s.pc := rfl
@[simp] theorem State.finish_gmc (s : State) (r : Result) : (s.finish r).gmc = s.gmc := rfl
@[simp] theorem State.finish_cur (s : State) (r : Result) : (s.finish r).cur = s.cur := rfl
@[simp] theorem State.finish_refNew (s : State) (r : Result) : (s.finish r).refNew = s.refNew := rfl
@[simp] theorem State.finish_refOld (s : State) (r : Result) : (s.finish r).refOld = s.refOld := rfl
@[simp] theorem State.finish_rob (s : State) (r : Result) : (s.finish r).rob = s.rob := rfl
@[simp] theorem State.finish_robSeq (s : State) (r : Result) : (s.finish r).robSeq = s.robSeq := rfl
@[simp] theorem State.finish_outq (s : State) (r : Result) : (s.finish r).outq = s.outq := rfl
@[simp] theorem State.finish_opened (s : State) (r : Result) : (s.finish r).opened = s.opened := rfl
@[simp] theorem State.finish_flushing (s : State) (r : Result) : (s.finish r).flushing = s.flushing := rfl
@[simp] theorem State.finish_waitKeyframe (s : State) (r : Result) : (s.finish r).waitKeyframe = s.waitKeyframe := rfl
@[simp] theorem State.finish_params (s : State) (r : Result) : (s.finish r).params = s.params := rfl
@[simp] theorem State.finish_inq (s : State) (r : Result) : (s.finish r).inq = s.inq := rfl
@[simp] theorem State.finish_status (s : State) (r : Result) : (s.finish r).status = .ok := rfl
@[simp] theorem State.finish_result (s : State) (r : Result) : (s.finish r).result = r := rfl

@[simp] theorem State.loadVop_bs (s : State) (h : VopHeader) : (s.loadVop h).bs = s.bs := rfl
@[simp] theorem State.loadVop_bslen (s : State) (h : VopHeader) : (s.loadVop h).bslen = s.bslen := rfl
@[simp] theorem State.loadVop_bp (s : State) (h : VopHeader) : (s.loadVop h).bp = s.bp := rfl
@[simp] theorem State.loadVop_vol (s : State) (h : VopHeader) : (s.loadVop h).vol = s.vol := rfl
@[simp] theorem State.loadVop_qmIntra (s : State) (h : VopHeader) : (s.loadVop h).qmIntra = s.qmIntra := rfl
@[simp] theorem State.loadVop_qmInter (s : State) (h : VopHeader) : (s.loadVop h).qmInter = s.qmInter := rfl
@[simp] theorem State.loadVop_vop (s : State) (h : VopHeader) : (s.loadVop h).vop = h := rfl
@[simp] theorem State.loadVop_qf (s : State) (h : VopHeader) : (s.loadVop h).qf = s.qf := rfl
@[simp] theorem State.loadVop_coef (s : State) (h : VopHeader) : (s.loadVop h).coef = s.coef := rfl
@[simp] theorem State.loadVop_residual (s : State) (h : VopHeader) : (s.loadVop h).residual = s.residual := rfl
@[simp] theorem State.loadVop_pred (s : State) (h : VopHeader) : (s.loadVop h).pred = s.pred := rfl
@[simp] theorem State.loadVop_ev (s : State) (h : VopHeader) : (s.loadVop h).ev = s.ev := rfl
@[simp] theorem State.loadVop_mb (s : State) (h : VopHeader) : (s.loadVop h).mb = s.mb := rfl
@[simp] theorem State.loadVop_pmvF (s : State) (h : VopHeader) : (s.loadVop h).pmvF = s.pmvF := rfl
@[simp] theorem State.loadVop_pmvB (s : State) (h : VopHeader) : (s.loadVop h).pmvB = s.pmvB := rfl
@[simp] theorem State.loadVop_qp (s : State) (h : VopHeader) : (s.loadVop h).qp = s.qp := rfl
@[simp] theorem State.loadVop_prevQuant (s : State) (h : VopHeader) : (s.loadVop h).prevQuant = s.prevQuant := rfl
@[simp] theorem State.loadVop_mbk (s : State) (h : VopHeader) : (s.loadVop h).mbk = s.mbk := rfl
@[simp] theorem State.loadVop_fail (s : State) (h : VopHeader) : (s.loadVop h).fail = s.fail := rfl
@[simp] theorem State.loadVop_mbi (s : State) (h : VopHeader) : (s.loadVop h).mbi = s.mbi := rfl
@[simp] theorem State.loadVop_refmv (s : State) (h : VopHeader) : (s.loadVop h).refmv = s.refmv := rfl
@[simp] theorem State.loadVop_refmvValid (s : State) (h : VopHeader) : (s.loadVop h).refmvValid = s.refmvValid := rfl
@[simp] theorem State.loadVop_pc (s : State) (h : VopHeader) : (s.loadVop h).pc = s.pc := rfl
@[simp] theorem State.loadVop_gmc (s : State) (h : VopHeader) : (s.loadVop h).gmc = s.gmc := rfl
@[simp] theorem State.loadVop_cur (s : State) (h : VopHeader) : (s.loadVop h).cur = s.cur := rfl
@[simp] theorem State.loadVop_refNew (s : State) (h : VopHeader) : (s.loadVop h).refNew = s.refNew := rfl
@[simp] theorem State.loadVop_refOld (s : State) (h : VopHeader) : (s.loadVop h).refOld = s.refOld := rfl
@[simp] theorem State.loadVop_rob (s : State) (h : VopHeader) : (s.loadVop h).rob = s.rob := rfl
@[simp] theorem State.loadVop_robSeq (s : State) (h : VopHeader) : (s.loadVop h).robSeq = s.robSeq := rfl
@[simp] theorem State.loadVop_outq (s : State) (h : VopHeader) : (s.loadVop h).outq = s.outq := rfl
@[simp] theorem State.loadVop_opened (s : State) (h : VopHeader) : (s.loadVop h).opened = s.opened := rfl
@[simp] theorem State.loadVop_flushing (s : State) (h : VopHeader) : (s.loadVop h).flushing = s.flushing := rfl
@[simp] theorem State.loadVop_waitKeyframe (s : State) (h : VopHeader) : (s.loadVop h).waitKeyframe = s.waitKeyframe := rfl
@[simp] theorem State.loadVop_params (s : State) (h : VopHeader) : (s.loadVop h).params = s.params := rfl
@[simp] theorem State.loadVop_inq (s : State) (h : VopHeader) : (s.loadVop h).inq = s.inq := rfl
@[simp] theorem State.loadVop_status (s : State) (h : VopHeader) : (s.loadVop h).status = s.status := rfl
@[simp] theorem State.loadVop_result (s : State) (h : VopHeader) : (s.loadVop h).result = s.result := rfl

@[simp] theorem State.idct_bs (s : State) : (s.idct).bs = s.bs := by dsimp only [State.idct]
@[simp] theorem State.idct_bslen (s : State) : (s.idct).bslen = s.bslen := by dsimp only [State.idct]
@[simp] theorem State.idct_bp (s : State) : (s.idct).bp = s.bp := by dsimp only [State.idct]
@[simp] theorem State.idct_vol (s : State) : (s.idct).vol = s.vol := by dsimp only [State.idct]
@[simp] theorem State.idct_qmIntra (s : State) : (s.idct).qmIntra = s.qmIntra := by dsimp only [State.idct]
@[simp] theorem State.idct_qmInter (s : State) : (s.idct).qmInter = s.qmInter := by dsimp only [State.idct]
@[simp] theorem State.idct_vop (s : State) : (s.idct).vop = s.vop := by dsimp only [State.idct]
@[simp] theorem State.idct_qf (s : State) : (s.idct).qf = s.qf := by dsimp only [State.idct]
@[simp] theorem State.idct_coef (s : State) : (s.idct).coef = s.coef := by dsimp only [State.idct]
@[simp] theorem State.idct_residual (s : State) : (s.idct).residual = idctCols (idctRows s.coef) := by dsimp only [State.idct]
@[simp] theorem State.idct_pred (s : State) : (s.idct).pred = s.pred := by dsimp only [State.idct]
@[simp] theorem State.idct_ev (s : State) : (s.idct).ev = s.ev := by dsimp only [State.idct]
@[simp] theorem State.idct_mb (s : State) : (s.idct).mb = s.mb := by dsimp only [State.idct]
@[simp] theorem State.idct_pmvF (s : State) : (s.idct).pmvF = s.pmvF := by dsimp only [State.idct]
@[simp] theorem State.idct_pmvB (s : State) : (s.idct).pmvB = s.pmvB := by dsimp only [State.idct]
@[simp] theorem State.idct_qp (s : State) : (s.idct).qp = s.qp := by dsimp only [State.idct]
@[simp] theorem State.idct_prevQuant (s : State) : (s.idct).prevQuant = s.prevQuant := by dsimp only [State.idct]
@[simp] theorem State.idct_mbk (s : State) : (s.idct).mbk = s.mbk := by dsimp only [State.idct]
@[simp] theorem State.idct_fail (s : State) : (s.idct).fail = s.fail := by dsimp only [State.idct]
@[simp] theorem State.idct_mbi (s : State) : (s.idct).mbi = s.mbi := by dsimp only [State.idct]
@[simp] theorem State.idct_refmv (s : State) : (s.idct).refmv = s.refmv := by dsimp only [State.idct]
@[simp] theorem State.idct_refmvValid (s : State) : (s.idct).refmvValid = s.refmvValid := by dsimp only [State.idct]
@[simp] theorem State.idct_pc (s : State) : (s.idct).pc = s.pc := by dsimp only [State.idct]
@[simp] theorem State.idct_gmc (s : State) : (s.idct).gmc = s.gmc := by dsimp only [State.idct]
@[simp] theorem State.idct_cur (s : State) : (s.idct).cur = s.cur := by dsimp only [State.idct]
@[simp] theorem State.idct_refNew (s : State) : (s.idct).refNew = s.refNew := by dsimp only [State.idct]
@[simp] theorem State.idct_refOld (s : State) : (s.idct).refOld = s.refOld := by dsimp only [State.idct]
@[simp] theorem State.idct_rob (s : State) : (s.idct).rob = s.rob := by dsimp only [State.idct]
@[simp] theorem State.idct_robSeq (s : State) : (s.idct).robSeq = s.robSeq := by dsimp only [State.idct]
@[simp] theorem State.idct_outq (s : State) : (s.idct).outq = s.outq := by dsimp only [State.idct]
@[simp] theorem State.idct_opened (s : State) : (s.idct).opened = s.opened := by dsimp only [State.idct]
@[simp] theorem State.idct_flushing (s : State) : (s.idct).flushing = s.flushing := by dsimp only [State.idct]
@[simp] theorem State.idct_waitKeyframe (s : State) : (s.idct).waitKeyframe = s.waitKeyframe := by dsimp only [State.idct]
@[simp] theorem State.idct_params (s : State) : (s.idct).params = s.params := by dsimp only [State.idct]
@[simp] theorem State.idct_inq (s : State) : (s.idct).inq = s.inq := by dsimp only [State.idct]
@[simp] theorem State.idct_status (s : State) : (s.idct).status = s.status := by dsimp only [State.idct]
@[simp] theorem State.idct_result (s : State) : (s.idct).result = s.result := by dsimp only [State.idct]

@[simp] theorem State.mbiWrite_bs (s : State) (k : Nat) : (s.mbiWrite k).bs = s.bs := rfl
@[simp] theorem State.mbiWrite_bslen (s : State) (k : Nat) : (s.mbiWrite k).bslen = s.bslen := rfl
@[simp] theorem State.mbiWrite_bp (s : State) (k : Nat) : (s.mbiWrite k).bp = s.bp := rfl
@[simp] theorem State.mbiWrite_vol (s : State) (k : Nat) : (s.mbiWrite k).vol = s.vol := rfl
@[simp] theorem State.mbiWrite_qmIntra (s : State) (k : Nat) : (s.mbiWrite k).qmIntra = s.qmIntra := rfl
@[simp] theorem State.mbiWrite_qmInter (s : State) (k : Nat) : (s.mbiWrite k).qmInter = s.qmInter := rfl
@[simp] theorem State.mbiWrite_vop (s : State) (k : Nat) : (s.mbiWrite k).vop = s.vop := rfl
@[simp] theorem State.mbiWrite_qf (s : State) (k : Nat) : (s.mbiWrite k).qf = s.qf := rfl
@[simp] theorem State.mbiWrite_coef (s : State) (k : Nat) : (s.mbiWrite k).coef = s.coef := rfl
@[simp] theorem State.mbiWrite_residual (s : State) (k : Nat) : (s.mbiWrite k).residual = s.residual := rfl
@[simp] theorem State.mbiWrite_pred (s : State) (k : Nat) : (s.mbiWrite k).pred = s.pred := rfl
@[simp] theorem State.mbiWrite_ev (s : State) (k : Nat) : (s.mbiWrite k).ev = s.ev := rfl
@[simp] theorem State.mbiWrite_mb (s : State) (k : Nat) : (s.mbiWrite k).mb = s.mb := rfl
@[simp] theorem State.mbiWrite_pmvF (s : State) (k : Nat) : (s.mbiWrite k).pmvF = s.pmvF := rfl
@[simp] theorem State.mbiWrite_pmvB (s : State) (k : Nat) : (s.mbiWrite k).pmvB = s.pmvB := rfl
@[simp] theorem State.mbiWrite_qp (s : State) (k : Nat) : (s.mbiWrite k).qp = s.qp := rfl
@[simp] theorem State.mbiWrite_prevQuant (s : State) (k : Nat) : (s.mbiWrite k).prevQuant = s.prevQuant := rfl
@[simp] theorem State.mbiWrite_mbk (s : State) (k : Nat) : (s.mbiWrite k).mbk = s.mbk := rfl
@[simp] theorem State.mbiWrite_fail (s : State) (k : Nat) : (s.mbiWrite k).fail = s.fail := rfl
@[simp] theorem State.mbiWrite_mbi (s : State) (k : Nat) : (s.mbiWrite k).mbi = s.mbi.set k ⟨s.mb.mode, s.qp, if hasVectors s.mb.mode then s.mb.mv else allFour MV.zero⟩ := rfl
@[simp] theorem State.mbiWrite_refmv (s : State) (k : Nat) : (s.mbiWrite k).refmv = s.refmv := rfl
@[simp] theorem State.mbiWrite_refmvValid (s : State) (k : Nat) : (s.mbiWrite k).refmvValid = s.refmvValid := rfl
@[simp] theorem State.mbiWrite_pc (s : State) (k : Nat) : (s.mbiWrite k).pc = s.pc := rfl
@[simp] theorem State.mbiWrite_gmc (s : State) (k : Nat) : (s.mbiWrite k).gmc = s.gmc := rfl
@[simp] theorem State.mbiWrite_cur (s : State) (k : Nat) : (s.mbiWrite k).cur = s.cur := rfl
@[simp] theorem State.mbiWrite_refNew (s : State) (k : Nat) : (s.mbiWrite k).refNew = s.refNew := rfl
@[simp] theorem State.mbiWrite_refOld (s : State) (k : Nat) : (s.mbiWrite k).refOld = s.refOld := rfl
@[simp] theorem State.mbiWrite_rob (s : State) (k : Nat) : (s.mbiWrite k).rob = s.rob := rfl
@[simp] theorem State.mbiWrite_robSeq (s : State) (k : Nat) : (s.mbiWrite k).robSeq = s.robSeq := rfl
@[simp] theorem State.mbiWrite_outq (s : State) (k : Nat) : (s.mbiWrite k).outq = s.outq := rfl
@[simp] theorem State.mbiWrite_opened (s : State) (k : Nat) : (s.mbiWrite k).opened = s.opened := rfl
@[simp] theorem State.mbiWrite_flushing (s : State) (k : Nat) : (s.mbiWrite k).flushing = s.flushing := rfl
@[simp] theorem State.mbiWrite_waitKeyframe (s : State) (k : Nat) : (s.mbiWrite k).waitKeyframe = s.waitKeyframe := rfl
@[simp] theorem State.mbiWrite_params (s : State) (k : Nat) : (s.mbiWrite k).params = s.params := rfl
@[simp] theorem State.mbiWrite_inq (s : State) (k : Nat) : (s.mbiWrite k).inq = s.inq := rfl
@[simp] theorem State.mbiWrite_status (s : State) (k : Nat) : (s.mbiWrite k).status = s.status := rfl
@[simp] theorem State.mbiWrite_result (s : State) (k : Nat) : (s.mbiWrite k).result = s.result := rfl

@[simp] theorem State.direct_bs (s : State) (k : Nat) (d : MV) : (s.direct k d).bs = s.bs := rfl
@[simp] theorem State.direct_bslen (s : State) (k : Nat) (d : MV) : (s.direct k d).bslen = s.bslen := rfl
@[simp] theorem State.direct_bp (s : State) (k : Nat) (d : MV) : (s.direct k d).bp = s.bp := rfl
@[simp] theorem State.direct_vol (s : State) (k : Nat) (d : MV) : (s.direct k d).vol = s.vol := rfl
@[simp] theorem State.direct_qmIntra (s : State) (k : Nat) (d : MV) : (s.direct k d).qmIntra = s.qmIntra := rfl
@[simp] theorem State.direct_qmInter (s : State) (k : Nat) (d : MV) : (s.direct k d).qmInter = s.qmInter := rfl
@[simp] theorem State.direct_vop (s : State) (k : Nat) (d : MV) : (s.direct k d).vop = s.vop := rfl
@[simp] theorem State.direct_qf (s : State) (k : Nat) (d : MV) : (s.direct k d).qf = s.qf := rfl
@[simp] theorem State.direct_coef (s : State) (k : Nat) (d : MV) : (s.direct k d).coef = s.coef := rfl
@[simp] theorem State.direct_residual (s : State) (k : Nat) (d : MV) : (s.direct k d).residual = s.residual := rfl
@[simp] theorem State.direct_pred (s : State) (k : Nat) (d : MV) : (s.direct k d).pred = s.pred := rfl
@[simp] theorem State.direct_ev (s : State) (k : Nat) (d : MV) : (s.direct k d).ev = s.ev := rfl
@[simp] theorem State.direct_pmvF (s : State) (k : Nat) (d : MV) : (s.direct k d).pmvF = s.pmvF := rfl
@[simp] theorem State.direct_pmvB (s : State) (k : Nat) (d : MV) : (s.direct k d).pmvB = s.pmvB := rfl
@[simp] theorem State.direct_qp (s : State) (k : Nat) (d : MV) : (s.direct k d).qp = s.qp := rfl
@[simp] theorem State.direct_prevQuant (s : State) (k : Nat) (d : MV) : (s.direct k d).prevQuant = s.prevQuant := rfl
@[simp] theorem State.direct_mbk (s : State) (k : Nat) (d : MV) : (s.direct k d).mbk = s.mbk := rfl
@[simp] theorem State.direct_fail (s : State) (k : Nat) (d : MV) : (s.direct k d).fail = s.fail := rfl
@[simp] theorem State.direct_mbi (s : State) (k : Nat) (d : MV) : (s.direct k d).mbi = s.mbi := rfl
@[simp] theorem State.direct_refmv (s : State) (k : Nat) (d : MV) : (s.direct k d).refmv = s.refmv := rfl
@[simp] theorem State.direct_refmvValid (s : State) (k : Nat) (d : MV) : (s.direct k d).refmvValid = s.refmvValid := rfl
@[simp] theorem State.direct_pc (s : State) (k : Nat) (d : MV) : (s.direct k d).pc = s.pc := rfl
@[simp] theorem State.direct_gmc (s : State) (k : Nat) (d : MV) : (s.direct k d).gmc = s.gmc := rfl
@[simp] theorem State.direct_cur (s : State) (k : Nat) (d : MV) : (s.direct k d).cur = s.cur := rfl
@[simp] theorem State.direct_refNew (s : State) (k : Nat) (d : MV) : (s.direct k d).refNew = s.refNew := rfl
@[simp] theorem State.direct_refOld (s : State) (k : Nat) (d : MV) : (s.direct k d).refOld = s.refOld := rfl
@[simp] theorem State.direct_rob (s : State) (k : Nat) (d : MV) : (s.direct k d).rob = s.rob := rfl
@[simp] theorem State.direct_robSeq (s : State) (k : Nat) (d : MV) : (s.direct k d).robSeq = s.robSeq := rfl
@[simp] theorem State.direct_outq (s : State) (k : Nat) (d : MV) : (s.direct k d).outq = s.outq := rfl
@[simp] theorem State.direct_opened (s : State) (k : Nat) (d : MV) : (s.direct k d).opened = s.opened := rfl
@[simp] theorem State.direct_flushing (s : State) (k : Nat) (d : MV) : (s.direct k d).flushing = s.flushing := rfl
@[simp] theorem State.direct_waitKeyframe (s : State) (k : Nat) (d : MV) : (s.direct k d).waitKeyframe = s.waitKeyframe := rfl
@[simp] theorem State.direct_params (s : State) (k : Nat) (d : MV) : (s.direct k d).params = s.params := rfl
@[simp] theorem State.direct_inq (s : State) (k : Nat) (d : MV) : (s.direct k d).inq = s.inq := rfl
@[simp] theorem State.direct_status (s : State) (k : Nat) (d : MV) : (s.direct k d).status = s.status := rfl
@[simp] theorem State.direct_result (s : State) (k : Nat) (d : MV) : (s.direct k d).result = s.result := rfl

@[simp] theorem State.dcRecon_bs (s : State) (b : Fin 6) (diff pr : Int) : (s.dcRecon b diff pr).bs = s.bs := by dsimp only [State.dcRecon]
@[simp] theorem State.dcRecon_bslen (s : State) (b : Fin 6) (diff pr : Int) : (s.dcRecon b diff pr).bslen = s.bslen := by dsimp only [State.dcRecon]
@[simp] theorem State.dcRecon_bp (s : State) (b : Fin 6) (diff pr : Int) : (s.dcRecon b diff pr).bp = s.bp := by dsimp only [State.dcRecon]
@[simp] theorem State.dcRecon_vol (s : State) (b : Fin 6) (diff pr : Int) : (s.dcRecon b diff pr).vol = s.vol := by dsimp only [State.dcRecon]
@[simp] theorem State.dcRecon_qmIntra (s : State) (b : Fin 6) (diff pr : Int) : (s.dcRecon b diff pr).qmIntra = s.qmIntra := by dsimp only [State.dcRecon]
@[simp] theorem State.dcRecon_qmInter (s : State) (b : Fin 6) (diff pr : Int) : (s.dcRecon b diff pr).qmInter = s.qmInter := by dsimp only [State.dcRecon]
@[simp] theorem State.dcRecon_vop (s : State) (b : Fin 6) (diff pr : Int) : (s.dcRecon b diff pr).vop = s.vop := by dsimp only [State.dcRecon]
@[simp] theorem State.dcRecon_residual (s : State) (b : Fin 6) (diff pr : Int) : (s.dcRecon b diff pr).residual = s.residual := by dsimp only [State.dcRecon]
@[simp] theorem State.dcRecon_pred (s : State) (b : Fin 6) (diff pr : Int) : (s.dcRecon b diff pr).pred = s.pred := by dsimp only [State.dcRecon]
@[simp] theorem State.dcRecon_ev (s : State) (b : Fin 6) (diff pr : Int) : (s.dcRecon b diff pr).ev = s.ev := by dsimp only [State.dcRecon]
@[simp] theorem State.dcRecon_mb (s : State) (b : Fin 6) (diff pr : Int) : (s.dcRecon b diff pr).mb = s.mb := by dsimp only [State.dcRecon]
@[simp] theorem State.dcRecon_pmvF (s : State) (b : Fin 6) (diff pr : Int) : (s.dcRecon b diff pr).pmvF = s.pmvF := by dsimp only [State.dcRecon]
@[simp] theorem State.dcRecon_pmvB (s : State) (b : Fin 6) (diff pr : Int) : (s.dcRecon b diff pr).pmvB = s.pmvB := by dsimp only [State.dcRecon]
@[simp] theorem State.dcRecon_qp (s : State) (b : Fin 6) (diff pr : Int) : (s.dcRecon b diff pr).qp = s.qp := by dsimp only [State.dcRecon]
@[simp] theorem State.dcRecon_prevQuant (s : State) (b : Fin 6) (diff pr : Int) : (s.dcRecon b diff pr).prevQuant = s.prevQuant := by dsimp only [State.dcRecon]
@[simp] theorem State.dcRecon_mbk (s : State) (b : Fin 6) (diff pr : Int) : (s.dcRecon b diff pr).mbk = s.mbk := by dsimp only [State.dcRecon]
@[simp] theorem State.dcRecon_fail (s : State) (b : Fin 6) (diff pr : Int) : (s.dcRecon b diff pr).fail = s.fail := by dsimp only [State.dcRecon]
@[simp] theorem State.dcRecon_mbi (s : State) (b : Fin 6) (diff pr : Int) : (s.dcRecon b diff pr).mbi = s.mbi := by dsimp only [State.dcRecon]
@[simp] theorem State.dcRecon_refmv (s : State) (b : Fin 6) (diff pr : Int) : (s.dcRecon b diff pr).refmv = s.refmv := by dsimp only [State.dcRecon]
@[simp] theorem State.dcRecon_refmvValid (s : State) (b : Fin 6) (diff pr : Int) : (s.dcRecon b diff pr).refmvValid = s.refmvValid := by dsimp only [State.dcRecon]
@[simp] theorem State.dcRecon_pc (s : State) (b : Fin 6) (diff pr : Int) : (s.dcRecon b diff pr).pc = s.pc := by dsimp only [State.dcRecon]
@[simp] theorem State.dcRecon_gmc (s : State) (b : Fin 6) (diff pr : Int) : (s.dcRecon b diff pr).gmc = s.gmc := by dsimp only [State.dcRecon]
@[simp] theorem State.dcRecon_cur (s : State) (b : Fin 6) (diff pr : Int) : (s.dcRecon b diff pr).cur = s.cur := by dsimp only [State.dcRecon]
@[simp] theorem State.dcRecon_refNew (s : State) (b : Fin 6) (diff pr : Int) : (s.dcRecon b diff pr).refNew = s.refNew := by dsimp only [State.dcRecon]
@[simp] theorem State.dcRecon_refOld (s : State) (b : Fin 6) (diff pr : Int) : (s.dcRecon b diff pr).refOld = s.refOld := by dsimp only [State.dcRecon]
@[simp] theorem State.dcRecon_rob (s : State) (b : Fin 6) (diff pr : Int) : (s.dcRecon b diff pr).rob = s.rob := by dsimp only [State.dcRecon]
@[simp] theorem State.dcRecon_robSeq (s : State) (b : Fin 6) (diff pr : Int) : (s.dcRecon b diff pr).robSeq = s.robSeq := by dsimp only [State.dcRecon]
@[simp] theorem State.dcRecon_outq (s : State) (b : Fin 6) (diff pr : Int) : (s.dcRecon b diff pr).outq = s.outq := by dsimp only [State.dcRecon]
@[simp] theorem State.dcRecon_opened (s : State) (b : Fin 6) (diff pr : Int) : (s.dcRecon b diff pr).opened = s.opened := by dsimp only [State.dcRecon]
@[simp] theorem State.dcRecon_flushing (s : State) (b : Fin 6) (diff pr : Int) : (s.dcRecon b diff pr).flushing = s.flushing := by dsimp only [State.dcRecon]
@[simp] theorem State.dcRecon_waitKeyframe (s : State) (b : Fin 6) (diff pr : Int) : (s.dcRecon b diff pr).waitKeyframe = s.waitKeyframe := by dsimp only [State.dcRecon]
@[simp] theorem State.dcRecon_params (s : State) (b : Fin 6) (diff pr : Int) : (s.dcRecon b diff pr).params = s.params := by dsimp only [State.dcRecon]
@[simp] theorem State.dcRecon_inq (s : State) (b : Fin 6) (diff pr : Int) : (s.dcRecon b diff pr).inq = s.inq := by dsimp only [State.dcRecon]
@[simp] theorem State.dcRecon_status (s : State) (b : Fin 6) (diff pr : Int) : (s.dcRecon b diff pr).status = s.status := by dsimp only [State.dcRecon]
@[simp] theorem State.dcRecon_result (s : State) (b : Fin 6) (diff pr : Int) : (s.dcRecon b diff pr).result = s.result := by dsimp only [State.dcRecon]

@[simp] theorem State.pcUpdate_bs (s : State) (k : Nat) (b : Fin 6) : (s.pcUpdate k b).bs = s.bs := by dsimp only [State.pcUpdate]
@[simp] theorem State.pcUpdate_bslen (s : State) (k : Nat) (b : Fin 6) : (s.pcUpdate k b).bslen = s.bslen := by dsimp only [State.pcUpdate]
@[simp] theorem State.pcUpdate_bp (s : State) (k : Nat) (b : Fin 6) : (s.pcUpdate k b).bp = s.bp := by dsimp only [State.pcUpdate]
@[simp] theorem State.pcUpdate_vol (s : State) (k : Nat) (b : Fin 6) : (s.pcUpdate k b).vol = s.vol := by dsimp only [State.pcUpdate]
@[simp] theorem State.pcUpdate_qmIntra (s : State) (k : Nat) (b : Fin 6) : (s.pcUpdate k b).qmIntra = s.qmIntra := by dsimp only [State.pcUpdate]
@[simp] theorem State.pcUpdate_qmInter (s : State) (k : Nat) (b : Fin 6) : (s.pcUpdate k b).qmInter = s.qmInter := by dsimp only [State.pcUpdate]
@[simp] theorem State.pcUpdate_vop (s : State) (k : Nat) (b : Fin 6) : (s.pcUpdate k b).vop = s.vop := by dsimp only [State.pcUpdate]
@[simp] theorem State.pcUpdate_qf (s : State) (k : Nat) (b : Fin 6) : (s.pcUpdate k b).qf = s.qf := by dsimp only [State.pcUpdate]
@[simp] theorem State.pcUpdate_coef (s : State) (k : Nat) (b : Fin 6) : (s.pcUpdate k b).coef = s.coef := by dsimp only [State.pcUpdate]
@[simp] theorem State.pcUpdate_residual (s : State) (k : Nat) (b : Fin 6) : (s.pcUpdate k b).residual = s.residual := by dsimp only [State.pcUpdate]
@[simp] theorem State.pcUpdate_pred (s : State) (k : Nat) (b : Fin 6) : (s.pcUpdate k b).pred = s.pred := by dsimp only [State.pcUpdate]
@[simp] theorem State.pcUpdate_ev (s : State) (k : Nat) (b : Fin 6) : (s.pcUpdate k b).ev = s.ev := by dsimp only [State.pcUpdate]
@[simp] theorem State.pcUpdate_mb (s : State) (k : Nat) (b : Fin 6) : (s.pcUpdate k b).mb = s.mb := by dsimp only [State.pcUpdate]
@[simp] theorem State.pcUpdate_pmvF (s : State) (k : Nat) (b : Fin 6) : (s.pcUpdate k b).pmvF = s.pmvF := by dsimp only [State.pcUpdate]
@[simp] theorem State.pcUpdate_pmvB (s : State) (k : Nat) (b : Fin 6) : (s.pcUpdate k b).pmvB = s.pmvB := by dsimp only [State.pcUpdate]
@[simp] theorem State.pcUpdate_qp (s : State) (k : Nat) (b : Fin 6) : (s.pcUpdate k b).qp = s.qp := by dsimp only [State.pcUpdate]
@[simp] theorem State.pcUpdate_prevQuant (s : State) (k : Nat) (b : Fin 6) : (s.pcUpdate k b).prevQuant = s.prevQuant := by dsimp only [State.pcUpdate]
@[simp] theorem State.pcUpdate_mbk (s : State) (k : Nat) (b : Fin 6) : (s.pcUpdate k b).mbk = s.mbk := by dsimp only [State.pcUpdate]
@[simp] theorem State.pcUpdate_fail (s : State) (k : Nat) (b : Fin 6) : (s.pcUpdate k b).fail = s.fail := by dsimp only [State.pcUpdate]
@[simp] theorem State.pcUpdate_mbi (s : State) (k : Nat) (b : Fin 6) : (s.pcUpdate k b).mbi = s.mbi := by dsimp only [State.pcUpdate]
@[simp] theorem State.pcUpdate_refmv (s : State) (k : Nat) (b : Fin 6) : (s.pcUpdate k b).refmv = s.refmv := by dsimp only [State.pcUpdate]
@[simp] theorem State.pcUpdate_refmvValid (s : State) (k : Nat) (b : Fin 6) : (s.pcUpdate k b).refmvValid = s.refmvValid := by dsimp only [State.pcUpdate]
@[simp] theorem State.pcUpdate_gmc (s : State) (k : Nat) (b : Fin 6) : (s.pcUpdate k b).gmc = s.gmc := by dsimp only [State.pcUpdate]
@[simp] theorem State.pcUpdate_cur (s : State) (k : Nat) (b : Fin 6) : (s.pcUpdate k b).cur = s.cur := by dsimp only [State.pcUpdate]
@[simp] theorem State.pcUpdate_refNew (s : State) (k : Nat) (b : Fin 6) : (s.pcUpdate k b).refNew = s.refNew := by dsimp only [State.pcUpdate]
@[simp] theorem State.pcUpdate_refOld (s : State) (k : Nat) (b : Fin 6) : (s.pcUpdate k b).refOld = s.refOld := by dsimp only [State.pcUpdate]
@[simp] theorem State.pcUpdate_rob (s : State) (k : Nat) (b : Fin 6) : (s.pcUpdate k b).rob = s.rob := by dsimp only [State.pcUpdate]
@[simp] theorem State.pcUpdate_robSeq (s : State) (k : Nat) (b : Fin 6) : (s.pcUpdate k b).robSeq = s.robSeq := by dsimp only [State.pcUpdate]
@[simp] theorem State.pcUpdate_outq (s : State) (k : Nat) (b : Fin 6) : (s.pcUpdate k b).outq = s.outq := by dsimp only [State.pcUpdate]
@[simp] theorem State.pcUpdate_opened (s : State) (k : Nat) (b : Fin 6) : (s.pcUpdate k b).opened = s.opened := by dsimp only [State.pcUpdate]
@[simp] theorem State.pcUpdate_flushing (s : State) (k : Nat) (b : Fin 6) : (s.pcUpdate k b).flushing = s.flushing := by dsimp only [State.pcUpdate]
@[simp] theorem State.pcUpdate_waitKeyframe (s : State) (k : Nat) (b : Fin 6) : (s.pcUpdate k b).waitKeyframe = s.waitKeyframe := by dsimp only [State.pcUpdate]
@[simp] theorem State.pcUpdate_params (s : State) (k : Nat) (b : Fin 6) : (s.pcUpdate k b).params = s.params := by dsimp only [State.pcUpdate]
@[simp] theorem State.pcUpdate_inq (s : State) (k : Nat) (b : Fin 6) : (s.pcUpdate k b).inq = s.inq := by dsimp only [State.pcUpdate]
@[simp] theorem State.pcUpdate_status (s : State) (k : Nat) (b : Fin 6) : (s.pcUpdate k b).status = s.status := by dsimp only [State.pcUpdate]
@[simp] theorem State.pcUpdate_result (s : State) (k : Nat) (b : Fin 6) : (s.pcUpdate k b).result = s.result := by dsimp only [State.pcUpdate]

@[simp] theorem State.writeBlock_bs (s : State) (k : Nat) (b : Fin 6) (v : Vector Byte 64) : (s.writeBlock k b v).bs = s.bs := by dsimp only [State.writeBlock]
@[simp] theorem State.writeBlock_bslen (s : State) (k : Nat) (b : Fin 6) (v : Vector Byte 64) : (s.writeBlock k b v).bslen = s.bslen := by dsimp only [State.writeBlock]
@[simp] theorem State.writeBlock_bp (s : State) (k : Nat) (b : Fin 6) (v : Vector Byte 64) : (s.writeBlock k b v).bp = s.bp := by dsimp only [State.writeBlock]
@[simp] theorem State.writeBlock_vol (s : State) (k : Nat) (b : Fin 6) (v : Vector Byte 64) : (s.writeBlock k b v).vol = s.vol := by dsimp only [State.writeBlock]
@[simp] theorem State.writeBlock_qmIntra (s : State) (k : Nat) (b : Fin 6) (v : Vector Byte 64) : (s.writeBlock k b v).qmIntra = s.qmIntra := by dsimp only [State.writeBlock]
@[simp] theorem State.writeBlock_qmInter (s : State) (k : Nat) (b : Fin 6) (v : Vector Byte 64) : (s.writeBlock k b v).qmInter = s.qmInter := by dsimp only [State.writeBlock]
@[simp] theorem State.writeBlock_vop (s : State) (k : Nat) (b : Fin 6) (v : Vector Byte 64) : (s.writeBlock k b v).vop = s.vop := by dsimp only [State.writeBlock]
@[simp] theorem State.writeBlock_qf (s : State) (k : Nat) (b : Fin 6) (v : Vector Byte 64) : (s.writeBlock k b v).qf = s.qf := by dsimp only [State.writeBlock]
@[simp] theorem State.writeBlock_coef (s : State) (k : Nat) (b : Fin 6) (v : Vector Byte 64) : (s.writeBlock k b v).coef = s.coef := by dsimp only [State.writeBlock]
@[simp] theorem State.writeBlock_residual (s : State) (k : Nat) (b : Fin 6) (v : Vector Byte 64) : (s.writeBlock k b v).residual = s.residual := by dsimp only [State.writeBlock]
@[simp] theorem State.writeBlock_pred (s : State) (k : Nat) (b : Fin 6) (v : Vector Byte 64) : (s.writeBlock k b v).pred = s.pred := by dsimp only [State.writeBlock]
@[simp] theorem State.writeBlock_ev (s : State) (k : Nat) (b : Fin 6) (v : Vector Byte 64) : (s.writeBlock k b v).ev = s.ev := by dsimp only [State.writeBlock]
@[simp] theorem State.writeBlock_mb (s : State) (k : Nat) (b : Fin 6) (v : Vector Byte 64) : (s.writeBlock k b v).mb = s.mb := by dsimp only [State.writeBlock]
@[simp] theorem State.writeBlock_pmvF (s : State) (k : Nat) (b : Fin 6) (v : Vector Byte 64) : (s.writeBlock k b v).pmvF = s.pmvF := by dsimp only [State.writeBlock]
@[simp] theorem State.writeBlock_pmvB (s : State) (k : Nat) (b : Fin 6) (v : Vector Byte 64) : (s.writeBlock k b v).pmvB = s.pmvB := by dsimp only [State.writeBlock]
@[simp] theorem State.writeBlock_qp (s : State) (k : Nat) (b : Fin 6) (v : Vector Byte 64) : (s.writeBlock k b v).qp = s.qp := by dsimp only [State.writeBlock]
@[simp] theorem State.writeBlock_prevQuant (s : State) (k : Nat) (b : Fin 6) (v : Vector Byte 64) : (s.writeBlock k b v).prevQuant = s.prevQuant := by dsimp only [State.writeBlock]
@[simp] theorem State.writeBlock_mbk (s : State) (k : Nat) (b : Fin 6) (v : Vector Byte 64) : (s.writeBlock k b v).mbk = s.mbk := by dsimp only [State.writeBlock]
@[simp] theorem State.writeBlock_fail (s : State) (k : Nat) (b : Fin 6) (v : Vector Byte 64) : (s.writeBlock k b v).fail = s.fail := by dsimp only [State.writeBlock]
@[simp] theorem State.writeBlock_mbi (s : State) (k : Nat) (b : Fin 6) (v : Vector Byte 64) : (s.writeBlock k b v).mbi = s.mbi := by dsimp only [State.writeBlock]
@[simp] theorem State.writeBlock_refmv (s : State) (k : Nat) (b : Fin 6) (v : Vector Byte 64) : (s.writeBlock k b v).refmv = s.refmv := by dsimp only [State.writeBlock]
@[simp] theorem State.writeBlock_refmvValid (s : State) (k : Nat) (b : Fin 6) (v : Vector Byte 64) : (s.writeBlock k b v).refmvValid = s.refmvValid := by dsimp only [State.writeBlock]
@[simp] theorem State.writeBlock_pc (s : State) (k : Nat) (b : Fin 6) (v : Vector Byte 64) : (s.writeBlock k b v).pc = s.pc := by dsimp only [State.writeBlock]
@[simp] theorem State.writeBlock_gmc (s : State) (k : Nat) (b : Fin 6) (v : Vector Byte 64) : (s.writeBlock k b v).gmc = s.gmc := by dsimp only [State.writeBlock]
@[simp] theorem State.writeBlock_refNew (s : State) (k : Nat) (b : Fin 6) (v : Vector Byte 64) : (s.writeBlock k b v).refNew = s.refNew := by dsimp only [State.writeBlock]
@[simp] theorem State.writeBlock_refOld (s : State) (k : Nat) (b : Fin 6) (v : Vector Byte 64) : (s.writeBlock k b v).refOld = s.refOld := by dsimp only [State.writeBlock]
@[simp] theorem State.writeBlock_rob (s : State) (k : Nat) (b : Fin 6) (v : Vector Byte 64) : (s.writeBlock k b v).rob = s.rob := by dsimp only [State.writeBlock]
@[simp] theorem State.writeBlock_robSeq (s : State) (k : Nat) (b : Fin 6) (v : Vector Byte 64) : (s.writeBlock k b v).robSeq = s.robSeq := by dsimp only [State.writeBlock]
@[simp] theorem State.writeBlock_outq (s : State) (k : Nat) (b : Fin 6) (v : Vector Byte 64) : (s.writeBlock k b v).outq = s.outq := by dsimp only [State.writeBlock]
@[simp] theorem State.writeBlock_opened (s : State) (k : Nat) (b : Fin 6) (v : Vector Byte 64) : (s.writeBlock k b v).opened = s.opened := by dsimp only [State.writeBlock]
@[simp] theorem State.writeBlock_flushing (s : State) (k : Nat) (b : Fin 6) (v : Vector Byte 64) : (s.writeBlock k b v).flushing = s.flushing := by dsimp only [State.writeBlock]
@[simp] theorem State.writeBlock_waitKeyframe (s : State) (k : Nat) (b : Fin 6) (v : Vector Byte 64) : (s.writeBlock k b v).waitKeyframe = s.waitKeyframe := by dsimp only [State.writeBlock]
@[simp] theorem State.writeBlock_params (s : State) (k : Nat) (b : Fin 6) (v : Vector Byte 64) : (s.writeBlock k b v).params = s.params := by dsimp only [State.writeBlock]
@[simp] theorem State.writeBlock_inq (s : State) (k : Nat) (b : Fin 6) (v : Vector Byte 64) : (s.writeBlock k b v).inq = s.inq := by dsimp only [State.writeBlock]
@[simp] theorem State.writeBlock_status (s : State) (k : Nat) (b : Fin 6) (v : Vector Byte 64) : (s.writeBlock k b v).status = s.status := by dsimp only [State.writeBlock]
@[simp] theorem State.writeBlock_result (s : State) (k : Nat) (b : Fin 6) (v : Vector Byte 64) : (s.writeBlock k b v).result = s.result := by dsimp only [State.writeBlock]

@[simp] theorem State.predictP_bs (s : State) (k : Nat) : (s.predictP k).bs = s.bs := by dsimp only [State.predictP]
@[simp] theorem State.predictP_bslen (s : State) (k : Nat) : (s.predictP k).bslen = s.bslen := by dsimp only [State.predictP]
@[simp] theorem State.predictP_bp (s : State) (k : Nat) : (s.predictP k).bp = s.bp := by dsimp only [State.predictP]
@[simp] theorem State.predictP_vol (s : State) (k : Nat) : (s.predictP k).vol = s.vol := by dsimp only [State.predictP]
@[simp] theorem State.predictP_qmIntra (s : State) (k : Nat) : (s.predictP k).qmIntra = s.qmIntra := by dsimp only [State.predictP]
@[simp] theorem State.predictP_qmInter (s : State) (k : Nat) : (s.predictP k).qmInter = s.qmInter := by dsimp only [State.predictP]
@[simp] theorem State.predictP_vop (s : State) (k : Nat) : (s.predictP k).vop = s.vop := by dsimp only [State.predictP]
@[simp] theorem State.predictP_qf (s : State) (k : Nat) : (s.predictP k).qf = s.qf := by dsimp only [State.predictP]
@[simp] theorem State.predictP_coef (s : State) (k : Nat) : (s.predictP k).coef = s.coef := by dsimp only [State.predictP]
@[simp] theorem State.predictP_residual (s : State) (k : Nat) : (s.predictP k).residual = s.residual := by dsimp only [State.predictP]
@[simp] theorem State.predictP_ev (s : State) (k : Nat) : (s.predictP k).ev = s.ev := by dsimp only [State.predictP]
@[simp] theorem State.predictP_mb (s : State) (k : Nat) : (s.predictP k).mb = s.mb := by dsimp only [State.predictP]
@[simp] theorem State.predictP_pmvF (s : State) (k : Nat) : (s.predictP k).pmvF = s.pmvF := by dsimp only [State.predictP]
@[simp] theorem State.predictP_pmvB (s : State) (k : Nat) : (s.predictP k).pmvB = s.pmvB := by dsimp only [State.predictP]
@[simp] theorem State.predictP_qp (s : State) (k : Nat) : (s.predictP k).qp = s.qp := by dsimp only [State.predictP]
@[simp] theorem State.predictP_prevQuant (s : State) (k : Nat) : (s.predictP k).prevQuant = s.prevQuant := by dsimp only [State.predictP]
@[simp] theorem State.predictP_mbk (s : State) (k : Nat) : (s.predictP k).mbk = s.mbk := by dsimp only [State.predictP]
@[simp] theorem State.predictP_fail (s : State) (k : Nat) : (s.predictP k).fail = s.fail := by dsimp only [State.predictP]
@[simp] theorem State.predictP_mbi (s : State) (k : Nat) : (s.predictP k).mbi = s.mbi := by dsimp only [State.predictP]
@[simp] theorem State.predictP_refmv (s : State) (k : Nat) : (s.predictP k).refmv = s.refmv := by dsimp only [State.predictP]
@[simp] theorem State.predictP_refmvValid (s : State) (k : Nat) : (s.predictP k).refmvValid = s.refmvValid := by dsimp only [State.predictP]
@[simp] theorem State.predictP_pc (s : State) (k : Nat) : (s.predictP k).pc = s.pc := by dsimp only [State.predictP]
@[simp] theorem State.predictP_gmc (s : State) (k : Nat) : (s.predictP k).gmc = s.gmc := by dsimp only [State.predictP]
@[simp] theorem State.predictP_cur (s : State) (k : Nat) : (s.predictP k).cur = s.cur := by dsimp only [State.predictP]
@[simp] theorem State.predictP_refNew (s : State) (k : Nat) : (s.predictP k).refNew = s.refNew := by dsimp only [State.predictP]
@[simp] theorem State.predictP_refOld (s : State) (k : Nat) : (s.predictP k).refOld = s.refOld := by dsimp only [State.predictP]
@[simp] theorem State.predictP_rob (s : State) (k : Nat) : (s.predictP k).rob = s.rob := by dsimp only [State.predictP]
@[simp] theorem State.predictP_robSeq (s : State) (k : Nat) : (s.predictP k).robSeq = s.robSeq := by dsimp only [State.predictP]
@[simp] theorem State.predictP_outq (s : State) (k : Nat) : (s.predictP k).outq = s.outq := by dsimp only [State.predictP]
@[simp] theorem State.predictP_opened (s : State) (k : Nat) : (s.predictP k).opened = s.opened := by dsimp only [State.predictP]
@[simp] theorem State.predictP_flushing (s : State) (k : Nat) : (s.predictP k).flushing = s.flushing := by dsimp only [State.predictP]
@[simp] theorem State.predictP_waitKeyframe (s : State) (k : Nat) : (s.predictP k).waitKeyframe = s.waitKeyframe := by dsimp only [State.predictP]
@[simp] theorem State.predictP_params (s : State) (k : Nat) : (s.predictP k).params = s.params := by dsimp only [State.predictP]
@[simp] theorem State.predictP_inq (s : State) (k : Nat) : (s.predictP k).inq = s.inq := by dsimp only [State.predictP]
@[simp] theorem State.predictP_status (s : State) (k : Nat) : (s.predictP k).status = s.status := by dsimp only [State.predictP]
@[simp] theorem State.predictP_result (s : State) (k : Nat) : (s.predictP k).result = s.result := by dsimp only [State.predictP]

@[simp] theorem State.predictB_bs (s : State) (k : Nat) : (s.predictB k).bs = s.bs := by dsimp only [State.predictB]
@[simp] theorem State.predictB_bslen (s : State) (k : Nat) : (s.predictB k).bslen = s.bslen := by dsimp only [State.predictB]
@[simp] theorem State.predictB_bp (s : State) (k : Nat) : (s.predictB k).bp = s.bp := by dsimp only [State.predictB]
@[simp] theorem State.predictB_vol (s : State) (k : Nat) : (s.predictB k).vol = s.vol := by dsimp only [State.predictB]
@[simp] theorem State.predictB_qmIntra (s : State) (k : Nat) : (s.predictB k).qmIntra = s.qmIntra := by dsimp only [State.predictB]
@[simp] theorem State.predictB_qmInter (s : State) (k : Nat) : (s.predictB k).qmInter = s.qmInter := by dsimp only [State.predictB]
@[simp] theorem State.predictB_vop (s : State) (k : Nat) : (s.predictB k).vop = s.vop := by dsimp only [State.predictB]
@[simp] theorem State.predictB_qf (s : State) (k : Nat) : (s.predictB k).qf = s.qf := by dsimp only [State.predictB]
@[simp] theorem State.predictB_coef (s : State) (k : Nat) : (s.predictB k).coef = s.coef := by dsimp only [State.predictB]
@[simp] theorem State.predictB_residual (s : State) (k : Nat) : (s.predictB k).residual = s.residual := by dsimp only [State.predictB]
@[simp] theorem State.predictB_ev (s : State) (k : Nat) : (s.predictB k).ev = s.ev := by dsimp only [State.predictB]
@[simp] theorem State.predictB_mb (s : State) (k : Nat) : (s.predictB k).mb = s.mb := by dsimp only [State.predictB]
@[simp] theorem State.predictB_pmvF (s : State) (k : Nat) : (s.predictB k).pmvF = s.pmvF := by dsimp only [State.predictB]
@[simp] theorem State.predictB_pmvB (s : State) (k : Nat) : (s.predictB k).pmvB = s.pmvB := by dsimp only [State.predictB]
@[simp] theorem State.predictB_qp (s : State) (k : Nat) : (s.predictB k).qp = s.qp := by dsimp only [State.predictB]
@[simp] theorem State.predictB_prevQuant (s : State) (k : Nat) : (s.predictB k).prevQuant = s.prevQuant := by dsimp only [State.predictB]
@[simp] theorem State.predictB_mbk (s : State) (k : Nat) : (s.predictB k).mbk = s.mbk := by dsimp only [State.predictB]
@[simp] theorem State.predictB_fail (s : State) (k : Nat) : (s.predictB k).fail = s.fail := by dsimp only [State.predictB]
@[simp] theorem State.predictB_mbi (s : State) (k : Nat) : (s.predictB k).mbi = s.mbi := by dsimp only [State.predictB]
@[simp] theorem State.predictB_refmv (s : State) (k : Nat) : (s.predictB k).refmv = s.refmv := by dsimp only [State.predictB]
@[simp] theorem State.predictB_refmvValid (s : State) (k : Nat) : (s.predictB k).refmvValid = s.refmvValid := by dsimp only [State.predictB]
@[simp] theorem State.predictB_pc (s : State) (k : Nat) : (s.predictB k).pc = s.pc := by dsimp only [State.predictB]
@[simp] theorem State.predictB_gmc (s : State) (k : Nat) : (s.predictB k).gmc = s.gmc := by dsimp only [State.predictB]
@[simp] theorem State.predictB_cur (s : State) (k : Nat) : (s.predictB k).cur = s.cur := by dsimp only [State.predictB]
@[simp] theorem State.predictB_refNew (s : State) (k : Nat) : (s.predictB k).refNew = s.refNew := by dsimp only [State.predictB]
@[simp] theorem State.predictB_refOld (s : State) (k : Nat) : (s.predictB k).refOld = s.refOld := by dsimp only [State.predictB]
@[simp] theorem State.predictB_rob (s : State) (k : Nat) : (s.predictB k).rob = s.rob := by dsimp only [State.predictB]
@[simp] theorem State.predictB_robSeq (s : State) (k : Nat) : (s.predictB k).robSeq = s.robSeq := by dsimp only [State.predictB]
@[simp] theorem State.predictB_outq (s : State) (k : Nat) : (s.predictB k).outq = s.outq := by dsimp only [State.predictB]
@[simp] theorem State.predictB_opened (s : State) (k : Nat) : (s.predictB k).opened = s.opened := by dsimp only [State.predictB]
@[simp] theorem State.predictB_flushing (s : State) (k : Nat) : (s.predictB k).flushing = s.flushing := by dsimp only [State.predictB]
@[simp] theorem State.predictB_waitKeyframe (s : State) (k : Nat) : (s.predictB k).waitKeyframe = s.waitKeyframe := by dsimp only [State.predictB]
@[simp] theorem State.predictB_params (s : State) (k : Nat) : (s.predictB k).params = s.params := by dsimp only [State.predictB]
@[simp] theorem State.predictB_inq (s : State) (k : Nat) : (s.predictB k).inq = s.inq := by dsimp only [State.predictB]
@[simp] theorem State.predictB_status (s : State) (k : Nat) : (s.predictB k).status = s.status := by dsimp only [State.predictB]
@[simp] theorem State.predictB_result (s : State) (k : Nat) : (s.predictB k).result = s.result := by dsimp only [State.predictB]

@[simp] theorem State.clearPoint_bs (s : State) (i : Fin 3) : (s.clearPoint i).bs = s.bs := rfl
@[simp] theorem State.clearPoint_bslen (s : State) (i : Fin 3) : (s.clearPoint i).bslen = s.bslen := rfl
@[simp] theorem State.clearPoint_bp (s : State) (i : Fin 3) : (s.clearPoint i).bp = s.bp := rfl
@[simp] theorem State.clearPoint_vol (s : State) (i : Fin 3) : (s.clearPoint i).vol = s.vol := rfl
@[simp] theorem State.clearPoint_qmIntra (s : State) (i : Fin 3) : (s.clearPoint i).qmIntra = s.qmIntra := rfl
@[simp] theorem State.clearPoint_qmInter (s : State) (i : Fin 3) : (s.clearPoint i).qmInter = s.qmInter := rfl
@[simp] theorem State.clearPoint_vop (s : State) (i : Fin 3) : (s.clearPoint i).vop = s.vop := rfl
@[simp] theorem State.clearPoint_qf (s : State) (i : Fin 3) : (s.clearPoint i).qf = s.qf := rfl
@[simp] theorem State.clearPoint_coef (s : State) (i : Fin 3) : (s.clearPoint i).coef = s.coef := rfl
@[simp] theorem State.clearPoint_residual (s : State) (i : Fin 3) : (s.clearPoint i).residual = s.residual := rfl
@[simp] theorem State.clearPoint_pred (s : State) (i : Fin 3) : (s.clearPoint i).pred = s.pred := rfl
@[simp] theorem State.clearPoint_ev (s : State) (i : Fin 3) : (s.clearPoint i).ev = s.ev := rfl
@[simp] theorem State.clearPoint_mb (s : State) (i : Fin 3) : (s.clearPoint i).mb = s.mb := rfl
@[simp] theorem State.clearPoint_pmvF (s : State) (i : Fin 3) : (s.clearPoint i).pmvF = s.pmvF := rfl
@[simp] theorem State.clearPoint_pmvB (s : State) (i : Fin 3) : (s.clearPoint i).pmvB = s.pmvB := rfl
@[simp] theorem State.clearPoint_qp (s : State) (i : Fin 3) : (s.clearPoint i).qp = s.qp := rfl
@[simp] theorem State.clearPoint_prevQuant (s : State) (i : Fin 3) : (s.clearPoint i).prevQuant = s.prevQuant := rfl
@[simp] theorem State.clearPoint_mbk (s : State) (i : Fin 3) : (s.clearPoint i).mbk = s.mbk := rfl
@[simp] theorem State.clearPoint_fail (s : State) (i : Fin 3) : (s.clearPoint i).fail = s.fail := rfl
@[simp] theorem State.clearPoint_mbi (s : State) (i : Fin 3) : (s.clearPoint i).mbi = s.mbi := rfl
@[simp] theorem State.clearPoint_refmv (s : State) (i : Fin 3) : (s.clearPoint i).refmv = s.refmv := rfl
@[simp] theorem State.clearPoint_refmvValid (s : State) (i : Fin 3) : (s.clearPoint i).refmvValid = s.refmvValid := rfl
@[simp] theorem State.clearPoint_pc (s : State) (i : Fin 3) : (s.clearPoint i).pc = s.pc := rfl
@[simp] theorem State.clearPoint_cur (s : State) (i : Fin 3) : (s.clearPoint i).cur = s.cur := rfl
@[simp] theorem State.clearPoint_refNew (s : State) (i : Fin 3) : (s.clearPoint i).refNew = s.refNew := rfl
@[simp] theorem State.clearPoint_refOld (s : State) (i : Fin 3) : (s.clearPoint i).refOld = s.refOld := rfl
@[simp] theorem State.clearPoint_rob (s : State) (i : Fin 3) : (s.clearPoint i).rob = s.rob := rfl
@[simp] theorem State.clearPoint_robSeq (s : State) (i : Fin 3) : (s.clearPoint i).robSeq = s.robSeq := rfl
@[simp] theorem State.clearPoint_outq (s : State) (i : Fin 3) : (s.clearPoint i).outq = s.outq := rfl
@[simp] theorem State.clearPoint_opened (s : State) (i : Fin 3) : (s.clearPoint i).opened = s.opened := rfl
@[simp] theorem State.clearPoint_flushing (s : State) (i : Fin 3) : (s.clearPoint i).flushing = s.flushing := rfl
@[simp] theorem State.clearPoint_waitKeyframe (s : State) (i : Fin 3) : (s.clearPoint i).waitKeyframe = s.waitKeyframe := rfl
@[simp] theorem State.clearPoint_params (s : State) (i : Fin 3) : (s.clearPoint i).params = s.params := rfl
@[simp] theorem State.clearPoint_inq (s : State) (i : Fin 3) : (s.clearPoint i).inq = s.inq := rfl
@[simp] theorem State.clearPoint_status (s : State) (i : Fin 3) : (s.clearPoint i).status = s.status := rfl
@[simp] theorem State.clearPoint_result (s : State) (i : Fin 3) : (s.clearPoint i).result = s.result := rfl

@[simp] theorem State.gmcSetup_bs (s : State) : (s.gmcSetup).bs = s.bs := by dsimp only [State.gmcSetup]
@[simp] theorem State.gmcSetup_bslen (s : State) : (s.gmcSetup).bslen = s.bslen := by dsimp only [State.gmcSetup]
@[simp] theorem State.gmcSetup_bp (s : State) : (s.gmcSetup).bp = s.bp := by dsimp only [State.gmcSetup]
@[simp] theorem State.gmcSetup_vol (s : State) : (s.gmcSetup).vol = s.vol := by dsimp only [State.gmcSetup]
@[simp] theorem State.gmcSetup_qmIntra (s : State) : (s.gmcSetup).qmIntra = s.qmIntra := by dsimp only [State.gmcSetup]
@[simp] theorem State.gmcSetup_qmInter (s : State) : (s.gmcSetup).qmInter = s.qmInter := by dsimp only [State.gmcSetup]
@[simp] theorem State.gmcSetup_vop (s : State) : (s.gmcSetup).vop = s.vop := by dsimp only [State.gmcSetup]
@[simp] theorem State.gmcSetup_qf (s : State) : (s.gmcSetup).qf = s.qf := by dsimp only [State.gmcSetup]
@[simp] theorem State.gmcSetup_coef (s : State) : (s.gmcSetup).coef = s.coef := by dsimp only [State.gmcSetup]
@[simp] theorem State.gmcSetup_residual (s : State) : (s.gmcSetup).residual = s.residual := by dsimp only [State.gmcSetup]
@[simp] theorem State.gmcSetup_pred (s : State) : (s.gmcSetup).pred = s.pred := by dsimp only [State.gmcSetup]
@[simp] theorem State.gmcSetup_ev (s : State) : (s.gmcSetup).ev = s.ev := by dsimp only [State.gmcSetup]
@[simp] theorem State.gmcSetup_mb (s : State) : (s.gmcSetup).mb = s.mb := by dsimp only [State.gmcSetup]
@[simp] theorem State.gmcSetup_pmvF (s : State) : (s.gmcSetup).pmvF = s.pmvF := by dsimp only [State.gmcSetup]
@[simp] theorem State.gmcSetup_pmvB (s : State) : (s.gmcSetup).pmvB = s.pmvB := by dsimp only [State.gmcSetup]
@[simp] theorem State.gmcSetup_qp (s : State) : (s.gmcSetup).qp = s.qp := by dsimp only [State.gmcSetup]
@[simp] theorem State.gmcSetup_prevQuant (s : State) : (s.gmcSetup).prevQuant = s.prevQuant := by dsimp only [State.gmcSetup]
@[simp] theorem State.gmcSetup_mbk (s : State) : (s.gmcSetup).mbk = s.mbk := by dsimp only [State.gmcSetup]
@[simp] theorem State.gmcSetup_fail (s : State) : (s.gmcSetup).fail = s.fail := by dsimp only [State.gmcSetup]
@[simp] theorem State.gmcSetup_mbi (s : State) : (s.gmcSetup).mbi = s.mbi := by dsimp only [State.gmcSetup]
@[simp] theorem State.gmcSetup_refmv (s : State) : (s.gmcSetup).refmv = s.refmv := by dsimp only [State.gmcSetup]
@[simp] theorem State.gmcSetup_refmvValid (s : State) : (s.gmcSetup).refmvValid = s.refmvValid := by dsimp only [State.gmcSetup]
@[simp] theorem State.gmcSetup_pc (s : State) : (s.gmcSetup).pc = s.pc := by dsimp only [State.gmcSetup]
@[simp] theorem State.gmcSetup_cur (s : State) : (s.gmcSetup).cur = s.cur := by dsimp only [State.gmcSetup]
@[simp] theorem State.gmcSetup_refNew (s : State) : (s.gmcSetup).refNew = s.refNew := by dsimp only [State.gmcSetup]
@[simp] theorem State.gmcSetup_refOld (s : State) : (s.gmcSetup).refOld = s.refOld := by dsimp only [State.gmcSetup]
@[simp] theorem State.gmcSetup_rob (s : State) : (s.gmcSetup).rob = s.rob := by dsimp only [State.gmcSetup]
@[simp] theorem State.gmcSetup_robSeq (s : State) : (s.gmcSetup).robSeq = s.robSeq := by dsimp only [State.gmcSetup]
@[simp] theorem State.gmcSetup_outq (s : State) : (s.gmcSetup).outq = s.outq := by dsimp only [State.gmcSetup]
@[simp] theorem State.gmcSetup_opened (s : State) : (s.gmcSetup).opened = s.opened := by dsimp only [State.gmcSetup]
@[simp] theorem State.gmcSetup_flushing (s : State) : (s.gmcSetup).flushing = s.flushing := by dsimp only [State.gmcSetup]
@[simp] theorem State.gmcSetup_waitKeyframe (s : State) : (s.gmcSetup).waitKeyframe = s.waitKeyframe := by dsimp only [State.gmcSetup]
@[simp] theorem State.gmcSetup_params (s : State) : (s.gmcSetup).params = s.params := by dsimp only [State.gmcSetup]
@[simp] theorem State.gmcSetup_inq (s : State) : (s.gmcSetup).inq = s.inq := by dsimp only [State.gmcSetup]
@[simp] theorem State.gmcSetup_status (s : State) : (s.gmcSetup).status = s.status := by dsimp only [State.gmcSetup]
@[simp] theorem State.gmcSetup_result (s : State) : (s.gmcSetup).result = s.result := by dsimp only [State.gmcSetup]

@[simp] theorem State.drain_bs (s : State) : (s.drain).bs = s.bs := rfl
@[simp] theorem State.drain_bslen (s : State) : (s.drain).bslen = s.bslen := rfl
@[simp] theorem State.drain_bp (s : State) : (s.drain).bp = s.bp := rfl
@[simp] theorem State.drain_vol (s : State) : (s.drain).vol = s.vol := rfl
@[simp] theorem State.drain_qmIntra (s : State) : (s.drain).qmIntra = s.qmIntra := rfl
@[simp] theorem State.drain_qmInter (s : State) : (s.drain).qmInter = s.qmInter := rfl
@[simp] theorem State.drain_vop (s : State) : (s.drain).vop = s.vop := rfl
@[simp] theorem State.drain_qf (s : State) : (s.drain).qf = s.qf := rfl
@[simp] theorem State.drain_coef (s : State) : (s.drain).coef = s.coef := rfl
@[simp] theorem State.drain_residual (s : State) : (s.drain).residual = s.residual := rfl
@[simp] theorem State.drain_pred (s : State) : (s.drain).pred = s.pred := rfl
@[simp] theorem State.drain_ev (s : State) : (s.drain).ev = s.ev := rfl
@[simp] theorem State.drain_mb (s : State) : (s.drain).mb = s.mb := rfl
@[simp] theorem State.drain_pmvF (s : State) : (s.drain).pmvF = s.pmvF := rfl
@[simp] theorem State.drain_pmvB (s : State) : (s.drain).pmvB = s.pmvB := rfl
@[simp] theorem State.drain_qp (s : State) : (s.drain).qp = s.qp := rfl
@[simp] theorem State.drain_prevQuant (s : State) : (s.drain).prevQuant = s.prevQuant := rfl
@[simp] theorem State.drain_mbk (s : State) : (s.drain).mbk = s.mbk := rfl
@[simp] theorem State.drain_fail (s : State) : (s.drain).fail = s.fail := rfl
@[simp] theorem State.drain_mbi (s : State) : (s.drain).mbi = s.mbi := rfl
@[simp] theorem State.drain_refmv (s : State) : (s.drain).refmv = s.refmv := rfl
@[simp] theorem State.drain_refmvValid (s : State) : (s.drain).refmvValid = s.refmvValid := rfl
@[simp] theorem State.drain_pc (s : State) : (s.drain).pc = s.pc := rfl
@[simp] theorem State.drain_gmc (s : State) : (s.drain).gmc = s.gmc := rfl
@[simp] theorem State.drain_cur (s : State) : (s.drain).cur = s.cur := rfl
@[simp] theorem State.drain_refNew (s : State) : (s.drain).refNew = s.refNew := rfl
@[simp] theorem State.drain_refOld (s : State) : (s.drain).refOld = s.refOld := rfl
@[simp] theorem State.drain_robSeq (s : State) : (s.drain).robSeq = s.robSeq := rfl
@[simp] theorem State.drain_opened (s : State) : (s.drain).opened = s.opened := rfl
@[simp] theorem State.drain_flushing (s : State) : (s.drain).flushing = s.flushing := rfl
@[simp] theorem State.drain_waitKeyframe (s : State) : (s.drain).waitKeyframe = s.waitKeyframe := rfl
@[simp] theorem State.drain_params (s : State) : (s.drain).params = s.params := rfl
@[simp] theorem State.drain_inq (s : State) : (s.drain).inq = s.inq := rfl
@[simp] theorem State.drain_status (s : State) : (s.drain).status = s.status := rfl
@[simp] theorem State.drain_result (s : State) : (s.drain).result = s.result := rfl

@[simp] theorem State.push_bs (s : State) (f : FrameStore) : (s.push f).bs = s.bs := rfl
@[simp] theorem State.push_bslen (s : State) (f : FrameStore) : (s.push f).bslen = s.bslen := rfl
@[simp] theorem State.push_bp (s : State) (f : FrameStore) : (s.push f).bp = s.bp := rfl
@[simp] theorem State.push_vol (s : State) (f : FrameStore) : (s.push f).vol = s.vol := rfl
@[simp] theorem State.push_qmIntra (s : State) (f : FrameStore) : (s.push f).qmIntra = s.qmIntra := rfl
@[simp] theorem State.push_qmInter (s : State) (f : FrameStore) : (s.push f).qmInter = s.qmInter := rfl
@[simp] theorem State.push_vop (s : State) (f : FrameStore) : (s.push f).vop = s.vop := rfl
@[simp] theorem State.push_qf (s : State) (f : FrameStore) : (s.push f).qf = s.qf := rfl
@[simp] theorem State.push_coef (s : State) (f : FrameStore) : (s.push f).coef = s.coef := rfl
@[simp] theorem State.push_residual (s : State) (f : FrameStore) : (s.push f).residual = s.residual := rfl
@[simp] theorem State.push_pred (s : State) (f : FrameStore) : (s.push f).pred = s.pred := rfl
@[simp] theorem State.push_ev (s : State) (f : FrameStore) : (s.push f).ev = s.ev := rfl
@[simp] theorem State.push_mb (s : State) (f : FrameStore) : (s.push f).mb = s.mb := rfl
@[simp] theorem State.push_pmvF (s : State) (f : FrameStore) : (s.push f).pmvF = s.pmvF := rfl
@[simp] theorem State.push_pmvB (s : State) (f : FrameStore) : (s.push f).pmvB = s.pmvB := rfl
@[simp] theorem State.push_qp (s : State) (f : FrameStore) : (s.push f).qp = s.qp := rfl
@[simp] theorem State.push_prevQuant (s : State) (f : FrameStore) : (s.push f).prevQuant = s.prevQuant := rfl
@[simp] theorem State.push_mbk (s : State) (f : FrameStore) : (s.push f).mbk = s.mbk := rfl
@[simp] theorem State.push_fail (s : State) (f : FrameStore) : (s.push f).fail = s.fail := rfl
@[simp] theorem State.push_mbi (s : State) (f : FrameStore) : (s.push f).mbi = s.mbi := rfl
@[simp] theorem State.push_refmv (s : State) (f : FrameStore) : (s.push f).refmv = s.refmv := rfl
@[simp] theorem State.push_refmvValid (s : State) (f : FrameStore) : (s.push f).refmvValid = s.refmvValid := rfl
@[simp] theorem State.push_pc (s : State) (f : FrameStore) : (s.push f).pc = s.pc := rfl
@[simp] theorem State.push_gmc (s : State) (f : FrameStore) : (s.push f).gmc = s.gmc := rfl
@[simp] theorem State.push_cur (s : State) (f : FrameStore) : (s.push f).cur = s.cur := rfl
@[simp] theorem State.push_refNew (s : State) (f : FrameStore) : (s.push f).refNew = s.refNew := rfl
@[simp] theorem State.push_refOld (s : State) (f : FrameStore) : (s.push f).refOld = s.refOld := rfl
@[simp] theorem State.push_robSeq (s : State) (f : FrameStore) : (s.push f).robSeq = s.robSeq + 1 := rfl
@[simp] theorem State.push_opened (s : State) (f : FrameStore) : (s.push f).opened = s.opened := rfl
@[simp] theorem State.push_flushing (s : State) (f : FrameStore) : (s.push f).flushing = s.flushing := rfl
@[simp] theorem State.push_waitKeyframe (s : State) (f : FrameStore) : (s.push f).waitKeyframe = s.waitKeyframe := rfl
@[simp] theorem State.push_params (s : State) (f : FrameStore) : (s.push f).params = s.params := rfl
@[simp] theorem State.push_inq (s : State) (f : FrameStore) : (s.push f).inq = s.inq := rfl
@[simp] theorem State.push_status (s : State) (f : FrameStore) : (s.push f).status = s.status := rfl
@[simp] theorem State.push_result (s : State) (f : FrameStore) : (s.push f).result = s.result := rfl

@[simp] theorem State.loadWindow_bs (s : State) (d : List Byte) : (s.loadWindow d).bs = Memory.ofBytes 0 d := rfl
@[simp] theorem State.loadWindow_bslen (s : State) (d : List Byte) : (s.loadWindow d).bslen = d.length := rfl
@[simp] theorem State.loadWindow_bp (s : State) (d : List Byte) : (s.loadWindow d).bp = 0 := rfl
@[simp] theorem State.loadWindow_vol (s : State) (d : List Byte) : (s.loadWindow d).vol = s.vol := rfl
@[simp] theorem State.loadWindow_qmIntra (s : State) (d : List Byte) : (s.loadWindow d).qmIntra = s.qmIntra := rfl
@[simp] theorem State.loadWindow_qmInter (s : State) (d : List Byte) : (s.loadWindow d).qmInter = s.qmInter := rfl
@[simp] theorem State.loadWindow_vop (s : State) (d : List Byte) : (s.loadWindow d).vop = s.vop := rfl
@[simp] theorem State.loadWindow_qf (s : State) (d : List Byte) : (s.loadWindow d).qf = s.qf := rfl
@[simp] theorem State.loadWindow_coef (s : State) (d : List Byte) : (s.loadWindow d).coef = s.coef := rfl
@[simp] theorem State.loadWindow_residual (s : State) (d : List Byte) : (s.loadWindow d).residual = s.residual := rfl
@[simp] theorem State.loadWindow_pred (s : State) (d : List Byte) : (s.loadWindow d).pred = s.pred := rfl
@[simp] theorem State.loadWindow_ev (s : State) (d : List Byte) : (s.loadWindow d).ev = s.ev := rfl
@[simp] theorem State.loadWindow_mb (s : State) (d : List Byte) : (s.loadWindow d).mb = s.mb := rfl
@[simp] theorem State.loadWindow_pmvF (s : State) (d : List Byte) : (s.loadWindow d).pmvF = s.pmvF := rfl
@[simp] theorem State.loadWindow_pmvB (s : State) (d : List Byte) : (s.loadWindow d).pmvB = s.pmvB := rfl
@[simp] theorem State.loadWindow_qp (s : State) (d : List Byte) : (s.loadWindow d).qp = s.qp := rfl
@[simp] theorem State.loadWindow_prevQuant (s : State) (d : List Byte) : (s.loadWindow d).prevQuant = s.prevQuant := rfl
@[simp] theorem State.loadWindow_mbk (s : State) (d : List Byte) : (s.loadWindow d).mbk = s.mbk := rfl
@[simp] theorem State.loadWindow_fail (s : State) (d : List Byte) : (s.loadWindow d).fail = s.fail := rfl
@[simp] theorem State.loadWindow_mbi (s : State) (d : List Byte) : (s.loadWindow d).mbi = s.mbi := rfl
@[simp] theorem State.loadWindow_refmv (s : State) (d : List Byte) : (s.loadWindow d).refmv = s.refmv := rfl
@[simp] theorem State.loadWindow_refmvValid (s : State) (d : List Byte) : (s.loadWindow d).refmvValid = s.refmvValid := rfl
@[simp] theorem State.loadWindow_pc (s : State) (d : List Byte) : (s.loadWindow d).pc = s.pc := rfl
@[simp] theorem State.loadWindow_gmc (s : State) (d : List Byte) : (s.loadWindow d).gmc = s.gmc := rfl
@[simp] theorem State.loadWindow_cur (s : State) (d : List Byte) : (s.loadWindow d).cur = s.cur := rfl
@[simp] theorem State.loadWindow_refNew (s : State) (d : List Byte) : (s.loadWindow d).refNew = s.refNew := rfl
@[simp] theorem State.loadWindow_refOld (s : State) (d : List Byte) : (s.loadWindow d).refOld = s.refOld := rfl
@[simp] theorem State.loadWindow_rob (s : State) (d : List Byte) : (s.loadWindow d).rob = s.rob := rfl
@[simp] theorem State.loadWindow_robSeq (s : State) (d : List Byte) : (s.loadWindow d).robSeq = s.robSeq := rfl
@[simp] theorem State.loadWindow_outq (s : State) (d : List Byte) : (s.loadWindow d).outq = s.outq := rfl
@[simp] theorem State.loadWindow_opened (s : State) (d : List Byte) : (s.loadWindow d).opened = s.opened := rfl
@[simp] theorem State.loadWindow_flushing (s : State) (d : List Byte) : (s.loadWindow d).flushing = false := rfl
@[simp] theorem State.loadWindow_waitKeyframe (s : State) (d : List Byte) : (s.loadWindow d).waitKeyframe = s.waitKeyframe := rfl
@[simp] theorem State.loadWindow_params (s : State) (d : List Byte) : (s.loadWindow d).params = s.params := rfl
@[simp] theorem State.loadWindow_inq (s : State) (d : List Byte) : (s.loadWindow d).inq = s.inq := rfl
@[simp] theorem State.loadWindow_status (s : State) (d : List Byte) : (s.loadWindow d).status = s.status := rfl
@[simp] theorem State.loadWindow_result (s : State) (d : List Byte) : (s.loadWindow d).result = s.result := rfl

end Sys2Proof.Machine
end

