-- ==== Sys2Proof/Laws/Reads.lean ====
section
/-! SUPPORT. Reading codewords: what a codeword that decodes and runs tells of the parse inside an operation, what
reading and rebuilding a block can write, and what one turn of the AC loop does. -/

namespace Sys2Proof.Machine

/-- Two states that differ in nothing but what is handed back are one where that agrees too. -/
theorem State.eq_of_outputs {a b : State} {x y : Status} {p q : Result}
    (h : ({ a with status := x, result := p } : State) = { b with status := y, result := q }) (h1 : a.status = b.status)
    (h2 : a.result = b.result) : a = b := by
  cases a
  cases b
  simp only [State.mk.injEq] at h
  simp_all

/-- What an instruction that ends with `Ok` leaves is what a codeword's effect leaves. -/
theorem runs_code {i : Instr} {s t : State} {n : Nat} {g : State → State} {r : Result} (hx : exec i s = runCode n g r s)
    (hg1 : ∀ u, (g u).status = u.status) (hg2 : ∀ u, (g u).result = u.result) (h : s.Runs i t) :
    s.bp + n ≤ 8 * s.bslen ∧ t = g (s.advance n) := by
  obtain ⟨⟨r', h1⟩, h2, h3⟩ := h
  rw [hx, runCode] at h1
  split at h1
  · refine ⟨by assumption, State.eq_of_outputs (Host.Outcome.next.inj h1).symm ?_ ?_⟩
    · rw [h2, hg1]; rfl
    · rw [h3, hg2]; rfl
  · have h4 := congrArg State.status (Host.Outcome.next.inj h1)
    simp [State.raise] at h4

/-- A decoding is a parse of the bits at `BP`. -/
theorem parse_of_decode {t : Table} {s : State} {i : Instr} {n : Nat} (h : decode t s.ahead = .ok i n) :
    ∃ c, parseInstr t ⟨s.ahead, 0⟩ = .ok i c := by
  unfold decode at h
  split at h
  · rename_i j c hj
    cases h
    exact ⟨c, hj⟩
  · cases h

/-- A parse in sequence returns exactly where both its parts do. -/
theorem Dec.bind_ok_iff {α β : Type} (x : Dec α) (f : α → Dec β) (s t : Cursor) (b : β) :
    (x >>= f) s = .ok b t ↔ ∃ a u, x s = .ok a u ∧ f a u = .ok b t := by
  show EStateM.bind x f s = _ ↔ _
  unfold EStateM.bind
  cases h : x s with
  | ok a u =>
    constructor
    · intro hf
      exact ⟨a, u, rfl, hf⟩
    · rintro ⟨a1, u1, he, hf⟩
      cases he
      exact hf
  | error k u => simp

/-- The row `Vlc` finds is a row of the table, and its codeword is taken. -/
theorem vlc_ok {α : Type} {code : α → List Bool} {l : List α} {c d : Cursor} {r : α} (h : vlc code l c = .ok r d) :
    r ∈ l ∧ d = c.skip (code r).length := by
  unfold vlc at h
  split at h
  · rename_i r' hr
    cases h
    exact ⟨List.mem_of_find?_eq_some hr, rfl⟩
  · split at h <;> cases h

/-- A codeword of a table read at `BP`: the row that `Vlc` finds, its instruction, and the effect of its meaning. -/
theorem reads_vlc {α : Type} {t : Table} {code : α → List Bool} {ctor : α → Instr} {l : List α} {g : α → State → State} {s u : State}
    {i : Instr} (hp : parseInstr t = (do return ctor (← vlc code l)))
    (hx : ∀ r ∈ l, ∀ s, exec (ctor r) s = runCode (code r).length (g r) .none s)
    (hg1 : ∀ r u, (g r u).status = u.status) (hg2 : ∀ r u, (g r u).result = u.result) (h : s.Reads t i u) :
    ∃ r ∈ l, i = ctor r ∧ parse (vlc code l) s = .ok r (s.advance (code r).length) ∧ u = g r (s.advance (code r).length) := by
  obtain ⟨⟨n, hd⟩, hr⟩ := h
  obtain ⟨c, hc⟩ := parse_of_decode hd
  rw [hp] at hc
  obtain ⟨r, d, h1, h2⟩ := (Dec.bind_ok_iff _ _ _ _ _).1 hc
  cases h2
  obtain ⟨hm, hd'⟩ := vlc_ok h1
  obtain ⟨-, hu⟩ := runs_code (hx r hm s) (hg1 r) (hg2 r) hr
  refine ⟨r, hm, rfl, ?_, hu⟩
  rw [parse_apply, h1, hd']
  simp [Cursor.skip]

theorem State.bitList_take (s : State) (p n m : Nat) (h : m ≤ n) : (s.bitList p n).take m = s.bitList p m := by
  induction m generalizing n p with
  | zero => simp [State.bitList]
  | succ m ih =>
    obtain ⟨n, rfl⟩ : ∃ k, n = k + 1 := ⟨n - 1, by omega⟩
    simp [State.bitList, ih (p + 1) n (by omega)]

/-- A field of `n` bits that a parser takes at `BP` is what `ReadBits(n)` reads there. -/
theorem takeBits_ahead {s : State} {n v : Nat} {d : Cursor} (h : takeBits n ⟨s.ahead, 0⟩ = .ok v d) :
    v = s.bits s.bp n ∧ (s.bp + n ≤ 8 * s.bslen ∨ n = 0) := by
  unfold takeBits at h
  split at h
  · rename_i hn
    cases h
    simp only [State.ahead, State.bitList_length] at hn
    refine ⟨?_, by omega⟩
    simp only [State.ahead, State.bits]
    rw [State.bitList_take _ _ _ _ hn]
  · cases h

/-- A one-bit field read at `BP`. -/
theorem reads_bit {t : Table} {ctor : Bool → Instr} {g : Bool → State → State} {s u : State} {i : Instr}
    (hp : parseInstr t = (do return ctor (← takeBit))) (hx : ∀ b s, exec (ctor b) s = runCode 1 (g b) .none s)
    (hg1 : ∀ r u, (g r u).status = u.status) (hg2 : ∀ r u, (g r u).result = u.result) (h : s.Reads t i u) :
    ∃ b, i = ctor b ∧ readBit s = .ok b (s.advance 1) ∧ u = g b (s.advance 1) := by
  obtain ⟨⟨n, hd⟩, hr⟩ := h
  obtain ⟨c, hc⟩ := parse_of_decode hd
  rw [hp] at hc
  obtain ⟨b, d, h1, h2⟩ := (Dec.bind_ok_iff _ _ _ _ _).1 hc
  cases h2
  obtain ⟨v, d', h3, h4⟩ := (Dec.bind_ok_iff _ _ _ _ _).1 h1
  obtain ⟨hf, hu⟩ := runs_code (hx b s) (hg1 b) (hg2 b) hr
  refine ⟨b, rfl, ?_, hu⟩
  have hv := (takeBits_ahead h3).1
  cases h4
  unfold readBit
  rw [bind_apply_ok _ _ s (s.advance 1) v (by rw [readBits_apply, if_pos hf, hv])]
  rfl

/-- `t` is `s` but for what reading and rebuilding a block writes: `BP`, `EV`, `QF`, `F`, `f`, `PC` and `CUR`. -/
def State.SameButCoded (s t : State) : Prop :=
  t = { s with bp := t.bp, ev := t.ev, qf := t.qf, coef := t.coef, residual := t.residual, pc := t.pc, cur := t.cur }

theorem State.SameButCoded.refl (s : State) : s.SameButCoded s := rfl

theorem State.SameButCoded.trans (s t u : State) (h : s.SameButCoded t) (g : t.SameButCoded u) : s.SameButCoded u := by
  unfold State.SameButCoded at *
  rw [g, h]

theorem State.SameButBlock.coded {s t : State} (h : s.SameButBlock t) : s.SameButCoded t := by
  unfold State.SameButBlock State.SameButCoded at *
  rw [h]

theorem parse_coded {α : Type} (d : Dec α) : Act.Rel State.SameButCoded (parse d) := fun s => by
  unfold parse
  split <;> rfl

theorem readBit_coded : Act.Rel State.SameButCoded readBit :=
  Act.rel_bind State.SameButCoded.trans (Act.rel_readBits State.SameButCoded.refl 1 (fun _ _ => rfl)) (fun _ => Act.rel_pure State.SameButCoded.refl _)

theorem acEvent_coded (t : AcSel) : Act.Rel State.SameButCoded (acEvent t) :=
  Act.rel_bind State.SameButCoded.trans (parse_coded _) (fun f => by
    cases f with
    | row r => exact Act.rel_bind State.SameButCoded.trans readBit_coded (fun _ => Act.rel_update (fun _ => rfl))
    | esc1 r s => exact Act.rel_update (fun _ => rfl)
    | esc2 r s => exact Act.rel_update (fun _ => rfl)
    | esc3 a b c d e => exact Act.rel_update (fun _ => rfl))

theorem acLoop_coded (t : AcSel) (scan : Scan) (n i : Nat) : Act.Rel State.SameButCoded (acLoop t scan n i) := by
  induction n generalizing i with
  | zero => exact Act.rel_raise State.SameButCoded.refl _
  | succ n ih =>
    refine Act.rel_bind State.SameButCoded.trans (acEvent_coded t) (fun _ => ?_)
    refine Act.rel_bind State.SameButCoded.trans (Act.rel_get State.SameButCoded.refl) (fun s => ?_)
    dsimp only
    split
    · refine Act.rel_bind State.SameButCoded.trans (Act.rel_update (fun _ => rfl)) (fun _ => ?_)
      exact Act.rel_ite (Act.rel_pure State.SameButCoded.refl _) (ih _)
    · exact Act.rel_raise State.SameButCoded.refl _

/-- What `INTRA_BLOCK` can write. -/
theorem intraBlock_coded (k : Nat) (b : Fin 6) : Act.Rel State.SameButCoded (intraBlock k b) := by
  have hr := State.SameButCoded.refl
  have ht := State.SameButCoded.trans
  refine Act.rel_bind ht (Act.rel_get hr) (fun s => Act.rel_bind ht (Act.rel_update (fun _ => rfl)) (fun _ => ?_))
  have tail : ∀ diff, Act.Rel State.SameButCoded (update (fun u => ((((((u.dcRecon b diff (s.dcPredict k b).pr).acPredict
      (s.dcPredict k b).dir (s.dcPredict k b).nb).pcUpdate k b).dequant true).idct).writeIntra k b))) := fun diff =>
    Act.rel_update (fun u => State.SameButBlock.coded ((((((State.dcRecon_block u b _ _).trans (State.acPredict_block _ _ _)).trans
      (State.pcUpdate_block _ k b)).trans (State.dequant_block _ true)).trans (State.idct_block _)).trans (State.writeBlock_block _ k b _)))
  dsimp only
  split
  · refine Act.rel_bind ht (Act.rel_bind ht (parse_coded _) (fun _ => Act.rel_pure hr _)) (fun _ => ?_)
    split
    · exact Act.rel_bind ht (acLoop_coded _ _ _ _) (fun _ => Act.rel_bind ht (Act.rel_pure hr _) (fun _ => tail _))
    · exact Act.rel_bind ht (Act.rel_pure hr _) (fun _ => tail _)
  · split
    · exact Act.rel_bind ht (acLoop_coded _ _ _ _) (fun _ => Act.rel_bind ht (Act.rel_get hr) (fun _ => Act.rel_bind ht (Act.rel_pure hr _) (fun _ => tail _)))
    · exact Act.rel_bind ht (Act.rel_get hr) (fun _ => Act.rel_bind ht (Act.rel_pure hr _) (fun _ => tail _))

/-- What `INTER_BLOCK` can write. -/
theorem interBlock_coded (k : Nat) (b : Fin 6) : Act.Rel State.SameButCoded (interBlock k b) := by
  have hr := State.SameButCoded.refl
  have ht := State.SameButCoded.trans
  refine Act.rel_bind ht (Act.rel_get hr) (fun s => Act.rel_ite ?_ (Act.rel_update (fun _ => State.SameButBlock.coded (State.writeBlock_block _ _ _ _))))
  refine Act.rel_bind ht (Act.rel_update (fun _ => rfl)) (fun _ => Act.rel_bind ht (acLoop_coded _ _ _ _) (fun _ => Act.rel_update (fun u => ?_)))
  exact State.SameButBlock.coded (((State.dequant_block _ false).trans (State.idct_block _)).trans (State.writeBlock_block _ k b _))

/-- An operation on the current macroblock that ends with `Ok`. -/
theorem runs_onMacroblock {i : Instr} {s t : State} {k : Nat} {a : Act Unit}
    (hx : exec i s = runOnMacroblock k (do a; pure .none) s) (hr : Act.Rel State.SameButCoded a) (h : s.Runs i t) : a s = .ok () t := by
  obtain ⟨⟨r, h1⟩, h2, h3⟩ := h
  rw [hx, runOnMacroblock] at h1
  split at h1
  · split at h1
    · cases ha : a s with
      | ok x u =>
        rw [bind_apply_ok _ _ _ _ _ ha] at h1
        have hc := hr s
        rw [ha] at hc
        have e1 : u.status = s.status := by rw [show u = _ from hc]
        have e2 : u.result = s.result := by rw [show u = _ from hc]
        have := State.eq_of_outputs (Host.Outcome.next.inj h1) (e1.trans h2.symm) (e2.trans h3.symm)
        rw [this]
      | error e u =>
        rw [bind_apply_error _ _ _ _ _ ha] at h1
        have h4 := congrArg State.status (Host.Outcome.next.inj h1)
        simp [State.raise] at h4
    · cases h1
  · have h4 := congrArg State.status (Host.Outcome.next.inj h1)
    simp [State.raise] at h4

/-- Blocks that run one after another are the loop over them. -/
theorem runsAll_blocks {f : Nat → Fin 6 → Act Unit} {c : Fin 6 → Instr}
    (hx : ∀ b s, exec (c b) s = runOnMacroblock s.mbk (do f s.mbk b; pure .none) s) (hr : ∀ k b, Act.Rel State.SameButCoded (f k b))
    (l : List (Fin 6)) {k : Nat} {s t : State} (hk : s.mbk = k) (h : RunsAll (l.map c) s t) :
    forEach l (f k) s = .ok () t ∧ s.SameButCoded t := by
  induction l generalizing s with
  | nil =>
    cases h
    exact ⟨rfl, rfl⟩
  | cons b l ih =>
    obtain ⟨m, hm, hl⟩ := h
    subst hk
    have ha := runs_onMacroblock (hx b s) (hr s.mbk b) hm
    have hc := hr s.mbk b s
    rw [ha] at hc
    obtain ⟨g1, g2⟩ := ih (show m.mbk = s.mbk by rw [show m = _ from hc]) hl
    refine ⟨?_, State.SameButCoded.trans _ _ _ hc g2⟩
    rw [forEach, bind_apply_ok _ _ _ _ _ ha]
    exact g1

/-! ## Loops -/

/-- One turn of the AC loop (R216). -/
theorem acLoop_succ (t : AcSel) (scan : Scan) (n i : Nat) (s : State) :
    acLoop t scan (n + 1) i s = match acEvent t s with
      | .ok _ u => if h : i + u.ev.run < 64 then
          (if u.ev.last then .ok () (u.placeLevel scan ⟨i + u.ev.run, h⟩)
            else acLoop t scan n (i + u.ev.run + 1) (u.placeLevel scan ⟨i + u.ev.run, h⟩))
          else .error .invalidData u
      | .error e u => .error e u := by
  rw [acLoop]
  cases hs : acEvent t s with
  | error e u => rw [bind_apply_error _ _ _ _ _ hs]
  | ok a u =>
    rw [bind_apply_ok _ _ _ _ _ hs, bind_apply_ok _ _ _ _ _ (get_apply u)]
    dsimp only
    split
    · rw [bind_apply_ok _ _ _ _ _ (update_apply _ u)]
      split <;> rfl
    · rfl

/-- A turn moves the position on, so any fuel of at least the positions left gives the same answer. -/
theorem acLoop_fuel (t : AcSel) (scan : Scan) (n m i : Nat) (s : State) (hn : 0 < n) (hm : 0 < m) (h1 : 65 ≤ n + i) (h2 : 65 ≤ m + i) :
    acLoop t scan n i s = acLoop t scan m i s := by
  induction n generalizing m i s with
  | zero => omega
  | succ n ih =>
    obtain ⟨m, rfl⟩ : ∃ k, m = k + 1 := ⟨m - 1, by omega⟩
    rw [acLoop_succ, acLoop_succ]
    cases acEvent t s with
    | error e u => rfl
    | ok a u =>
      dsimp only
      split
      · split
        · rfl
        · exact ih _ _ _ (by omega) (by omega) (by omega) (by omega)
      · rfl

/-! ## What a parse looks at -/

theorem State.bitList_congr {s t : State} (h : t.bs = s.bs) (p n : Nat) : t.bitList p n = s.bitList p n := by
  induction n generalizing p with
  | zero => rfl
  | succ n ih => rw [State.bitList, State.bitList, ih, State.bit, State.bit, h]

/-- What a parse sees depends on the window and `BP` alone. -/
theorem State.ahead_congr {s t : State} (h : t.bs = s.bs) (h1 : t.bslen = s.bslen) (h2 : t.bp = s.bp) : t.ahead = s.ahead := by
  rw [State.ahead, State.ahead, h1, h2, State.bitList_congr h]

theorem readBit_fits {s u : State} {b : Bool} (h : readBit s = .ok b u) : s.bp + 1 ≤ 8 * s.bslen := by
  unfold readBit at h
  obtain ⟨v, w, g1, g2⟩ := (bind_ok_iff _ _ _ _ _).1 h
  rw [readBits_apply] at g1
  split at g1
  · assumption
  · cases g1

/-! ## What an operation answers -/

/-- What an operation answers, as the value its command computes. -/
theorem answers_value {i : Instr} {s : State} {r : Result} {f : State → Result} (h : Answers i s r)
    (hx : exec i s = runCommand (Act.of fun s => .ok (f s) s) s) : r = f s := by
  unfold Answers at h
  rw [hx, runCommand] at h
  split at h
  · have := congrArg State.result (Host.Outcome.next.inj h)
    exact this.symm
  · have := congrArg State.status (Host.Outcome.next.inj h)
    simp [State.raise] at this

end Sys2Proof.Machine
end

