-- ==== Sys2Proof/Laws/Window.lean ====
section
/-! SUPPORT. Reading the window: bit lists, the start-code scan, and what a codeword that does not fit answers. -/

namespace Sys2Proof.Machine

theorem bitsVal_append (a b : List Bool) : bitsVal (a ++ b) = bitsVal a * 2 ^ b.length + bitsVal b := by
  induction a with
  | nil => simp [bitsVal]
  | cons x a ih =>
    simp only [List.cons_append, bitsVal, List.length_append, ih]
    cases x <;> simp [pow_add]
    ring

theorem State.bitList_append (s : State) (p a b : Nat) : s.bitList p (a + b) = s.bitList p a ++ s.bitList (p + a) b := by
  induction a generalizing p with
  | zero => simp [State.bitList]
  | succ a ih =>
    rw [show a + 1 + b = (a + b) + 1 by omega]
    simp only [State.bitList, ih, List.cons_append]
    rw [show p + 1 + a = p + (a + 1) by omega]

/-- `allBits` in words. -/
theorem State.allBits_iff (s : State) (b : Bool) (p n : Nat) : s.allBits b p n = true ↔ ∀ j, j < n → s.bit (p + j) = b := by
  induction n generalizing p with
  | zero => simp [State.allBits]
  | succ n ih =>
    simp only [State.allBits, Bool.and_eq_true, beq_iff_eq, ih]
    constructor
    · rintro ⟨h0, h⟩ j hj
      cases j with
      | zero => exact h0
      | succ j =>
        have := h j (by omega)
        rwa [show p + 1 + j = p + (j + 1) by omega] at this
    · intro h
      refine ⟨h 0 (by omega), fun j hj => ?_⟩
      have := h (j + 1) (by omega)
      rwa [show p + (j + 1) = p + 1 + j by omega] at this

/-- The scan answers the first offset at which an accepted code stands. -/
theorem scanCode_spec (p : Byte → Bool) (data : List Byte) (a : Nat) (v : Nat) (c : Byte) :
    scanCode p a data = some (v, c) ↔ a + 4 ≤ v ∧ StartCodeIn data (v - 4 - a) c ∧ p c = true
      ∧ ∀ b d, b < v - 4 - a → p d = true → ¬ StartCodeIn data b d := by
  induction data generalizing a with
  | nil => simp [scanCode, StartCodeIn]
  | cons b0 rest ih =>
    have shift : ∀ b d, StartCodeIn (b0 :: rest) (b+1) d ↔ StartCodeIn rest b d := by
      intro b d; simp [StartCodeIn, show b + 1 + 2 = (b+2)+1 by omega, show b + 1 + 3 = (b+3)+1 by omega]
    have key : (∀ d, p d = true → ¬ StartCodeIn (b0::rest) 0 d) → (scanCode p (a+1) rest = some (v, c) ↔ a + 4 ≤ v ∧ StartCodeIn (b0::rest) (v - 4 - a) c ∧ p c = true ∧ ∀ b d, b < v - 4 - a → p d = true → ¬ StartCodeIn (b0::rest) b d) := by
      intro h0
      rw [ih]
      constructor
      · rintro ⟨h1, h2, h3, h4⟩
        refine ⟨by omega, ?_, h3, ?_⟩
        · rw [show v - 4 - a = (v - 4 - (a+1)) + 1 by omega, shift]; exact h2
        · intro b d hb hd
          cases b with
          | zero => exact h0 d hd
          | succ b => rw [shift]; exact h4 b d (by omega) hd
      · rintro ⟨h1, h2, h3, h4⟩
        have hne : v - 4 - a ≠ 0 := by intro he; rw [he] at h2; exact h0 c h3 h2
        refine ⟨by omega, ?_, h3, ?_⟩
        · rw [show v - 4 - a = (v - 4 - (a+1)) + 1 by omega, shift] at h2; exact h2
        · intro b d hb hd; rw [← shift]; exact h4 (b+1) d (by omega) hd
    unfold scanCode
    split
    · rename_i b1 b2 b3 tl
      split
      · rename_i h
        obtain ⟨rfl, rfl, rfl, h3⟩ := h
        constructor
        · intro he; simp only [Option.some.injEq, Prod.mk.injEq] at he; obtain ⟨rfl, rfl⟩ := he
          refine ⟨by omega, by simp [StartCodeIn], h3, by intro b d hb; omega⟩
        · rintro ⟨h1, h2, h3', h4⟩
          have : v - 4 - a = 0 := by
            by_contra hne
            exact h4 0 b3 (by omega) h3 (by simp [StartCodeIn])
          rw [this] at h2
          simp [StartCodeIn] at h2
          simp; exact ⟨by omega, h2⟩
      · rename_i h
        apply key
        intro d hd hs
        simp [StartCodeIn] at hs
        obtain ⟨rfl, rfl, rfl, rfl⟩ := hs
        exact h ⟨rfl, rfl, rfl, hd⟩
    · rename_i h
      have hl : rest.length < 3 := by
        match rest, h with
        | [], _ => simp
        | [_], _ => simp
        | [_,_], _ => simp
        | b1 :: b2 :: b3 :: tl, h => exact absurd rfl (h _ _ _ _)
      simp only [reduceCtorEq, false_iff]
      rintro ⟨_, hs, _⟩
      have := hs.2.2.2
      rw [List.getElem?_eq_some_iff] at this
      obtain ⟨h, _⟩ := this
      simp at h; omega

/-- A codeword the window does not hold is `InvalidData` and moves nothing (R104). -/
theorem runCode_short (n : Nat) (g : State → State) (r : Result) (s : State) (h : 8 * s.bslen < s.bp + n) :
    runCode n g r s = .next { s with status := .failed .invalidData, result := .none } := by
  rw [runCode, if_neg (by omega)]
  rfl

/-- A codeword the window holds runs. -/
theorem runCode_fits (n : Nat) (g : State → State) (r : Result) (s : State) (h : s.bp + n ≤ 8 * s.bslen) :
    runCode n g r s = .next { g { s with bp := s.bp + n } with status := .ok, result := r } := by
  rw [runCode, if_pos h]
  rfl

/-- A codeword of several reads that does not fit stops after its last whole read (R470). -/
theorem runReads_short (l : List Nat) (g : State → State) (r : Result) (s : State) (h : 8 * s.bslen < s.bp + l.sum) :
    runReads l g r s = .next { s with
      bp := s.bp + wholeReads l (8 * s.bslen - s.bp), status := .failed .invalidData, result := .none } := by
  rw [runReads, if_neg (by omega)]
  rfl

/-- A codeword of several reads that fits. -/
theorem runReads_fits (l : List Nat) (g : State → State) (r : Result) (s : State) (h : s.bp + l.sum ≤ 8 * s.bslen) :
    runReads l g r s = .next { g { s with bp := s.bp + l.sum } with status := .ok, result := r } := by
  rw [runReads, if_pos h]
  rfl

/-- The reads taken are the whole reads: the two ways to say where a codeword stops (R140, R470). -/
theorem readsTaken_iff (l : List Nat) (n c : Nat) : ReadsTaken l n c ↔ c = wholeReads l n := by
  obtain ⟨⟨j, hj⟩, h4⟩ := wholeReads_first l n
  have h5 := wholeReads_le l n
  constructor
  · rintro ⟨⟨k, hk⟩, h1, h2⟩
    have a := h2 j (by omega)
    have b := h4 k (by omega)
    omega
  · rintro rfl
    exact ⟨⟨j, hj⟩, h5, h4⟩

/-- A row whose codeword the window does not hold moves nothing (R104). -/
theorem runAcRow_short (n : Nat) (last : Bool) (run level : Nat) (s : State) (h : 8 * s.bslen < s.bp + n) :
    runAcRow n last run level s = .next { s with status := .failed .invalidData, result := .none } := by
  rw [runAcRow, if_neg (by omega)]
  rfl

/-- A row whose sign bit is missing keeps `BP` after the codeword (R470). -/
theorem runAcRow_exact (n : Nat) (last : Bool) (run level : Nat) (s : State) (h : s.bp + n = 8 * s.bslen) :
    runAcRow n last run level s = .next { s with bp := s.bp + n, status := .failed .invalidData, result := .none } := by
  rw [runAcRow, if_pos (by omega)]
  have hf : (finishRow last run level >>= fun _ => pure Result.none : Act Result) (s.advance n) = .error .invalidData (s.advance n) := by
    apply bind_apply_error
    apply bind_apply_error
    apply bind_apply_error
    rw [readBits_apply, if_neg]
    show ¬(s.bp + n + 1 ≤ 8 * s.bslen)
    omega
  rw [hf]
  rfl

/-- An operation on a macroblock in `Closed` raises `InvalidData` (R420). -/
theorem runOnMacroblock_closed (k : Nat) (a : Act Result) (s : State) (h : s.opened = false) :
    runOnMacroblock k a s = .next (s.raise .invalidData) := by
  unfold runOnMacroblock
  rw [h]
  rfl

/-- A command always answers a next state. -/
theorem runCommand_next (a : Act Result) (s : State) : ∃ t, runCommand a s = .next t := by
  unfold runCommand outcomeOf
  split
  · split <;> exact ⟨_, rfl⟩
  · exact ⟨_, rfl⟩

/-- A codeword always answers a next state. -/
theorem runCode_next (n : Nat) (g : State → State) (r : Result) (s : State) : ∃ t, runCode n g r s = .next t := by
  unfold runCode
  split <;> exact ⟨_, rfl⟩

/-- A codeword of several reads always answers a next state. -/
theorem runReads_next (l : List Nat) (g : State → State) (r : Result) (s : State) : ∃ t, runReads l g r s = .next t := by
  unfold runReads
  split <;> exact ⟨_, rfl⟩

/-- A row always answers a next state. -/
theorem runAcRow_next (n : Nat) (last : Bool) (run level : Nat) (s : State) : ∃ t, runAcRow n last run level s = .next t := by
  unfold runAcRow outcomeOf
  split
  · split <;> exact ⟨_, rfl⟩
  · exact ⟨_, rfl⟩

end Sys2Proof.Machine
end

