-- ==== Sys2Proof/Laws/Codewords.lean ====
section
/-! SUPPORT. The parse of one codeword: what each parse takes where it ends with a value, when an operation's read is that
of an instruction, and what the reads of a block can write, raised or not. -/

namespace Sys2Proof.Machine

/-- A read that ends as its instruction does. -/
theorem readBy_ok {α : Type} {s u : State} {t : Table} {a : Act α} {out : α → Result} {i : Instr} {n : Nat} {v : α}
    (hinj : ∀ x y, out x = out y → x = y) (hd : decode t s.ahead = .ok i n) (ha : a s = .ok v u)
    (hx : exec i s = .next { u with status := .ok, result := out v }) (h1 : u.status = s.status) (h2 : u.result = s.result) :
    s.ReadBy t a out := by
  unfold State.ReadBy
  rw [hd]
  dsimp only
  refine ⟨fun w x => ⟨fun h => ?_, fun ⟨g1, g2, g3⟩ => ?_⟩, fun k x => ⟨fun h => ?_, fun ⟨g1, g2, g3⟩ => ?_⟩⟩
  · rw [ha] at h
    cases h
    exact ⟨hx, h1, h2⟩
  · rw [hx] at g1
    have g := Host.Outcome.next.inj g1
    have e1 := State.eq_of_outputs g (h1.trans g2.symm) (h2.trans g3.symm)
    have e2 := hinj _ _ (congrArg State.result g)
    rw [ha, e1, e2]
  · rw [ha] at h
    cases h
  · rw [hx] at g1
    have := congrArg State.status (Host.Outcome.next.inj g1)
    cases this

/-- A read that raises what its instruction raises. -/
theorem readBy_error {α : Type} {s u : State} {t : Table} {a : Act α} {out : α → Result} {i : Instr} {n : Nat} {e : Kind}
    (hd : decode t s.ahead = .ok i n) (ha : a s = .error e u) (hx : s.Raises i e u) : s.ReadBy t a out := by
  unfold State.ReadBy
  rw [hd]
  dsimp only
  refine ⟨fun w x => ⟨fun h => ?_, fun ⟨g1, g2, g3⟩ => ?_⟩, fun k x => ⟨fun h => ?_, fun ⟨g1, g2, g3⟩ => ?_⟩⟩
  · rw [ha] at h
    cases h
  · rw [hx.1] at g1
    have := congrArg State.status (Host.Outcome.next.inj g1)
    cases this
  · rw [ha] at h
    cases h
    exact hx
  · rw [hx.1] at g1
    have g := Host.Outcome.next.inj g1
    have e1 := State.eq_of_outputs g (hx.2.1.trans g2.symm) (hx.2.2.trans g3.symm)
    have e2 := congrArg State.status g
    cases e2
    rw [ha, e1]

/-- Decoding with a table whose parse is one read `d`. -/
theorem decode_of_read {α : Type} {t : Table} {d : Dec α} {f : α → Instr} (hp : parseInstr t = (do return f (← d))) (b : List Bool) :
    decode t b = match d ⟨b, 0⟩ with
      | .ok v c => .ok (f v) c.used
      | .error e c => .reject e c.used := by
  unfold decode
  rw [hp]
  have : (do return f (← d) : Dec Instr) ⟨b, 0⟩ = match d ⟨b, 0⟩ with
      | .ok v c => .ok (f v) c
      | .error e c => .error e c := by
    show EStateM.bind d _ _ = _
    unfold EStateM.bind
    cases d ⟨b, 0⟩ <;> rfl
  rw [this]
  cases d ⟨b, 0⟩ <;> rfl

/-- What a parse that ends took lies inside the window. -/
theorem parse_fits {α : Type} (d : Dec α) (hd : Dec.Counts d) (s : State) {v : α} {c : Cursor}
    (h : d ⟨s.ahead, 0⟩ = .ok v c) (hb : s.bp ≤ 8 * s.bslen) :
    s.bp + c.used ≤ 8 * s.bslen := by
  have := hd ⟨s.ahead, 0⟩
  rw [h] at this
  simp only [cursorOf_ok] at this
  have hl := s.ahead_length
  omega

/-- What `takeBits` does where it ends with a value. -/
theorem takeBits_ok {n : Nat} {c d : Cursor} {v : Nat} (h : takeBits n c = .ok v d) :
    d = c.skip n ∧ v = bitsVal (c.rest.take n) ∧ n ≤ c.rest.length := by
  unfold takeBits at h
  split at h
  · cases h; exact ⟨rfl, rfl, by assumption⟩
  · cases h

/-- What `takeBit` does where it ends with a value. -/
theorem takeBit_ok {c d : Cursor} {v : Bool} (h : takeBit c = .ok v d) : d = c.skip 1 ∧ 1 ≤ c.rest.length := by
  obtain ⟨x, u, h1, h2⟩ := (Dec.bind_ok_iff _ _ _ _ _).1 h
  cases h2
  exact ⟨(takeBits_ok h1).1, (takeBits_ok h1).2.2⟩

/-- A value of some bits is below the power of two of their number. -/
theorem bitsVal_lt (l : List Bool) : bitsVal l < 2 ^ l.length := by
  induction l with
  | nil => simp [bitsVal]
  | cons b l ih =>
    rw [bitsVal, List.length_cons, Nat.pow_succ]
    cases b <;> simp <;> omega

/-- What `vlc` does where it ends with a row: the row is of the table, and its codeword is what is taken. -/
theorem vlc_taken {α : Type} {code : α → List Bool} {l : List α} {c d : Cursor} {r : α} (h : vlc code l c = .ok r d) :
    r ∈ l ∧ d = c.skip (code r).length ∧ (code r).length ≤ c.rest.length := by
  have h0 := vlc_ok h
  refine ⟨h0.1, h0.2, ?_⟩
  unfold vlc at h
  split at h
  · rename_i r' hr
    cases h
    have := List.find?_some hr
    exact (List.isPrefixOf_iff_prefix.1 this).length_le
  · split at h <;> cases h

/-- What the parse of a DC codeword does where it ends with a value (R202, R107). -/
theorem parseDc_ok {t : List DcRow} {c d : Cursor} {r : DcRow} {v : Nat} {m : Bool} (h : parseDc t c = .ok (r, v, m) d) :
    r ∈ t ∧ v < 2 ^ r.size ∧ d.used = c.used + ([r.code.length, r.size] ++ (if r.size > 8 then [1] else [])).sum
      ∧ ([r.code.length, r.size] ++ (if r.size > 8 then [1] else [])).sum ≤ c.rest.length := by
  unfold parseDc at h
  obtain ⟨r', c1, h1, h⟩ := (Dec.bind_ok_iff _ _ _ _ _).1 h
  obtain ⟨v', c2, h2, h⟩ := (Dec.bind_ok_iff _ _ _ _ _).1 h
  obtain ⟨g1, g2, g3⟩ := vlc_taken h1
  obtain ⟨g4, g5, g6⟩ := takeBits_ok h2
  subst g2
  subst g4
  have hv : v' < 2 ^ r'.size := by
    rw [g5]
    have := bitsVal_lt ((c.skip r'.code.length).rest.take r'.size)
    rw [List.length_take, min_eq_left g6] at this
    exact this
  simp only [Cursor.skip, List.length_drop] at g6
  split at h
  · rename_i hs
    obtain ⟨m', c3, h3, h⟩ := (Dec.bind_ok_iff _ _ _ _ _).1 h
    obtain ⟨g7, g8⟩ := takeBit_ok h3
    cases h
    subst g7
    simp only [Cursor.skip, List.length_drop] at g8
    refine ⟨g1, hv, ?_, ?_⟩ <;> rw [if_pos hs] <;> simp [Cursor.skip] <;> omega
  · rename_i hs
    cases h
    refine ⟨g1, hv, ?_, ?_⟩ <;> rw [if_neg hs] <;> simp [Cursor.skip] <;> omega

/-- What the parse of an MVD codeword does where it ends with a value (R175). -/
theorem parseMvd_ok {f : Nat} {c d : Cursor} {r : MvdRow} {neg : Bool} {res : Nat} (h : parseMvd f c = .ok (r, neg, res) d) :
    r ∈ mvdTable ∧ d.used = c.used + (if r.mag = 0 then r.code.length else [r.code.length, 1, f - 1].sum)
      ∧ (if r.mag = 0 then r.code.length else [r.code.length, 1, f - 1].sum) ≤ c.rest.length := by
  unfold parseMvd at h
  obtain ⟨r', c1, h1, h⟩ := (Dec.bind_ok_iff _ _ _ _ _).1 h
  obtain ⟨g1, g2, g3⟩ := vlc_taken h1
  subst g2
  split at h
  · rename_i hs
    cases h
    refine ⟨g1, ?_, ?_⟩ <;> rw [if_pos hs]
    · rfl
    · exact g3
  · rename_i hs
    obtain ⟨s', c2, h2, h⟩ := (Dec.bind_ok_iff _ _ _ _ _).1 h
    obtain ⟨v', c3, h3, h⟩ := (Dec.bind_ok_iff _ _ _ _ _).1 h
    obtain ⟨g4, g5⟩ := takeBit_ok h2
    obtain ⟨g6, g7, g8⟩ := takeBits_ok h3
    cases h
    subst g4
    subst g6
    simp only [Cursor.skip, List.length_drop] at g5 g8
    refine ⟨g1, ?_, ?_⟩ <;> rw [if_neg hs] <;> simp [Cursor.skip] <;> omega

/-- The bits that the parse of an event takes; the sign bit of a row is none of them. -/
def AcForm.len (a : AcForm) : Nat :=
  match a with
  | .row r => r.code.length
  | .esc1 r _ => 9 + r.code.length
  | .esc2 r _ => 10 + r.code.length
  | .esc3 _ _ _ _ _ => 30

/-- The row an event was read from is of the table. -/
def AcForm.rowIn (t : AcSel) (a : AcForm) : Prop :=
  match a with
  | .row r => r ∈ t.rows
  | .esc1 r _ => r ∈ t.rows
  | .esc2 r _ => r ∈ t.rows
  | .esc3 _ _ _ _ _ => True

/-- A codeword of the AC table that is no escape. -/
theorem vlcAc_some {t : AcSel} {c d : Cursor} {r : AcRow} (h : vlc acCode (none :: t.rows.map some) c = .ok (some r) d) :
    r ∈ t.rows ∧ d = c.skip r.code.length ∧ r.code.length ≤ c.rest.length := by
  obtain ⟨h1, h2, h3⟩ := vlc_taken h
  refine ⟨by simpa using h1, h2, h3⟩

/-- The escape codeword has 7 bits. -/
theorem vlcAc_none {t : AcSel} {c d : Cursor} (h : vlc acCode (none :: t.rows.map some) c = .ok none d) : d = c.skip 7 ∧ 7 ≤ c.rest.length := by
  obtain ⟨h1, h2, h3⟩ := vlc_taken h
  exact ⟨h2, h3⟩

/-- What the inner codeword of an escape is (R212). -/
theorem parseInner_ok {t : AcSel} {c d : Cursor} {r : AcRow} (h : parseInner t c = .ok r d) :
    r ∈ t.rows ∧ d = c.skip r.code.length ∧ r.code.length ≤ c.rest.length := by
  unfold parseInner at h
  obtain ⟨o, c1, h1, h⟩ := (Dec.bind_ok_iff _ _ _ _ _).1 h
  cases o with
  | some r' => cases h; exact vlcAc_some h1
  | none => cases h

/-- What the parse of an AC codeword does where it ends with a value (R212). -/
theorem parseAc_ok {t : AcSel} {c d : Cursor} {a : AcForm} (h : parseAc t c = .ok a d) :
    AcForm.rowIn t a ∧ d.used = c.used + AcForm.len a ∧ AcForm.len a ≤ c.rest.length := by
  unfold parseAc at h
  obtain ⟨o, c1, h1, h⟩ := (Dec.bind_ok_iff _ _ _ _ _).1 h
  cases o with
  | some r =>
    cases h
    obtain ⟨g1, g2, g3⟩ := vlcAc_some h1
    subst g2
    exact ⟨g1, rfl, g3⟩
  | none =>
    obtain ⟨g1, g2⟩ := vlcAc_none h1
    subst g1
    dsimp only at h
    obtain ⟨e1, c2, h2, h⟩ := (Dec.bind_ok_iff _ _ _ _ _).1 h
    obtain ⟨g3, g4⟩ := takeBit_ok h2
    subst g3
    simp only [Cursor.skip, List.length_drop] at g4
    split at h
    · obtain ⟨r, c3, h3, h⟩ := (Dec.bind_ok_iff _ _ _ _ _).1 h
      obtain ⟨sg, c4, h4, h⟩ := (Dec.bind_ok_iff _ _ _ _ _).1 h
      obtain ⟨k1, k2, k3⟩ := parseInner_ok h3
      obtain ⟨k4, k5⟩ := takeBit_ok h4
      cases h
      subst k4 k2
      simp only [Cursor.skip, List.length_drop] at k3 k5
      exact ⟨k1, by simp [Cursor.skip, AcForm.len]; omega, by simp [AcForm.len]; omega⟩
    · obtain ⟨e2, c3, h3, h⟩ := (Dec.bind_ok_iff _ _ _ _ _).1 h
      obtain ⟨k1, k2⟩ := takeBit_ok h3
      subst k1
      simp only [Cursor.skip, List.length_drop] at k2
      split at h
      · obtain ⟨r, c3, h3, h⟩ := (Dec.bind_ok_iff _ _ _ _ _).1 h
        obtain ⟨sg, c4, h4, h⟩ := (Dec.bind_ok_iff _ _ _ _ _).1 h
        obtain ⟨k1, k2, k3⟩ := parseInner_ok h3
        obtain ⟨k4, k5⟩ := takeBit_ok h4
        cases h
        subst k4 k2
        simp only [Cursor.skip, List.length_drop] at k3 k5
        exact ⟨k1, by simp [Cursor.skip, AcForm.len]; omega, by simp [AcForm.len]; omega⟩
      · obtain ⟨x1, d1, h4, h⟩ := (Dec.bind_ok_iff _ _ _ _ _).1 h
        obtain ⟨x2, d2, h5, h⟩ := (Dec.bind_ok_iff _ _ _ _ _).1 h
        obtain ⟨x3, d3, h6, h⟩ := (Dec.bind_ok_iff _ _ _ _ _).1 h
        obtain ⟨x4, d4, h7, h⟩ := (Dec.bind_ok_iff _ _ _ _ _).1 h
        obtain ⟨x5, d5, h8, h⟩ := (Dec.bind_ok_iff _ _ _ _ _).1 h
        cases h
        obtain ⟨j1, j2⟩ := takeBit_ok h4
        subst j1
        obtain ⟨j3, -, j4⟩ := takeBits_ok h5
        subst j3
        obtain ⟨j5, j6⟩ := takeBit_ok h6
        subst j5
        obtain ⟨j7, -, j8⟩ := takeBits_ok h7
        subst j7
        obtain ⟨j9, j10⟩ := takeBit_ok h8
        subst j9
        simp only [Cursor.skip, List.length_drop] at j2 j4 j6 j8 j10
        exact ⟨trivial, by simp [Cursor.skip, AcForm.len], by simp [AcForm.len]; omega⟩

/-- The instruction of an AC row, its number in the table, and its codeword. -/
def AcRowFact (t : AcSel) (r : AcRow) : Prop :=
  (∀ s, exec r.ctor s = runAcRow r.code.length r.last r.run r.level s) ∧ t.row r.num = r ∧ 0 < r.code.length

/-- Every row of the intra table. -/
theorem acRowFacts_intra : ∀ r ∈ acIntraTable, AcRowFact .intra r := by
  intro r hr
  simp only [acIntraTable, acIntraTableA, acIntraTableB, acIntraTableC, List.cons_append, List.nil_append, List.mem_cons,
    List.not_mem_nil, or_false] at hr
  repeat' (first | (rcases hr with hr | hr) | subst hr)
  all_goals exact ⟨fun _ => rfl, rfl, by decide⟩

/-- Every row of the inter table. -/
theorem acRowFacts_inter : ∀ r ∈ acInterTable, AcRowFact .inter r := by
  intro r hr
  simp only [acInterTable, acInterTableA, acInterTableB, acInterTableC, List.cons_append, List.nil_append, List.mem_cons,
    List.not_mem_nil, or_false] at hr
  repeat' (first | (rcases hr with hr | hr) | subst hr)
  all_goals exact ⟨fun _ => rfl, rfl, by decide⟩

/-- Every row of an AC table. -/
theorem acRowFacts (t : AcSel) : ∀ r ∈ t.rows, AcRowFact t r := by
  cases t
  · exact acRowFacts_intra
  · exact acRowFacts_inter

/-- `t` is `s` but for what reading a block writes. -/
def State.SameButRead (s t : State) : Prop := t = { s with bp := t.bp, ev := t.ev, qf := t.qf }

/-- Nothing changed. -/
theorem State.SameButRead.refl (s : State) : s.SameButRead s := rfl

/-- One after the other. -/
theorem State.SameButRead.trans (s t u : State) (h : s.SameButRead t) (g : t.SameButRead u) : s.SameButRead u := by
  unfold State.SameButRead at *
  rw [g, h]

/-- A parse moves `BP` only. -/
theorem parse_read {α : Type} (d : Dec α) : Act.Rel State.SameButRead (parse d) := fun s => by
  unfold parse
  split <;> rfl

/-- What reading an AC event can write, whether or not it raises. -/
theorem acEvent_read (t : AcSel) : Act.Rel State.SameButRead (acEvent t) :=
  Act.rel_bind State.SameButRead.trans (parse_read _) (fun f => by
    cases f with
    | row r =>
      have ht := State.SameButRead.trans
      have hr := State.SameButRead.refl
      exact Act.rel_bind ht (Act.rel_bind ht (Act.rel_readBits hr 1 (fun _ _ => rfl)) (fun _ => Act.rel_pure hr _))
        (fun _ => Act.rel_update (fun _ => rfl))
    | esc1 r s => exact Act.rel_update (fun _ => rfl)
    | esc2 r s => exact Act.rel_update (fun _ => rfl)
    | esc3 a b c d e => exact Act.rel_update (fun _ => rfl))

/-- What the AC loop can write, whether or not it raises. -/
theorem acLoop_read (t : AcSel) (scan : Scan) (n i : Nat) : Act.Rel State.SameButRead (acLoop t scan n i) := by
  induction n generalizing i with
  | zero => exact Act.rel_raise State.SameButRead.refl _
  | succ n ih =>
    refine Act.rel_bind State.SameButRead.trans (acEvent_read t) (fun _ => ?_)
    refine Act.rel_bind State.SameButRead.trans (Act.rel_get State.SameButRead.refl) (fun s => ?_)
    dsimp only
    split
    · refine Act.rel_bind State.SameButRead.trans (Act.rel_update (fun _ => rfl)) (fun _ => ?_)
      exact Act.rel_ite (Act.rel_pure State.SameButRead.refl _) (ih _)
    · exact Act.rel_raise State.SameButRead.refl _

/-- What reading a DC code can write, whether or not it raises. -/
theorem dcDiff_read (b : Fin 6) : Act.Rel State.SameButRead (dcDiff b) :=
  Act.rel_bind State.SameButRead.trans (parse_read _) (fun _ => Act.rel_pure State.SameButRead.refl _)

end Sys2Proof.Machine
end

