-- ==== Sys2Proof/Laws/Macroblock.lean ====
section
/-! SUPPORT. What decoding a macroblock can write, operation by operation, and what `DECODE_MB` answers. -/

namespace Sys2Proof.Machine

/-- `t` is `s` but for what decoding a macroblock can write. -/
def State.SameButMacroblock (s t : State) : Prop :=
  t = { s with
    bp := t.bp, ev := t.ev, qf := t.qf, coef := t.coef, residual := t.residual, pc := t.pc, cur := t.cur
    mb := t.mb, qp := t.qp, pred := t.pred, mbi := t.mbi, pmvF := t.pmvF, pmvB := t.pmvB, fail := t.fail, mbk := t.mbk }

theorem State.SameButMacroblock.refl (s : State) : s.SameButMacroblock s := rfl

theorem State.SameButMacroblock.trans (s t u : State) (h : s.SameButMacroblock t) (g : t.SameButMacroblock u) :
    s.SameButMacroblock u := by
  unfold State.SameButMacroblock at *
  rw [g, h]

theorem State.SameButCoded.macroblock {s t : State} (h : s.SameButCoded t) : s.SameButMacroblock t := by
  unfold State.SameButCoded State.SameButMacroblock at *
  rw [h]

theorem copyBlock_macroblock (s : State) (k : Nat) (ref : FrameStore) (b : Fin 6) : s.SameButMacroblock (s.copyBlock k ref b) := rfl

theorem copyMb_macroblock (s : State) (k : Nat) (ref : FrameStore) : s.SameButMacroblock (s.copyMb k ref) := by
  have : ∀ (l : List (Fin 6)) (s : State), s.SameButMacroblock (l.foldl (fun t b => t.copyBlock k ref b) s) := by
    intro l
    induction l with
    | nil => exact State.SameButMacroblock.refl
    | cons b l ih => exact fun s => State.SameButMacroblock.trans _ _ _ (copyBlock_macroblock s k ref b) (ih _)
  exact this blocks s

theorem set_mbi_macroblock (t : State) (m : List MbInfo) : t.SameButMacroblock { t with mbi := m } := rfl

theorem set_fail_macroblock (t : State) (m : Bool) : t.SameButMacroblock { t with fail := m } := rfl

theorem degrade_macroblock (s : State) (k : Nat) : s.SameButMacroblock (s.degrade k) := by
  unfold State.degrade
  dsimp only
  split
  · exact copyMb_macroblock s k _
  · exact State.SameButMacroblock.trans _ _ _ (copyMb_macroblock s k s.refNew) (set_mbi_macroblock _ _)

theorem Act.Rel.mono {α : Type} {R Q : State → State → Prop} {a : Act α} (h : Act.Rel R a) (hq : ∀ s t, R s t → Q s t) : Act.Rel Q a :=
  fun s => hq _ _ (h s)

theorem parse_macroblock {α : Type} (d : Dec α) : Act.Rel State.SameButMacroblock (parse d) :=
  (parse_coded d).mono fun _ _ => State.SameButCoded.macroblock

theorem readBit_macroblock : Act.Rel State.SameButMacroblock readBit :=
  readBit_coded.mono fun _ _ => State.SameButCoded.macroblock

theorem readBits_macroblock (n : Nat) : Act.Rel State.SameButMacroblock (readBits n) :=
  Act.rel_readBits State.SameButMacroblock.refl n (fun _ _ => rfl)

theorem intraBlock_macroblock (k : Nat) (b : Fin 6) : Act.Rel State.SameButMacroblock (intraBlock k b) :=
  (intraBlock_coded k b).mono fun _ _ => State.SameButCoded.macroblock

theorem interBlock_macroblock (k : Nat) (b : Fin 6) : Act.Rel State.SameButMacroblock (interBlock k b) :=
  (interBlock_coded k b).mono fun _ _ => State.SameButCoded.macroblock

section
variable {α β : Type}

theorem Act.macroblock_bind {x : Act α} {f : α → Act β} (hx : Act.Rel State.SameButMacroblock x) (hf : ∀ a, Act.Rel State.SameButMacroblock (f a)) :
    Act.Rel State.SameButMacroblock (x >>= f) := Act.rel_bind State.SameButMacroblock.trans hx hf

theorem Act.macroblock_get : Act.Rel State.SameButMacroblock (get : Act State) := Act.rel_get State.SameButMacroblock.refl
theorem Act.macroblock_pure (a : α) : Act.Rel State.SameButMacroblock (pure a : Act α) := Act.rel_pure State.SameButMacroblock.refl a
theorem Act.macroblock_update {g : State → State} (h : ∀ s : State, s.SameButMacroblock (g s)) : Act.Rel State.SameButMacroblock (update g) := Act.rel_update h
theorem Act.macroblock_forEach (l : List α) {f : α → Act Unit} (hf : ∀ a, Act.Rel State.SameButMacroblock (f a)) : Act.Rel State.SameButMacroblock (forEach l f) :=
  Act.rel_forEach State.SameButMacroblock.refl State.SameButMacroblock.trans l hf
end

theorem offsetQp_macroblock (s : State) (d : Int) : s.SameButMacroblock (s.offsetQp d) := rfl

theorem readMcbpcI_macroblock (n : Nat) : Act.Rel State.SameButMacroblock (readMcbpcI n) := by
  induction n with
  | zero => exact Act.rel_raise State.SameButMacroblock.refl _
  | succ n ih =>
    refine Act.macroblock_bind (parse_macroblock _) (fun r => ?_)
    split
    · exact Act.macroblock_pure _
    · exact ih

theorem readMcbpcP_macroblock (n : Nat) : Act.Rel State.SameButMacroblock (readMcbpcP n) := by
  induction n with
  | zero => exact Act.rel_raise State.SameButMacroblock.refl _
  | succ n ih =>
    refine Act.macroblock_bind readBit_macroblock (fun b => ?_)
    split
    · exact Act.macroblock_pure _
    · refine Act.macroblock_bind (parse_macroblock _) (fun r => ?_)
      split
      · exact Act.macroblock_pure _
      · exact ih

theorem readCbpy_macroblock (c : BitVec 2) : Act.Rel State.SameButMacroblock (readCbpy c) :=
  Act.macroblock_bind (parse_macroblock _) (fun _ => Act.macroblock_update (fun _ => rfl))

theorem readDquant_macroblock : Act.Rel State.SameButMacroblock readDquant := by
  refine Act.macroblock_bind Act.macroblock_get (fun s => ?_)
  split
  · exact Act.macroblock_bind (parse_macroblock _) (fun _ => Act.macroblock_update (fun _ => rfl))
  · exact Act.macroblock_pure _

theorem decodeDelta_macroblock (f : Nat) : Act.Rel State.SameButMacroblock (decodeDelta f) :=
  Act.macroblock_bind (parse_macroblock _) (fun _ => Act.macroblock_pure _)

theorem decodeVector_macroblock (p : MV) (f : Nat) : Act.Rel State.SameButMacroblock (decodeVector p f) :=
  Act.macroblock_bind (decodeDelta_macroblock f) (fun _ => Act.macroblock_bind (decodeDelta_macroblock f) (fun _ => Act.macroblock_pure _))

theorem decodeMv_macroblock (k : Nat) (b : Fin 4) : Act.Rel State.SameButMacroblock (decodeMv k b) := fun s => decodeVector_macroblock _ _ s

theorem mbI_macroblock (k : Nat) : Act.Rel State.SameButMacroblock (mbI k) := by
  refine Act.macroblock_bind Act.macroblock_get (fun s => Act.macroblock_bind (readMcbpcI_macroblock _) (fun p => ?_))
  exact Act.macroblock_bind (Act.macroblock_update (fun _ => rfl)) (fun _ => Act.macroblock_bind readBit_macroblock (fun _ => Act.macroblock_bind (Act.macroblock_update (fun _ => rfl)) (fun _ =>
    Act.macroblock_bind (readCbpy_macroblock _) (fun _ => Act.macroblock_bind readDquant_macroblock (fun _ => Act.macroblock_forEach _ (intraBlock_macroblock k))))))

theorem readMcsel_macroblock : Act.Rel State.SameButMacroblock readMcsel := by
  refine Act.macroblock_bind (Act.macroblock_update (fun _ => rfl)) (fun _ => Act.macroblock_bind Act.macroblock_get (fun s => ?_))
  split
  · exact Act.macroblock_bind readBit_macroblock (fun _ => Act.macroblock_update (fun _ => rfl))
  · exact Act.macroblock_pure _

theorem readAcPred_macroblock : Act.Rel State.SameButMacroblock readAcPred := by
  refine Act.macroblock_bind Act.macroblock_get (fun s => ?_)
  split
  · exact Act.macroblock_bind readBit_macroblock (fun _ => Act.macroblock_update (fun _ => rfl))
  · exact Act.macroblock_update (fun _ => rfl)

theorem pVectors_macroblock (k : Nat) : Act.Rel State.SameButMacroblock (pVectors k) := by
  refine Act.macroblock_bind Act.macroblock_get (fun s => ?_)
  split
  · exact Act.macroblock_forEach _ (fun b => Act.macroblock_bind (decodeMv_macroblock k b) (fun _ => Act.macroblock_update (fun _ => rfl)))
  · split
    · split
      · exact Act.macroblock_update (fun _ => rfl)
      · exact Act.macroblock_bind (decodeMv_macroblock k 0) (fun _ => Act.macroblock_update (fun _ => rfl))
    · exact Act.macroblock_pure _

theorem pBlocks_macroblock (k : Nat) : Act.Rel State.SameButMacroblock (pBlocks k) := by
  refine Act.macroblock_bind Act.macroblock_get (fun s => ?_)
  split
  · exact Act.macroblock_forEach _ (intraBlock_macroblock k)
  · exact Act.macroblock_bind (Act.macroblock_update (fun _ => rfl)) (fun _ => Act.macroblock_forEach _ (interBlock_macroblock k))

theorem mbP_macroblock (k : Nat) : Act.Rel State.SameButMacroblock (mbP k) := by
  refine Act.macroblock_bind Act.macroblock_get (fun s => Act.macroblock_bind (readMcbpcP_macroblock _) (fun p => ?_))
  split
  · exact Act.macroblock_update (fun u => State.SameButMacroblock.trans u (u.setMb { u.mb with mode := .notCoded, acPred := false }) _ rfl (copyMb_macroblock _ k _))
  · exact Act.macroblock_bind (Act.macroblock_update (fun _ => rfl)) (fun _ => Act.macroblock_bind readMcsel_macroblock (fun _ => Act.macroblock_bind readAcPred_macroblock (fun _ =>
      Act.macroblock_bind (readCbpy_macroblock _) (fun _ => Act.macroblock_bind readDquant_macroblock (fun _ => Act.macroblock_bind (pVectors_macroblock k) (fun _ => pBlocks_macroblock k))))))

theorem forwardVector_macroblock : Act.Rel State.SameButMacroblock forwardVector :=
  Act.macroblock_bind Act.macroblock_get (fun _ => Act.macroblock_bind (decodeVector_macroblock _ _) (fun _ => Act.macroblock_update (fun _ => rfl)))

theorem backwardVector_macroblock : Act.Rel State.SameButMacroblock backwardVector :=
  Act.macroblock_bind Act.macroblock_get (fun _ => Act.macroblock_bind (decodeVector_macroblock _ _) (fun _ => Act.macroblock_update (fun _ => rfl)))

theorem bVectors_macroblock (k : Nat) : Act.Rel State.SameButMacroblock (bVectors k) := by
  refine Act.macroblock_bind Act.macroblock_get (fun s => ?_)
  split
  · exact forwardVector_macroblock
  · exact backwardVector_macroblock
  · exact Act.macroblock_bind forwardVector_macroblock (fun _ => backwardVector_macroblock)
  · exact Act.macroblock_bind (decodeDelta_macroblock 1) (fun _ => Act.macroblock_bind (decodeDelta_macroblock 1) (fun _ => Act.macroblock_update (fun _ => rfl)))
  · exact Act.macroblock_update (fun _ => rfl)

theorem readBHeader_macroblock : Act.Rel State.SameButMacroblock readBHeader := by
  refine Act.macroblock_bind readBit_macroblock (fun d => ?_)
  split
  · exact Act.macroblock_update (fun _ => rfl)
  · refine Act.macroblock_bind readBit_macroblock (fun n => Act.macroblock_bind (parse_macroblock _) (fun t => Act.macroblock_bind (Act.macroblock_update (fun _ => rfl)) (fun _ => ?_)))
    have tail : ∀ cbp : Nat, Act.Rel State.SameButMacroblock (do
        update (fun s => s.setCbp (BitVec.ofNat 6 cbp))
        if t.btype ≠ .direct ∧ BitVec.ofNat 6 cbp ≠ 0#6 then
          let d ← parse (vlc QuantRow.code dbquantTable)
          update (fun s => s.offsetQp d.delta)
        else pure ()) := fun cbp => by
      refine Act.macroblock_bind (Act.macroblock_update (fun _ => rfl)) (fun _ => ?_)
      split
      · exact Act.macroblock_bind (parse_macroblock _) (fun _ => Act.macroblock_update (fun _ => rfl))
      · exact Act.macroblock_pure _
    split
    · exact Act.macroblock_bind (Act.macroblock_pure _) (fun c => tail c)
    · exact Act.macroblock_bind (readBits_macroblock 6) (fun c => tail c)

theorem startRow_macroblock (s : State) (k : Nat) : s.SameButMacroblock (s.startRow k) := by
  unfold State.startRow
  split <;> rfl

theorem mbB_macroblock (k : Nat) : Act.Rel State.SameButMacroblock (mbB k) := by
  refine Act.macroblock_bind (Act.macroblock_update (fun s => startRow_macroblock s k)) (fun _ => Act.macroblock_bind Act.macroblock_get (fun s => ?_))
  have tail : Act.Rel State.SameButMacroblock (do
      update (fun s => s.predictB k)
      forEach blocks (fun b => interBlock k b)) :=
    Act.macroblock_bind (Act.macroblock_update (fun _ => rfl)) (fun _ => Act.macroblock_forEach _ (interBlock_macroblock k))
  split
  · exact Act.macroblock_bind (Act.macroblock_update (fun _ => rfl)) (fun _ => tail)
  · exact Act.macroblock_bind (Act.macroblock_update (fun _ => rfl)) (fun _ => Act.macroblock_bind readBHeader_macroblock (fun _ => Act.macroblock_bind (bVectors_macroblock k) (fun _ => tail)))

/-- What decoding a macroblock can write. -/
theorem decodeMb_macroblock (k : Nat) : Act.Rel State.SameButMacroblock (decodeMb k) := by
  refine Act.macroblock_bind Act.macroblock_get (fun s => ?_)
  split
  · exact Act.macroblock_bind (mbI_macroblock k) (fun _ => Act.macroblock_update (fun _ => rfl))
  · exact Act.macroblock_bind (mbP_macroblock k) (fun _ => Act.macroblock_update (fun _ => rfl))
  · exact Act.macroblock_bind (mbP_macroblock k) (fun _ => Act.macroblock_update (fun _ => rfl))
  · exact mbB_macroblock k

/-- What `DECODE_MB` can write. -/
theorem decodeMbCaught_macroblock (k : Nat) : Act.Rel State.SameButMacroblock (decodeMbCaught k) := fun s => by
  have h := decodeMb_macroblock k s
  unfold decodeMbCaught
  cases hs : decodeMb k s with
  | ok a t =>
    rw [hs] at h
    exact h
  | error e t =>
    rw [hs] at h
    dsimp only
    split
    · exact State.SameButMacroblock.trans _ _ _ h (set_fail_macroblock _ _)
    · exact State.SameButMacroblock.trans _ _ _ h (State.SameButMacroblock.trans _ _ _ (set_fail_macroblock _ _) (degrade_macroblock _ k))
/-- What `DECODE_MB k` answers. -/
theorem exec_decodeMb (k : Nat) (s : State) (ho : s.opened = true) (hk : k < s.mbCount) :
    exec (.decodeMb k) s = match decodeMbCaught k { s with mbk := k } with
      | .ok _ u => .next (u.finish .none)
      | .error e u => .next (u.raise e) := by
  show runOnMacroblock k _ s = _
  rw [runOnMacroblock, if_pos ho, if_pos hk, bind_apply_ok _ _ _ _ _ (update_apply _ s)]
  cases hc : decodeMbCaught k { s with mbk := k } with
  | ok a u => rw [bind_apply_ok _ _ _ _ _ hc]; rfl
  | error e u => rw [bind_apply_error _ _ _ _ _ hc]; rfl

end Sys2Proof.Machine
end

