-- ==== Sys2Proof/Laws/Reorder.lean ====
section
/-! SUPPORT. The reorder buffer: what taking the first slot and evicting do. -/

namespace Sys2Proof.Machine

theorem TakenBefore.trans {a b d : RobSlot} (h : TakenBefore a b) (g : TakenBefore b d) : TakenBefore a d := by
  unfold TakenBefore at *
  omega

theorem TakenBefore.of_not {a b : RobSlot} (h : ¬TakenBefore a b) : TakenBefore b a := by
  unfold TakenBefore at *
  omega

/-- The test on slots is the order of R390. -/
theorem slotBefore_iff (a b : RobSlot) : slotBefore a b = true ↔ TakenBefore a b := by
  unfold slotBefore TakenBefore
  simp

/-- From a buffer that is not empty the first slot is taken, and nothing is lost. -/
theorem takeFirst_spec (l : List RobSlot) (hne : l ≠ []) :
    ∃ a o, takeFirst l = some (a, o) ∧ (a :: o).Perm l ∧ ∀ b ∈ o, TakenBefore a b := by
  induction l with
  | nil => exact absurd rfl hne
  | cons x rest ih =>
    unfold takeFirst
    by_cases hr : rest = []
    · subst hr
      exact ⟨x, [], rfl, List.Perm.refl _, by simp⟩
    · obtain ⟨b, o, h1, h2, h3⟩ := ih hr
      rw [h1]
      dsimp only
      by_cases hs : slotBefore x b = true
      · rw [if_pos hs]
        refine ⟨x, rest, rfl, List.Perm.refl _, fun y hy => ?_⟩
        have hxb := (slotBefore_iff x b).1 hs
        rcases List.mem_cons.1 (h2.symm.subset hy) with rfl | hyo
        · exact hxb
        · exact hxb.trans (h3 y hyo)
      · rw [if_neg hs]
        refine ⟨b, x :: o, rfl, (List.Perm.swap x b o).trans (List.Perm.cons x h2), fun y hy => ?_⟩
        rcases List.mem_cons.1 hy with rfl | hyo
        · exact TakenBefore.of_not (fun h => hs ((slotBefore_iff _ _).2 h))
        · exact h3 y hyo

/-- Evicting loses no frame. -/
theorem evict_lengths (depth n : Nat) (l : List RobSlot) (q : List Frame) :
    (evict depth n l q).1.length + (evict depth n l q).2.length = l.length + q.length := by
  induction n generalizing l q with
  | zero => rfl
  | succ n ih =>
    unfold evict
    split
    · rfl
    · by_cases hl : l = []
      · subst hl
        rfl
      · obtain ⟨a, o, h1, h2, -⟩ := takeFirst_spec l hl
        rw [h1]
        dsimp only
        rw [ih]
        have := h2.length_eq
        simp only [List.length_cons, List.length_append, List.length_nil] at *
        omega

/-- Evicting leaves at most `depth` slots. -/
theorem evict_bounded (depth n : Nat) (l : List RobSlot) (q : List Frame) (h : l.length ≤ n + depth) :
    (evict depth n l q).1.length ≤ depth := by
  induction n generalizing l q with
  | zero =>
    simp only [evict]
    omega
  | succ n ih =>
    unfold evict
    split
    · assumption
    · have hl : l ≠ [] := by
        rintro rfl
        simp at *
      obtain ⟨a, o, h1, h2, -⟩ := takeFirst_spec l hl
      rw [h1]
      have := h2.length_eq
      simp only [List.length_cons] at this
      exact ih _ _ (by omega)

/-- A frame that evicting leaves or outputs was in the buffer or in the queue. -/
theorem evict_mem (depth n : Nat) (l : List RobSlot) (q : List Frame) :
    (∀ r ∈ (evict depth n l q).1, r ∈ l) ∧ ∀ f ∈ (evict depth n l q).2, f ∈ q ∨ ∃ r ∈ l, r.frame = f := by
  induction n generalizing l q with
  | zero => exact ⟨fun r h => h, fun f h => .inl h⟩
  | succ n ih =>
    unfold evict
    split
    · exact ⟨fun r h => h, fun f h => .inl h⟩
    · by_cases hl : l = []
      · subst hl
        exact ⟨fun r h => h, fun f h => .inl h⟩
      · obtain ⟨a, o, h1, h2, -⟩ := takeFirst_spec l hl
        rw [h1]
        obtain ⟨g1, g2⟩ := ih o (q ++ [a.frame])
        refine ⟨fun r h => h2.subset (List.mem_cons_of_mem _ (g1 r h)), fun f h => ?_⟩
        rcases g2 f h with h | ⟨r, hr, rfl⟩
        · rcases List.mem_append.1 h with h | h
          · exact .inl h
          · exact .inr ⟨a, h2.subset (List.mem_cons_self ..), (List.mem_singleton.1 h).symm⟩
        · exact .inr ⟨r, h2.subset (List.mem_cons_of_mem _ hr), rfl⟩

/-- Evicting only adds to the end of the queue. -/
theorem evict_queue (depth n : Nat) (l : List RobSlot) (q : List Frame) : q <+: (evict depth n l q).2 := by
  induction n generalizing l q with
  | zero => exact List.prefix_refl q
  | succ n ih =>
    unfold evict
    split
    · exact List.prefix_refl q
    · split
      · exact List.prefix_refl q
      · exact (List.prefix_append q _).trans (ih _ _)

end Sys2Proof.Machine
end

