-- ==== Sys2Proof/Tests/Slice0.lean ====
section
/-! SUPPORT. Tests. The words are those of spec/30_encoding.md to spec/42_vlc_coefficients.md, the values those of
spec/95_test_vectors.md (the row is named). A theorem `test_w_…` meets the hypotheses of a statement. -/

namespace Sys2Proof.Tests

open Sys2Proof Sys2Proof.Machine

/-! ## Helpers -/

/-- An opened instance of one macroblock with a VOL. -/
def opened : State :=
  ({ State.reset with opened := true, vol := { volReset with valid := true, width := 16, height := 16 } } : State).remake

/-- A state with a window. -/
def window (data : List Byte) (s : State) : State := { s with bs := Memory.ofBytes 0 data, bslen := data.length }

/-- The state after an instruction that answers a next state. -/
def after (i : Instr) (s : State) : State :=
  match exec i s with
  | .next t => t
  | .fault _ => s
  | .refused _ => s

/-- Each word, of the given number of bits, decodes whole to its instruction. -/
def decodes (t : Table) (l : List (Nat × Nat × Instr)) : Bool :=
  l.all (fun p => decide (decode t (toBits p.1 p.2.1) = .ok p.2.2 p.1))

/-- A word is rejected after so many bits. -/
def rejects (t : Table) (n w used : Nat) : Bool :=
  match decode t (toBits n w) with
  | .ok _ _ => false
  | .reject _ u => u == used

/-! ## Decoding -/

/-- Codewords of `mcbpcI` as the opcode table writes them (R100). -/
theorem test_decode_mcbpcI : decodes .mcbpcI [
    (1, 0b1, .mcbpcI_3_0), (3, 0b001, .mcbpcI_3_1), (3, 0b010, .mcbpcI_3_2), (3, 0b011, .mcbpcI_3_3),
    (4, 0b0001, .mcbpcI_4_0), (6, 0b000001, .mcbpcI_4_1), (6, 0b000010, .mcbpcI_4_2),
    (6, 0b000011, .mcbpcI_4_3), (9, 0b000000001, .mcbpcI_stuff)] = true := by decide

/-- Codewords of `mcbpcP` as the opcode table writes them (R100). -/
theorem test_decode_mcbpcP : decodes .mcbpcP [
    (1, 0b1, .mcbpcP_0_0), (4, 0b0011, .mcbpcP_0_1), (4, 0b0010, .mcbpcP_0_2), (6, 0b000101, .mcbpcP_0_3),
    (3, 0b011, .mcbpcP_1_0), (7, 0b0000111, .mcbpcP_1_1), (7, 0b0000110, .mcbpcP_1_2),
    (9, 0b000000101, .mcbpcP_1_3), (3, 0b010, .mcbpcP_2_0), (7, 0b0000101, .mcbpcP_2_1),
    (7, 0b0000100, .mcbpcP_2_2), (8, 0b00000101, .mcbpcP_2_3), (5, 0b00011, .mcbpcP_3_0),
    (8, 0b00000100, .mcbpcP_3_1), (8, 0b00000011, .mcbpcP_3_2), (7, 0b0000011, .mcbpcP_3_3),
    (6, 0b000100, .mcbpcP_4_0), (9, 0b000000100, .mcbpcP_4_1), (9, 0b000000011, .mcbpcP_4_2),
    (9, 0b000000010, .mcbpcP_4_3), (9, 0b000000001, .mcbpcP_stuff)] = true := by decide

/-- Codewords of `cbpy` as the opcode table writes them (R100). -/
theorem test_decode_cbpy : decodes .cbpy [
    (4, 0b0011, .cbpy_0), (5, 0b00101, .cbpy_1), (5, 0b00100, .cbpy_2), (4, 0b1001, .cbpy_3),
    (5, 0b00011, .cbpy_4), (4, 0b0111, .cbpy_5), (6, 0b000010, .cbpy_6), (4, 0b1011, .cbpy_7),
    (5, 0b00010, .cbpy_8), (6, 0b000011, .cbpy_9), (4, 0b0101, .cbpy_10), (4, 0b1010, .cbpy_11),
    (4, 0b0100, .cbpy_12), (4, 0b1000, .cbpy_13), (4, 0b0110, .cbpy_14), (2, 0b11, .cbpy_15)] = true := by decide

/-- Codewords of `mvd` as the opcode table writes them (R100). -/
theorem test_decode_mvd : decodes (.mvd 1) [
    (1, 0b1, .mvd_0), (3, 0b011, .mvd_1 1 true 0), (4, 0b0011, .mvd_2 1 true 0), (5, 0b00011, .mvd_3 1 true 0),
    (7, 0b0000111, .mvd_4 1 true 0), (8, 0b00001011, .mvd_5 1 true 0), (8, 0b00001001, .mvd_6 1 true 0),
    (8, 0b00000111, .mvd_7 1 true 0), (10, 0b0000010111, .mvd_8 1 true 0), (10, 0b0000010101, .mvd_9 1 true 0),
    (10, 0b0000010011, .mvd_10 1 true 0), (11, 0b00000100011, .mvd_11 1 true 0),
    (11, 0b00000100001, .mvd_12 1 true 0), (11, 0b00000011111, .mvd_13 1 true 0),
    (11, 0b00000011101, .mvd_14 1 true 0), (11, 0b00000011011, .mvd_15 1 true 0),
    (11, 0b00000011001, .mvd_16 1 true 0), (11, 0b00000010111, .mvd_17 1 true 0),
    (11, 0b00000010101, .mvd_18 1 true 0), (11, 0b00000010011, .mvd_19 1 true 0),
    (11, 0b00000010001, .mvd_20 1 true 0), (11, 0b00000001111, .mvd_21 1 true 0),
    (11, 0b00000001101, .mvd_22 1 true 0), (11, 0b00000001011, .mvd_23 1 true 0),
    (11, 0b00000001001, .mvd_24 1 true 0), (12, 0b000000001111, .mvd_25 1 true 0),
    (12, 0b000000001101, .mvd_26 1 true 0), (12, 0b000000001011, .mvd_27 1 true 0),
    (12, 0b000000001001, .mvd_28 1 true 0), (12, 0b000000000111, .mvd_29 1 true 0),
    (12, 0b000000000101, .mvd_30 1 true 0), (13, 0b0000000000111, .mvd_31 1 true 0),
    (13, 0b0000000000101, .mvd_32 1 true 0)] = true := by decide

/-- Codewords of `dcszL` as the opcode table writes them (R100). -/
theorem test_decode_dcszL : decodes .dcszL [
    (3, 0b011, .dcszL_0), (3, 0b111, .dcszL_1 1#1), (4, 0b1010, .dcszL_2 2#2), (6, 0b010101, .dcszL_3 5#3),
    (7, 0b0011010, .dcszL_4 10#4), (9, 0b000110101, .dcszL_5 21#5), (11, 0b00001101010, .dcszL_6 42#6),
    (13, 0b0000011010101, .dcszL_7 85#7), (15, 0b000000110101010, .dcszL_8 170#8),
    (18, 0b000000011010101011, .dcszL_9 341#9 true), (20, 0b00000000110101010101, .dcszL_10 682#10 true),
    (22, 0b0000000001101010101011, .dcszL_11 1365#11 true),
    (24, 0b000000000011010101010101, .dcszL_12 2730#12 true)] = true := by decide

/-- Codewords of `dcszC` as the opcode table writes them (R100). -/
theorem test_decode_dcszC : decodes .dcszC [
    (2, 0b11, .dcszC_0), (3, 0b101, .dcszC_1 1#1), (4, 0b0110, .dcszC_2 2#2), (6, 0b001101, .dcszC_3 5#3),
    (8, 0b00011010, .dcszC_4 10#4), (10, 0b0000110101, .dcszC_5 21#5), (12, 0b000001101010, .dcszC_6 42#6),
    (14, 0b00000011010101, .dcszC_7 85#7), (16, 0b0000000110101010, .dcszC_8 170#8),
    (19, 0b0000000011010101011, .dcszC_9 341#9 true), (21, 0b000000000110101010101, .dcszC_10 682#10 true),
    (23, 0b00000000001101010101011, .dcszC_11 1365#11 true),
    (25, 0b0000000000011010101010101, .dcszC_12 2730#12 true)] = true := by decide

/-- Codewords of `acIntra` as the opcode table writes them (R100). -/
theorem test_decode_acIntra_a : decodes .acIntra [
    (2, 0b10, .acIntra_0_0_1), (3, 0b110, .acIntra_0_0_2), (4, 0b1111, .acIntra_0_0_3),
    (5, 0b01101, .acIntra_0_0_4), (5, 0b01100, .acIntra_0_0_5), (6, 0b010101, .acIntra_0_0_6),
    (6, 0b010011, .acIntra_0_0_7), (6, 0b010010, .acIntra_0_0_8), (7, 0b0010111, .acIntra_0_0_9),
    (8, 0b00011111, .acIntra_0_0_10), (8, 0b00011110, .acIntra_0_0_11), (8, 0b00011101, .acIntra_0_0_12),
    (9, 0b000100101, .acIntra_0_0_13), (9, 0b000100100, .acIntra_0_0_14), (9, 0b000100011, .acIntra_0_0_15),
    (9, 0b000100001, .acIntra_0_0_16), (10, 0b0000100001, .acIntra_0_0_17),
    (10, 0b0000100000, .acIntra_0_0_18), (10, 0b0000001111, .acIntra_0_0_19),
    (10, 0b0000001110, .acIntra_0_0_20), (11, 0b00000000111, .acIntra_0_0_21),
    (11, 0b00000000110, .acIntra_0_0_22), (11, 0b00000100000, .acIntra_0_0_23),
    (11, 0b00000100001, .acIntra_0_0_24), (12, 0b000001010000, .acIntra_0_0_25),
    (12, 0b000001010001, .acIntra_0_0_26), (12, 0b000001010010, .acIntra_0_0_27), (4, 0b1110, .acIntra_0_1_1),
    (6, 0b010100, .acIntra_0_1_2), (7, 0b0010110, .acIntra_0_1_3), (8, 0b00011100, .acIntra_0_1_4),
    (9, 0b000100000, .acIntra_0_1_5), (9, 0b000011111, .acIntra_0_1_6), (10, 0b0000001101, .acIntra_0_1_7),
    (11, 0b00000100010, .acIntra_0_1_8)] = true := by decide

/-- Codewords of `acIntra` as the opcode table writes them (R100). -/
theorem test_decode_acIntra_b : decodes .acIntra [
    (12, 0b000001010011, .acIntra_0_1_9), (12, 0b000001010101, .acIntra_0_1_10), (5, 0b01011, .acIntra_0_2_1),
    (7, 0b0010101, .acIntra_0_2_2), (9, 0b000011110, .acIntra_0_2_3), (10, 0b0000001100, .acIntra_0_2_4),
    (12, 0b000001010110, .acIntra_0_2_5), (6, 0b010001, .acIntra_0_3_1), (8, 0b00011011, .acIntra_0_3_2),
    (9, 0b000011101, .acIntra_0_3_3), (10, 0b0000001011, .acIntra_0_3_4), (6, 0b010000, .acIntra_0_4_1),
    (9, 0b000100010, .acIntra_0_4_2), (10, 0b0000001010, .acIntra_0_4_3), (6, 0b001101, .acIntra_0_5_1),
    (9, 0b000011100, .acIntra_0_5_2), (10, 0b0000001000, .acIntra_0_5_3), (7, 0b0010010, .acIntra_0_6_1),
    (9, 0b000011011, .acIntra_0_6_2), (12, 0b000001010100, .acIntra_0_6_3), (7, 0b0010100, .acIntra_0_7_1),
    (9, 0b000011010, .acIntra_0_7_2), (12, 0b000001010111, .acIntra_0_7_3), (8, 0b00011001, .acIntra_0_8_1),
    (10, 0b0000001001, .acIntra_0_8_2), (8, 0b00011000, .acIntra_0_9_1), (11, 0b00000100011, .acIntra_0_9_2),
    (8, 0b00010111, .acIntra_0_10_1), (9, 0b000011001, .acIntra_0_11_1), (9, 0b000011000, .acIntra_0_12_1),
    (10, 0b0000000111, .acIntra_0_13_1), (12, 0b000001011000, .acIntra_0_14_1), (4, 0b0111, .acIntra_1_0_1),
    (6, 0b001100, .acIntra_1_0_2), (8, 0b00010110, .acIntra_1_0_3)] = true := by decide

/-- Codewords of `acIntra` as the opcode table writes them (R100). -/
theorem test_decode_acIntra_c : decodes .acIntra [
    (9, 0b000010111, .acIntra_1_0_4), (10, 0b0000000110, .acIntra_1_0_5), (11, 0b00000000101, .acIntra_1_0_6),
    (11, 0b00000000100, .acIntra_1_0_7), (12, 0b000001011001, .acIntra_1_0_8), (6, 0b001111, .acIntra_1_1_1),
    (9, 0b000010110, .acIntra_1_1_2), (10, 0b0000000101, .acIntra_1_1_3), (6, 0b001110, .acIntra_1_2_1),
    (10, 0b0000000100, .acIntra_1_2_2), (7, 0b0010001, .acIntra_1_3_1), (11, 0b00000100100, .acIntra_1_3_2),
    (7, 0b0010000, .acIntra_1_4_1), (11, 0b00000100101, .acIntra_1_4_2), (7, 0b0010011, .acIntra_1_5_1),
    (12, 0b000001011010, .acIntra_1_5_2), (8, 0b00010101, .acIntra_1_6_1),
    (12, 0b000001011011, .acIntra_1_6_2), (8, 0b00010100, .acIntra_1_7_1), (8, 0b00010011, .acIntra_1_8_1),
    (8, 0b00011010, .acIntra_1_9_1), (9, 0b000010101, .acIntra_1_10_1), (9, 0b000010100, .acIntra_1_11_1),
    (9, 0b000010011, .acIntra_1_12_1), (9, 0b000010010, .acIntra_1_13_1), (9, 0b000010001, .acIntra_1_14_1),
    (11, 0b00000100110, .acIntra_1_15_1), (11, 0b00000100111, .acIntra_1_16_1),
    (12, 0b000001011100, .acIntra_1_17_1), (12, 0b000001011101, .acIntra_1_18_1),
    (12, 0b000001011110, .acIntra_1_19_1), (12, 0b000001011111, .acIntra_1_20_1),
    (11, 0b00000110101, .acIntra_esc1 0 true), (12, 0b000001110101, .acIntra_esc2 0 true),
    (30, 0b000001111100010111111111111011, .acIntra_esc3 true 5#6 true 4093#12 true)] = true := by decide

/-- Codewords of `acInter` as the opcode table writes them (R100). -/
theorem test_decode_acInter_a : decodes .acInter [
    (2, 0b10, .acInter_0_0_1), (4, 0b1111, .acInter_0_0_2), (6, 0b010101, .acInter_0_0_3),
    (7, 0b0010111, .acInter_0_0_4), (8, 0b00011111, .acInter_0_0_5), (9, 0b000100101, .acInter_0_0_6),
    (9, 0b000100100, .acInter_0_0_7), (10, 0b0000100001, .acInter_0_0_8), (10, 0b0000100000, .acInter_0_0_9),
    (11, 0b00000000111, .acInter_0_0_10), (11, 0b00000000110, .acInter_0_0_11),
    (11, 0b00000100000, .acInter_0_0_12), (3, 0b110, .acInter_0_1_1), (6, 0b010100, .acInter_0_1_2),
    (8, 0b00011110, .acInter_0_1_3), (10, 0b0000001111, .acInter_0_1_4), (11, 0b00000100001, .acInter_0_1_5),
    (12, 0b000001010000, .acInter_0_1_6), (4, 0b1110, .acInter_0_2_1), (8, 0b00011101, .acInter_0_2_2),
    (10, 0b0000001110, .acInter_0_2_3), (12, 0b000001010001, .acInter_0_2_4), (5, 0b01101, .acInter_0_3_1),
    (9, 0b000100011, .acInter_0_3_2), (10, 0b0000001101, .acInter_0_3_3), (5, 0b01100, .acInter_0_4_1),
    (9, 0b000100010, .acInter_0_4_2), (12, 0b000001010010, .acInter_0_4_3), (5, 0b01011, .acInter_0_5_1),
    (10, 0b0000001100, .acInter_0_5_2), (12, 0b000001010011, .acInter_0_5_3), (6, 0b010011, .acInter_0_6_1),
    (10, 0b0000001011, .acInter_0_6_2), (12, 0b000001010100, .acInter_0_6_3), (6, 0b010010, .acInter_0_7_1)] = true := by decide

/-- Codewords of `acInter` as the opcode table writes them (R100). -/
theorem test_decode_acInter_b : decodes .acInter [
    (10, 0b0000001010, .acInter_0_7_2), (6, 0b010001, .acInter_0_8_1), (10, 0b0000001001, .acInter_0_8_2),
    (6, 0b010000, .acInter_0_9_1), (10, 0b0000001000, .acInter_0_9_2), (7, 0b0010110, .acInter_0_10_1),
    (12, 0b000001010101, .acInter_0_10_2), (7, 0b0010101, .acInter_0_11_1), (7, 0b0010100, .acInter_0_12_1),
    (8, 0b00011100, .acInter_0_13_1), (8, 0b00011011, .acInter_0_14_1), (9, 0b000100001, .acInter_0_15_1),
    (9, 0b000100000, .acInter_0_16_1), (9, 0b000011111, .acInter_0_17_1), (9, 0b000011110, .acInter_0_18_1),
    (9, 0b000011101, .acInter_0_19_1), (9, 0b000011100, .acInter_0_20_1), (9, 0b000011011, .acInter_0_21_1),
    (9, 0b000011010, .acInter_0_22_1), (11, 0b00000100010, .acInter_0_23_1),
    (11, 0b00000100011, .acInter_0_24_1), (12, 0b000001010110, .acInter_0_25_1),
    (12, 0b000001010111, .acInter_0_26_1), (4, 0b0111, .acInter_1_0_1), (9, 0b000011001, .acInter_1_0_2),
    (11, 0b00000000101, .acInter_1_0_3), (6, 0b001111, .acInter_1_1_1), (11, 0b00000000100, .acInter_1_1_2),
    (6, 0b001110, .acInter_1_2_1), (6, 0b001101, .acInter_1_3_1), (6, 0b001100, .acInter_1_4_1),
    (7, 0b0010011, .acInter_1_5_1), (7, 0b0010010, .acInter_1_6_1), (7, 0b0010001, .acInter_1_7_1),
    (7, 0b0010000, .acInter_1_8_1)] = true := by decide

/-- Codewords of `acInter` as the opcode table writes them (R100). -/
theorem test_decode_acInter_c : decodes .acInter [
    (8, 0b00011010, .acInter_1_9_1), (8, 0b00011001, .acInter_1_10_1), (8, 0b00011000, .acInter_1_11_1),
    (8, 0b00010111, .acInter_1_12_1), (8, 0b00010110, .acInter_1_13_1), (8, 0b00010101, .acInter_1_14_1),
    (8, 0b00010100, .acInter_1_15_1), (8, 0b00010011, .acInter_1_16_1), (9, 0b000011000, .acInter_1_17_1),
    (9, 0b000010111, .acInter_1_18_1), (9, 0b000010110, .acInter_1_19_1), (9, 0b000010101, .acInter_1_20_1),
    (9, 0b000010100, .acInter_1_21_1), (9, 0b000010011, .acInter_1_22_1), (9, 0b000010010, .acInter_1_23_1),
    (9, 0b000010001, .acInter_1_24_1), (10, 0b0000000111, .acInter_1_25_1),
    (10, 0b0000000110, .acInter_1_26_1), (10, 0b0000000101, .acInter_1_27_1),
    (10, 0b0000000100, .acInter_1_28_1), (11, 0b00000100100, .acInter_1_29_1),
    (11, 0b00000100101, .acInter_1_30_1), (11, 0b00000100110, .acInter_1_31_1),
    (11, 0b00000100111, .acInter_1_32_1), (12, 0b000001011000, .acInter_1_33_1),
    (12, 0b000001011001, .acInter_1_34_1), (12, 0b000001011010, .acInter_1_35_1),
    (12, 0b000001011011, .acInter_1_36_1), (12, 0b000001011100, .acInter_1_37_1),
    (12, 0b000001011101, .acInter_1_38_1), (12, 0b000001011110, .acInter_1_39_1),
    (12, 0b000001011111, .acInter_1_40_1), (11, 0b00000110101, .acInter_esc1 0 true),
    (12, 0b000001110101, .acInter_esc2 0 true),
    (30, 0b000001111100010111111111111011, .acInter_esc3 true 5#6 true 4093#12 true)] = true := by decide

/-- Codewords of `modb` as the opcode table writes them (R100). -/
theorem test_decode_modb : decodes .modb [
    (1, 0b1, .modb_1), (2, 0b01, .modb_01), (2, 0b00, .modb_00)] = true := by decide

/-- Codewords of `bmbtype` as the opcode table writes them (R100). -/
theorem test_decode_bmbtype : decodes .bmbtype [
    (1, 0b1, .bmbtype_direct), (2, 0b01, .bmbtype_interpolate), (3, 0b001, .bmbtype_backward),
    (4, 0b0001, .bmbtype_forward)] = true := by decide

/-- Codewords of `dbquant` as the opcode table writes them (R100). -/
theorem test_decode_dbquant : decodes .dbquant [
    (1, 0b0, .dbquant_0), (2, 0b10, .dbquant_minus2), (2, 0b11, .dbquant_plus2)] = true := by decide

/-- Codewords of `notCoded` as the opcode table writes them (R100). -/
theorem test_decode_notCoded : decodes .notCoded [
    (1, 0b1, .notCoded true), (1, 0b0, .notCoded false)] = true := by decide

/-- Codewords of `acPred` as the opcode table writes them (R100). -/
theorem test_decode_acPred : decodes .acPred [
    (1, 0b1, .acPred true), (1, 0b0, .acPred false)] = true := by decide

/-- Codewords of `mcsel` as the opcode table writes them (R100). -/
theorem test_decode_mcsel : decodes .mcsel [
    (1, 0b1, .mcsel true), (1, 0b0, .mcsel false)] = true := by decide

/-- Codewords of `dquant` as the opcode table writes them (R100). -/
theorem test_decode_dquant : decodes .dquant [
    (2, 0b00, .dquant_00), (2, 0b01, .dquant_01), (2, 0b10, .dquant_10), (2, 0b11, .dquant_11)] = true := by decide

/-- Codewords of `cbpb` as the opcode table writes them (R100). -/
theorem test_decode_cbpb : decodes .cbpb [
    (6, 0b100110, .cbpb 38#6)] = true := by decide

/-- Codewords of `traj` as the opcode table writes them (R100). -/
theorem test_decode_traj : decodes .traj [
    (1, 0b1, .traj_0), (3, 0b011, .traj_1 1#1), (5, 0b00110, .traj_2 2#2), (7, 0b0001101, .traj_3 5#3),
    (9, 0b000011010, .traj_4 10#4), (11, 0b00000110101, .traj_5 21#5), (13, 0b0000001101010, .traj_6 42#6),
    (15, 0b000000011010101, .traj_7 85#7), (17, 0b00000000110101010, .traj_8 170#8),
    (19, 0b0000000001101010101, .traj_9 341#9), (21, 0b000000000011010101010, .traj_10 682#10),
    (23, 0b00000000000110101010101, .traj_11 1365#11), (25, 0b0000000000001101010101010, .traj_12 2730#12)] = true := by decide

/-- Codewords of `sc` as the opcode table writes them (R100). -/
theorem test_decode_sc : decodes .sc [
    (32, 0b00000000000000000000000110110110, .sc 0xB6#8)] = true := by decide

/-- V26, V33: f_code 2 and 7. -/
theorem test_decode_mvd_residual :
    decodes (.mvd 2) [(4, 0b0101, .mvd_1 2 false 1)] = true
    ∧ decodes (.mvd 7) [(19, 0b0000000000101111111, .mvd_32 7 true 63)] = true := by decide

/-- R115: the whole byte `7F`, 16 zeros, a one. -/
theorem test_decode_resync : decodes .resync [(25, 0b0111111100000000000000001, .resync 7 0)] = true := by decide

/-- V61, V62: the same codeword in the two AC tables. -/
theorem test_decode_ac_same_word :
    decodes .acInter [(12, 0b000001011111, .acInter_1_40_1)] = true
    ∧ decodes .acIntra [(12, 0b000001011111, .acIntra_1_20_1)] = true := by decide

/-- V74 to V78: what is rejected, and after how many bits. -/
theorem test_reject_ac :
    rejects .acInter 16 0b0000011000000110 15 = true ∧ rejects .acInter 16 0b0000011100000011 16 = true
    ∧ rejects .acInter 14 0b00000111100000 10 = true ∧ rejects .acInter 8 0 0 = true
    ∧ rejects .acInter 8 0b00000100 0 = true := by decide

/-- V20, V154, V155, R200, R201, R120: patterns that start no codeword. -/
theorem test_reject_others :
    rejects .bmbtype 4 0 0 = true ∧ rejects .traj 14 1 13 = true ∧ rejects .traj 4 0 4 = true ∧ rejects .dcszL 11 0 0 = true
    ∧ rejects .dcszC 12 0 0 = true ∧ rejects .mcbpcP 9 0 0 = true ∧ rejects .cbpy 6 0 0 = true := by decide

/-- R130: a start code the window cuts off takes no bit. -/
theorem test_reject_cut_start_code : rejects .sc 24 1 0 = true ∧ rejects .sc 31 0xDB 0 = true ∧ rejects .sc 32 0x2B6 0 = true := by decide

/-- The host's probe reads a word as the opcode table writes it, bit 31 first. -/
theorem test_table_word : decodeTableWord 32 0x80000000 = some .acInter_0_0_1 := by decide

/-- A fetched word runs: `AC_INTER 0,0,2` with sign bit 0. -/
theorem test_fetch_word :
    (match step (State.reset.withFetchWord 32 0xF0000000) with
     | .next t => decide (t.ev = ⟨false, 0, 2⟩) && decide (t.bp = 5)
     | .fault _ => false
     | .refused _ => false) = true := by decide

/-! ## Well-formedness -/

/-- A VOL header that is in order. -/
def volOk : VolHeader :=
  { timeIncRes := 30, quantType := .h263, interlaced := false, quarterpel := false, spriteEnable := .none, warpPoints := 0
    warpAccuracy := 0, resyncMarkerDisable := true, dataPartitioned := false, shape := 0, notEightBit := false
    size := none, intraMatrix := none, interMatrix := none }

/-- OPEN parameters for one macroblock, without a VOL. -/
def paramsOk : CodecParameters := ⟨0, [], 16, 16, 0, ⟨25, 1⟩, ⟨1, 1⟩, none⟩

theorem test_wf_mvd_fcode_zero : (Instr.mvd_1 0 false 0).wf = false := by decide
theorem test_wf_mvd_fcode_eight : (Instr.mvd_1 8 false 0).wf = false := by decide
theorem test_wf_mvd_residual : (Instr.mvd_1 2 false 2).wf = false := by decide
theorem test_wf_dcval : (Instr.dcval 3 8).wf = false := by decide
theorem test_wf_vol_resolution : (Instr.loadVol { volOk with timeIncRes := 65536 }).wf = false := by decide
theorem test_wf_vol_warp_points : (Instr.loadVol { volOk with warpPoints := 8 }).wf = false := by decide
theorem test_wf_vol_warp_accuracy : (Instr.loadVol { volOk with warpAccuracy := 4 }).wf = false := by decide
theorem test_wf_vol_shape : (Instr.loadVol { volOk with shape := 4 }).wf = false := by decide
theorem test_wf_vol_size : (Instr.loadVol { volOk with size := some (16, 65536) }).wf = false := by decide
theorem test_wf_vol_matrix : (Instr.loadVol { volOk with intraMatrix := some (Vector.replicate 64 256) }).wf = false := by decide
theorem test_wf_vop_quant : (Instr.loadVop { vopReset with quant := 32 }).wf = false := by decide
theorem test_wf_vop_fcode : (Instr.loadVop { vopReset with fcodeFwd := 8 }).wf = false := by decide
theorem test_wf_vop_threshold : (Instr.loadVop { vopReset with intraDcVlcThr := 8 }).wf = false := by decide
theorem test_wf_vop_trd : (Instr.loadVop { vopReset with trd := 2147483648 }).wf = false := by decide
theorem test_wf_vop_poc : (Instr.loadVop { vopReset with poc := -9223372036854775809 }).wf = false := by decide
theorem test_wf_open_width : (Instr.openInst { paramsOk with width := 65536 }).wf = false := by decide
theorem test_wf_packet_header :
    (Instr.sendPacket ⟨[], 0, 0, 0, ⟨0, 1⟩, false⟩ ⟨none, [some ⟨{ vopReset with quant := 32 }, none⟩]⟩).wf = false := by decide
theorem test_wf_accepts : (Instr.loadVol volOk).wf = true ∧ (Instr.openInst paramsOk).wf = true := by decide

/-! ## Bit reader -/

theorem test_readBits_V1 :
    let s := window [0xA5#8, 0x3C#8] opened
    (after (.readBits 4) s).result = .bits (some 10) ∧ (after (.readBits 8) { s with bp := 4 }).result = .bits (some 0x53)
    ∧ (after (.readBits 5) { s with bp := 12 }).result = .bits none := by decide
theorem test_readBits_V4 :
    (after (.readBits 32) { window [0xFF#8, 0xFF#8, 0xFF#8, 0xFF#8, 0x80#8] opened with bp := 1 }).result
      = .bits (some 0xFFFFFFFF) := by decide
theorem test_peekBits_skipBits_V3 :
    let s := { window [0xA5#8, 0x3C#8] opened with bp := 4 }
    (after (.peekBits 8) s).result = .bits (some 0x53) ∧ (after (.peekBits 13) s).result = .bits none
    ∧ (after (.skipBits 12) s).bp = 16 ∧ (after (.skipBits 13) s).result = .done false := by decide
theorem test_byteAligned_V2 :
    (after .byteAligned { opened with bp := 16 }).result = .flag true
    ∧ (after .byteAligned { opened with bp := 4 }).result = .flag false := by decide
theorem test_findStartCode_V10 :
    (after (.findStartCode [0x12#8, 0#8, 0#8, 1#8, 0xB6#8, 0x40#8] 0xB6#8) opened).result = .offset (some 5)
    ∧ (after (.findStartCode [0x12#8, 0#8, 0#8, 1#8, 0xB6#8, 0x40#8] 0xB5#8) opened).result = .offset none := by decide
theorem test_findStartCodeRange_V11 :
    (after (.findStartCodeRange [0#8, 0#8, 1#8, 0x25#8, 0x88#8] 0x20#8 0x2F#8) opened).result
      = .offsetCode (some (4, 0x25#8))
    ∧ (after (.findStartCodeRange [0#8, 0#8, 1#8, 0x25#8, 0x88#8] 0x26#8 0x2F#8) opened).result = .offsetCode none := by decide
theorem test_resyncDetect_V5_V6 :
    (after (.resyncDetect 0 0) (window [0x7F#8, 0#8, 0#8, 0x80#8] opened)).result = .flag true
    ∧ (after (.resyncDetect 1 0) (window [0xBF#8, 0#8, 0#8, 0x80#8] opened)).result = .flag true := by decide
theorem test_resyncDetect_V7_V9 :
    (after (.resyncDetect 0 1) (window [0x7F#8, 0#8, 0#8, 0x80#8] opened)).result = .flag false
    ∧ (after (.resyncDetect 0 1) (window [0x7F#8, 0#8, 0#8, 0x40#8, 0#8] opened)).result = .flag true
    ∧ (after (.resyncDetect 0 0) (window [0x7F#8, 0#8, 0#8] opened)).result = .flag false := by decide

/-! ## Header codes -/

theorem test_quantizer_offsets_V15_V17 :
    let s := window [0#8, 0#8] { opened with qp := 5 }
    (after .dquant_00 s).qp = 4 ∧ (after .dquant_01 s).qp = 3 ∧ (after .dquant_10 s).qp = 6 ∧ (after .dquant_11 s).qp = 7
    ∧ (after .dbquant_0 s).qp = 5 ∧ (after .dbquant_minus2 s).qp = 3 ∧ (after .dbquant_plus2 s).qp = 7 := by decide
theorem test_quantizer_clamps_V16_V18 :
    (after .dquant_01 (window [0#8] { opened with qp := 2 })).qp = 1
    ∧ (after .dquant_11 (window [0#8] { opened with qp := 30 })).qp = 31
    ∧ (after .dquant_00 (window [0#8] { opened with qp := 1 })).qp = 1 := by decide
theorem test_mvd_V24_V32_V34 :
    (after (.mvd_32 1 false 0) (window [0#8, 0#8, 0#8] opened)).result = .int 32
    ∧ (after (.mvd_32 7 false 63) (window [0#8, 0#8, 0#8] opened)).result = .int 2048
    ∧ (after (.mvd_32 7 true 0) (window [0#8, 0#8, 0#8] opened)).result = .int (-1985) := by decide
theorem test_wrapMv_V36_V38 :
    wrapMv 32 1 = -32 ∧ wrapMv 35 1 = -29 ∧ wrapMv 64 1 = 0 ∧ wrapMv (-33) 1 = 31 ∧ wrapMv (-64) 1 = 0
    ∧ wrapMv 2048 7 = -2048 ∧ wrapMv (-2049) 7 = 2047 := by decide
/-- V42: the last column of the second row. -/
theorem test_mvPredictor_V42 :
    let info := fun (v : MV) => (⟨.inter, 4, Vector.replicate 4 v⟩ : MbInfo)
    let s := { opened with
      vol := { opened.vol with width := 32, height := 32 }
      mbi := [info ⟨9, 9⟩, info ⟨-2, 6⟩, info ⟨4, 2⟩, info ⟨0, 0⟩] }
    s.mvPredictor 3 0 = ⟨0, 2⟩ := by decide

/-! ## Coefficients -/

theorem test_dc_V49_V51 :
    (after (.dcszL_4 8#4) (window [0#8] opened)).result = .int 8
    ∧ (after (.dcszL_9 255#9 true) (window [0#8, 0#8, 0#8] opened)).result = .int (-256) := by decide
theorem test_dcval_V53_V57 :
    (after (.dcval 12 0) opened).result = .int (-4095) ∧ (after (.dcval 12 2048) opened).result = .int 2048 := by decide
theorem test_event_V59_V60 :
    (after .acIntra_0_0_27 (window [0#8, 0b00001000#8] opened)).ev = ⟨false, 0, -27⟩
    ∧ (after .acInter_0_0_12 (window [0#8, 0#8] opened)).ev = ⟨false, 0, 12⟩ := by decide
set_option maxRecDepth 4096 in
theorem test_escapes_V63_V66 :
    (after (.acIntra_esc1 0 false) (window [0#8, 0#8, 0#8, 0#8] opened)).ev = ⟨false, 0, 28⟩
    ∧ (after (.acIntra_esc2 0 false) (window [0#8, 0#8, 0#8, 0#8] opened)).ev = ⟨false, 15, 1⟩ := by decide
set_option maxRecDepth 4096 in
theorem test_escapes_V65_V68 :
    (after (.acInter_esc1 0 true) (window [0#8, 0#8, 0#8, 0#8] opened)).ev = ⟨false, 0, -13⟩
    ∧ (after (.acInter_esc2 0 false) (window [0#8, 0#8, 0#8, 0#8] opened)).ev = ⟨false, 27, 1⟩ := by decide
theorem test_esc3_V70_V72 :
    let s := window [0#8, 0#8, 0#8, 0#8] opened
    (after (.acInter_esc3 true 5#6 true 4093#12 true) s).ev = ⟨true, 5, -3⟩
    ∧ (after (.acInter_esc3 true 63#6 true 2047#12 true) s).ev = ⟨true, 63, 2047⟩ := by decide
/-- V79 and V80: the block loop from position 0 and from position 1. -/
theorem test_decodeAc_V79_V80 :
    (match decodeAc .inter 0 .zigzag (window [0b10011101#8, 0b01110000#8] opened) with
     | .ok _ t => decide (t.qf[0] = 1) && decide (t.qf[9] = 1) && decide (t.qf[16] = -1) && decide (t.bp = 13)
     | .error _ _ => false) = true
    ∧ (match decodeAc .inter 1 .zigzag (window [0b10011101#8, 0b01110000#8] opened) with
     | .ok _ t => decide (t.qf[1] = 1) && decide (t.qf[2] = 1) && decide (t.qf[9] = -1)
     | .error _ _ => false) = true := by decide

/-! ## Datapath -/

/-- A block with three levels. -/
def levels (a b c : Int) : State := { opened with qf := (((Vector.replicate 64 0).set 0 a).set 1 b).set 63 c }

theorem test_dequant_h263_V85_V87 :
    let t := after (.dequant true) { levels 0 1 3 with qp := 5 }
    let u := after (.dequant false) { levels 1 (-1) 3 with qp := 6 }
    (t.coef[1], t.coef[63]) = (10, 30) ∧ (u.coef[0], u.coef[1], u.coef[63]) = (17, -17, 41) := by decide
theorem test_dequant_mpeg_V93_V99 :
    let mpeg := fun (s : State) => { s with vol := { s.vol with quantType := .mpeg }, qp := 4 }
    (after (.dequant true) (mpeg (levels 0 (-3) 1))).coef[1] = -13
    ∧ (after (.dequant false) (mpeg (levels 2 0 (-1)))).coef[63] = -23
    ∧ (after (.dequant false) (mpeg (levels 0 0 0))).coef[63] = 1 := by decide
theorem test_mismatch_V98 : (after .mismatch { opened with coef := ((Vector.replicate 64 0).set 0 12).set 63 24 }).coef[63] = 25 := by
  decide
theorem test_idct_V113_V109 :
    (after .idct { opened with coef := (Vector.replicate 64 0).set 0 1070 }).residual[63] = 134
    ∧ (after .idct { opened with coef := (Vector.replicate 64 0).set 0 (-5) }).residual[9] = -1 := by decide
theorem test_idct_V118 :
    let f := (after .idct { opened with coef := (Vector.replicate 64 0).set 7 (-2048) }).residual
    (f[0], f[1], f[2], f[3], f[60]) = (-71, 201, -301, 355, -355) := by decide
theorem test_dcPredict_first_block :
    (after (.dcPredict 0) opened).result = .prediction .horizontal 1024 ⟨1024, Vector.replicate 7 0, Vector.replicate 7 0⟩ := by decide
/-- P1, block 2: the gradient picks the block above. -/
theorem test_dcPredict_P1 :
    (after (.dcPredict 2) { opened with pc := [⟨1070, Vector.replicate 7 0, Vector.replicate 7 0⟩] }).result
      = .prediction .vertical 1070 ⟨1070, Vector.replicate 7 0, Vector.replicate 7 0⟩ := by decide
theorem test_dcRecon_V128_V130 :
    let t := after (.dcRecon 0 5 1024) { opened with qp := 5 }
    let u := after (.dcRecon 0 (-4095) 1024) { opened with qp := 1 }
    (t.qf[0], t.coef[0]) = (107, 1070) ∧ (u.qf[0], u.coef[0]) = (-2048, -2048) := by decide
theorem test_dcRecon_V129 :
    let t := after (.dcRecon 4 300 1020) { opened with qp := 9 }
    (t.qf[0], t.coef[0]) = (393, 2047) := by decide
/-- V131: rescaling from quantizer 8 to 9, and the first column. -/
theorem test_acPredict_V131 :
    let n : Neighbour := ⟨⟨752, Vector.replicate 7 0, #v[3, -2, 0, 0, 0, 0, 0]⟩, 8⟩
    let t := ({ opened with qp := 9, mb := { mbReset with acPred := true }, qf := (Vector.replicate 64 0).set 8 (-40) } : State).acPredict
      .horizontal n
    (t.qf[8], t.qf[16], t.qf[1]) = (-37, -2, 0) := by decide
/-- The neighbour block 0 is in the same macroblock, so the quantizer is the current one. -/
theorem test_acPredict_instruction :
    let s := { opened with
      pc := [⟨748, Vector.replicate 7 0, #v[-37, -2, 11, 0, 0, 0, 0]⟩]
      mb := { mbReset with acPred := true } }
    let t := after (.acPredict 1) s
    (t.qf[8], t.qf[16], t.qf[24]) = (-37, -2, 11) := by decide
theorem test_pcUpdate_P1 :
    let t := after (.pcUpdate 0) { levels 107 1 0 with coef := (Vector.replicate 64 0).set 0 1070 }
    t.pc[0]? = some ⟨1070, #v[1, 0, 0, 0, 0, 0, 0], Vector.replicate 7 0⟩ := by decide
theorem test_scanSelect_V132 :
    let s := { opened with mb := { mbReset with mode := .intra, acPred := true } }
    (after (.scanSelect .vertical) s).result = .scan .altH ∧ (after (.scanSelect .horizontal) s).result = .scan .altV
    ∧ (after (.scanSelect .vertical) opened).result = .scan .zigzag := by decide
theorem test_recon_V133 :
    recon 250#8 9 = 255#8 ∧ recon 3#8 (-9) = 0#8 ∧ recon 0#8 300 = 255#8
    ∧ (after (.recon 3#8 (-9)) opened).result = .sample 0#8 := by decide
/-- V134: prediction 100 and residual 2. -/
theorem test_interBlock_V134 :
    let s := window [0b01110000#8] { opened with
      qp := 5, mb := { mbReset with cbp := 32#6 }, pred := Vector.replicate 6 (Vector.replicate 64 100#8) }
    let t := after (.interBlock 0) s
    t.coef[0] = 15 ∧ t.cur.y.find 0 = some 102#8 ∧ t.cur.y.find 119 = some 102#8 ∧ t.cur.y.find 8 = none ∧ t.bp = 5 := by decide
/-- V135: no bit is read and the predictor 1024 becomes 128 in every sample. -/
theorem test_intraBlock_V135 :
    let t := after (.intraBlock 0) { opened with qp := 8, vop := { vopReset with intraDcVlcThr := 7 } }
    t.bp = 0 ∧ t.cur.y.find 0 = some 128#8 ∧ t.pc[0]? = some ⟨1024, Vector.replicate 7 0, Vector.replicate 7 0⟩ := by decide

/-! ## Motion -/

/-- A reference whose first two luma rows begin 10, 20 and 30, 40 (section 2.8). -/
def corner : FrameStore := { FrameStore.reset with y := [(0, 10#8), (1, 20#8), (16, 30#8), (17, 40#8)] }

theorem test_interpolate_V138_V141 :
    interpolate 1 0 10#8 20#8 30#8 40#8 false = 13#8 ∧ interpolate 2 2 10#8 20#8 30#8 40#8 true = 25#8
    ∧ interpolate 3 1 10#8 20#8 30#8 40#8 false = 23#8 ∧ interpolate 0 2 10#8 20#8 21#8 40#8 true = 15#8 := by decide
theorem test_refSample_clamps_V144 :
    refSample corner.y 16 16 (-5) 0 = 10#8 ∧ refSample corner.y 16 16 1 (-3) = 20#8 := by decide
theorem test_chromaMv_1_W6 :
    (after (.chromaMv_1 ⟨3, -2⟩) opened).result = .vector ⟨1, -1⟩
    ∧ (after (.chromaMv_1 ⟨7, -7⟩) { opened with vol := { opened.vol with quarterpel := true } }).result = .vector ⟨1, -1⟩ := by decide
theorem test_chromaMv_4_P6 :
    (after (.chromaMv_4 ⟨6, -1⟩ ⟨7, 1⟩ ⟨5, -1⟩ ⟨6, -2⟩) opened).result = .vector ⟨3, -1⟩ := by decide
theorem test_spriteTrajectory_P6 :
    let t := after .spriteTrajectory (window [0x1A#8, 0x9E#8] { opened with vol := { opened.vol with warpPoints := 1 } })
    t.gmc = ⟨#v[5, 0, 0], #v[-1, 0, 0], MV.zero⟩ ∧ t.bp = 10 := by decide
theorem test_gmcSetup_quarterpel :
    (after .gmcSetup { opened with
      vol := { opened.vol with warpPoints := 1, quarterpel := true }, gmc := ⟨#v[5, 0, 0], #v[-1, 0, 0], MV.zero⟩ }).gmc.gmv
      = ⟨10, -2⟩ := by decide
/-- S5. -/
theorem test_directMv_S5 :
    let t := after (.directMv 0 MV.zero) { opened with
      vop := { vopReset with trb := 1, trd := 3 }, refmv := [⟨.inter, 6, Vector.replicate 4 ⟨6, 9⟩⟩] }
    (t.mb.mv[0], t.mb.mvb[3]) = (⟨2, 3⟩, ⟨-4, -6⟩) := by decide
/-- V164, V165, V166. -/
theorem test_direct_components :
    directForward 2 5 (-32) 0 = -12 ∧ directBackward 2 5 (-32) 0 = 19 ∧ directBackward 1 2 3 1 = -1
    ∧ directBackward 1 3 0 (-2) = -2 := by decide

/-! ## Macroblocks and VOPs -/

/-- A P VOP of one macroblock with a valid reference and the window of P5, step 5. -/
def pVop : State :=
  window [0x80#8] { opened with
    refNew := { FrameStore.reset with y := [(0, 7#8)], valid := true }
    vop := { vopReset with pictureType := .p, vopCoded := true, quant := 5, fcodeFwd := 1, poc := 3 } }

theorem test_decodeMb_not_coded :
    let t := after (.decodeMb 0) pVop
    t.bp = 1 ∧ t.mb.mode = .notCoded ∧ t.mbi.map (fun m => m.quant) = [1] := by decide
theorem test_decodeVop_P5_step_5 :
    let t := after .decodeVop pVop
    (t.status, t.bp, t.qp, t.prevQuant) = (.ok, 1, 5, 5) ∧ t.rob.map (fun r => r.seq) = [0] ∧ t.refOld = pVop.refNew := by decide
/-- P5, step 10: a failed macroblock is copied and the VOP completes. -/
theorem test_decodeVop_P5_step_10 :
    let t := after .decodeVop (window [0#8, 0#8] pVop)
    (t.status, t.bp, t.fail) = (.ok, 1, true) ∧ t.mbi = [⟨.notCoded, 5, Vector.replicate 4 MV.zero⟩] := by decide
theorem test_copyMb :
    (after (.copyMb 0 .refOld) { opened with refOld := { FrameStore.reset with u := [(9, 7#8)] } }).cur.u.find 9 = some 7#8 := by decide
theorem test_mbiWrite :
    (after (.mbiWrite 0) { opened with mb := { mbReset with mv := Vector.replicate 4 ⟨3, -2⟩ }, qp := 4 }).mbi
      = [⟨.inter, 4, Vector.replicate 4 ⟨3, -2⟩⟩] := by decide
theorem test_completeRef :
    let t := after .completeRef { pVop with waitKeyframe := true }
    t.refOld = pVop.refNew ∧ t.refmvValid = true ∧ t.waitKeyframe = true := by decide
theorem test_completeB : (after .completeB pVop).refNew = pVop.refNew ∧ (after .completeB pVop).robSeq = 1 := by decide

/-- A store with the given POC. -/
def storePoc (p : Int) : FrameStore := { FrameStore.reset with info := { FrameInfo.zero with poc := p } }

/-- S6: POC 20 then 10 into a buffer of depth 1. -/
theorem test_push_S6 :
    let t := after (.push .cur) { opened with cur := storePoc 20 }
    let u := after (.push .cur) { t with cur := storePoc 10 }
    (u.outq.map (fun f => f.info.poc), u.rob.map (fun r => r.frame.info.poc)) = ([10], [20]) := by decide
/-- V168: pushes 30, 10, 20, then a drain. -/
theorem test_drain_V168 :
    let slot := fun (p : Int) (n : Nat) => (⟨opened.frameOf (storePoc p), n⟩ : RobSlot)
    ((after .drain { opened with rob := [slot 30 0, slot 10 1, slot 20 2] }).outq.map (fun f => f.info.poc)) = [10, 20, 30] := by decide

/-! ## Commands -/

/-- R501: only `OPEN` is accepted in `Closed`. -/
theorem test_closed_dcval : (after (.dcval 3 5) State.reset).status = .failed .invalidData := by decide
theorem test_closed_V173 :
    (after .receiveFrame State.reset).status = .failed .invalidData ∧ (after .receiveFrame State.reset).opened = false := by decide
theorem test_open_V174_V175 :
    (after (.openInst { paramsOk with width := 0 }) State.reset).status = .failed .invalidData
    ∧ (after (.openInst paramsOk) State.reset).opened = true ∧ (after (.openInst paramsOk) State.reset).vol.valid = false := by decide
theorem test_open_V177 : (after (.openInst paramsOk) opened).status = .failed .invalidData := by decide
theorem test_receiveFrame_V178_V179 :
    (after .receiveFrame opened).status = .failed .needMoreData
    ∧ (after .receiveFrame { opened with flushing := true }).status = .failed .eof := by decide
theorem test_sendPacket_V180 :
    (after (.sendPacket ⟨[0#8, 0#8, 1#8, 0xB5#8, 0#8], 0, 0, 0, ⟨0, 1⟩, false⟩ ⟨none, []⟩) opened).status = .failed .invalidData := by
  decide
/-- V182: a P VOP while the block waits for a key frame. -/
theorem test_sendPacket_V182 :
    let t := after (.sendPacket ⟨[0#8, 0#8, 1#8, 0xB6#8], 0, 0, 0, ⟨0, 1⟩, false⟩ ⟨none, [some ⟨pVop.vop, none⟩]⟩)
      { opened with waitKeyframe := true }
    t.status = .ok ∧ t.robSeq = 0 ∧ t.vop = vopReset := by decide
theorem test_loadVol_V181 : (after (.loadVol { volOk with interlaced := true }) opened).status = .failed .unsupported := by decide
theorem test_loadVol_size :
    let t := after (.loadVol { volOk with size := some (17, 16) }) pVop
    t.vol.width = 17 ∧ t.mbi.length = 2 ∧ t.refNew.valid = false := by decide
theorem test_loadVop : (after (.loadVop pVop.vop) opened).vop = pVop.vop := by decide
theorem test_decodeVop_V183_V184 :
    (after .decodeVop { opened with vop := { vopReset with vopCoded := true } }).status = .failed .invalidData
    ∧ (after .decodeVop { pVop with vop := { pVop.vop with fcodeFwd := 0 } }).status = .failed .invalidData := by decide
theorem test_setBp_V186 :
    (after (.setBp 17) (window [0#8, 0#8] opened)).status = .failed .invalidData
    ∧ (after (.setBp 16) (window [0#8, 0#8] opened)).bp = 16 := by decide
theorem test_flush :
    let t := after .flush pVop
    t.waitKeyframe = true ∧ t.bslen = 0 ∧ t.refNew.valid = false ∧ t.vol = pVop.vol := by decide

/-! ## Witnesses: the hypotheses of each statement are met -/

/-- Does `i` end with `Ok` from `s` and leave `u`, what it hands back left out? -/
def runsTo (i : Instr) (s u : State) : Bool :=
  match exec i s with
  | .next t => decide (t = { u with status := .ok, result := t.result }) && decide (u.status = s.status) && decide (u.result = s.result)
  | .fault _ => false
  | .refused _ => false

theorem runs_of {i : Instr} {s u : State} (h : runsTo i s u = true) : s.Runs i u := by
  unfold runsTo at h
  split at h
  · rename_i t ht
    simp only [Bool.and_eq_true, decide_eq_true_eq] at h
    obtain ⟨⟨h1, h2⟩, h3⟩ := h
    refine ⟨⟨t.result, ?_⟩, h2, h3⟩
    rw [ht]
    exact congrArg Host.Outcome.next h1
  · exact absurd h (by decide)
  · exact absurd h (by decide)

theorem reads_of {tab : Table} {i : Instr} {s u : State} (n : Nat) (h : decode tab s.ahead = .ok i n) (g : runsTo i s u = true) :
    s.Reads tab i u := ⟨⟨n, h⟩, runs_of g⟩

/-- The sprite component at `BP` is `v`, in `k` bits. -/
def componentIs (v : Int) (k : Nat) (s : State) : Bool :=
  match parseTraj ⟨s.ahead, 0⟩ with
  | .ok p e => v == fieldValue p.1 p.2 && e.used == k
  | .error _ _ => false

/-- The state with the bit pointer at `b`. -/
def bpAt (s : State) (b : Nat) : State := { s with bp := b }

theorem trajectoryRead_nil (s : State) : TrajectoryRead [] s 0 := rfl

theorem trajectoryRead_cons {v : Int} {rest : List Int} {s : State} {b m : Nat} (k : Nat) (h : componentIs v k (bpAt s b) = true)
    (g : TrajectoryRead rest (bpAt s (b + k)) m) : TrajectoryRead (v :: rest) (bpAt s b) (k + m) := by
  unfold componentIs at h
  split at h
  · rename_i p e hp
    simp only [Bool.and_eq_true, beq_iff_eq] at h
    obtain ⟨hv, rfl⟩ := h
    exact ⟨p.1, p.2, m, e, hp, hv, g, rfl⟩
  · exact absurd h (by decide)

/-- A window of four bytes read from its first bit. -/
def four : State := window [0#8, 0#8, 0#8, 0#8] opened

/-- A frame of two by two macroblocks. -/
def square : State :=
  ({ opened with vol := { opened.vol with width := 32, height := 32 } } : State).remake

theorem test_w_McbpcAndCbpyCodewords :
    four.bp + 9 ≤ 8 * four.bslen ∧ four.mb.mode ≠ .intra ∧ ({ four with bp := 23 } : State).bp + 9 = 8 * four.bslen
    ∧ ({ four.mb with mode := .intraQ } : MbRegs).mode = .intraQ := by decide
theorem test_w_MvdCodewords :
    (1 ≤ 1 ∧ 1 ≤ 7 ∧ 0 < 2 ^ (1 - 1) ∧ four.bp + (12 + 1) ≤ 8 * four.bslen)
    ∧ (1 ≤ 7 ∧ 7 ≤ 7 ∧ 63 < 2 ^ (7 - 1) ∧ ({ four with bp := 13 } : State).bp + (12 + 7) = 8 * four.bslen) := by decide
theorem test_w_IntraDcAndTrajectoryCodewords :
    opened.opened = true ∧
    ({ four with bp := 7 } : State).bp + 25 = 8 * four.bslen ∧ 4095 < 2 ^ (12 : Fin 13).val ∧ 0 < 2 ^ (0 : Fin 13).val := by decide
theorem test_w_AcTableRowsWriteTheirEvent :
    four.bp + 12 + 1 ≤ 8 * four.bslen ∧ ({ four with bp := 19 } : State).bp + 12 + 1 = 8 * four.bslen := by decide
theorem test_w_AcEscapesWriteTheirEvent :
    ({ four with bp := 2 } : State).bp + 30 = 8 * four.bslen ∧ (2047#12 ≠ 0#12 ∧ 2047#12 ≠ 2048#12)
    ∧ (2049#12 ≠ 0#12 ∧ 2049#12 ≠ 2048#12) := by decide
theorem test_w_HeaderFieldsAndQuantizerCodes :
    four.bp + 6 ≤ 8 * four.bslen ∧ ({ four with bp := 31 } : State).bp + 1 = 8 * four.bslen := by decide
/-- Given alone: one read, a DC code cut in its value, an escape cut in its inner sign, a row without its sign bit. -/
theorem test_w_CutOffCodewordStopsAfterItsLastRead :
    (Instr.mcbpcI_4_0.inTable .mcbpcI = true ∧ 8 * four.bslen < (bpAt four 29).bp + (encode .mcbpcI_4_0).length
      ∧ ReadsTaken (readsOf .mcbpcI_4_0) (8 * four.bslen - 29) 0)
    ∧ ((Instr.dcszL_5 7#5).inTable .dcszL = true ∧ 8 * four.bslen < (bpAt four 24).bp + (encode (.dcszL_5 7#5)).length
      ∧ ReadsTaken (readsOf (.dcszL_5 7#5)) (8 * four.bslen - 24) 4)
    ∧ ((Instr.acInter_esc1 0 true).inTable .acInter = true ∧ 8 * four.bslen < (bpAt four 22).bp + (encode (.acInter_esc1 0 true)).length
      ∧ ReadsTaken (readsOf (.acInter_esc1 0 true)) (8 * four.bslen - 22) 10)
    ∧ (isEscape .acInter_0_0_1 = false ∧ (bpAt four 30).bp + (encode .acInter_0_0_1).length = 8 * four.bslen) := by
  refine ⟨⟨by decide, by decide, (readsTaken_iff _ _ _).2 (by decide)⟩, ⟨by decide, by decide, (readsTaken_iff _ _ _).2 (by decide)⟩,
    ⟨by decide, by decide, (readsTaken_iff _ _ _).2 (by decide)⟩, by decide⟩
/-- A state with one fetch of the given bytes. -/
def fetching (t : Table) (data : List Byte) : State := { window data opened with inq := [.fetch t] }

/-- In a fetch, the clauses in order: cut off, no codeword, thirteen zeros, an escape in each short escape, no codeword in each. -/
theorem test_w_CutOffCodewordStopsAfterItsLastRead_fetched :
    ((Instr.mvd_3 7 true 5).inTable (.mvd 7) = true ∧ (Instr.mvd_3 7 true 5).wf = true ∧ 8 < (encode (.mvd_3 7 true 5)).length
      ∧ (fetching (.mvd 7) [0b00011000#8]).ahead = (encode (.mvd_3 7 true 5)).take 8 ∧ ReadsTaken (readsOf (.mvd_3 7 true 5)) 8 5)
    ∧ (∀ i : Instr, i.inTable .bmbtype = true → ¬(encode i).take ((readsOf i).headD 0) <+: (fetching .bmbtype [0#8]).ahead)
    ∧ List.replicate 13 false <+: (fetching .traj [0#8, 0#8]).ahead
    ∧ escapeCode ++ [false] ++ escapeCode <+: (fetching .acInter [0b00000110#8, 0b00000110#8]).ahead
    ∧ escapeCode ++ [true, false] ++ escapeCode <+: (fetching .acIntra [0b00000111#8, 0b00000011#8]).ahead
    ∧ (¬escapeCode <+: List.replicate 8 false ∧ (∀ r ∈ AcSel.intra.rows, ¬r.code <+: List.replicate 8 false)
      ∧ (fetching .acIntra [0b00000110#8, 0#8]).ahead = escapeCode ++ [false] ++ List.replicate 8 false)
    ∧ (¬escapeCode <+: List.replicate 7 false ∧ (∀ r ∈ AcSel.inter.rows, ¬r.code <+: List.replicate 7 false)
      ∧ (fetching .acInter [0b00000111#8, 0#8]).ahead = escapeCode ++ [true, false] ++ List.replicate 7 false) := by
  refine ⟨⟨by decide, by decide, by decide, by decide, (readsTaken_iff _ _ _).2 (by decide)⟩, ?_, by decide, by decide, by decide,
    by decide, by decide⟩
  intro i h hc
  have h0 : true ∈ (encode i).take ((readsOf i).headD 0) := by
    cases i <;> first | exact absurd h Bool.false_ne_true | decide
  have hm := hc.subset h0
  revert hm
  decide
theorem test_w_BitReaderReadsAllOrNothing :
    four.opened = true ∧ four.bp + (32 : Fin 33).val = 8 * four.bslen
    ∧ 8 * four.bslen < ({ four with bp := 1 } : State).bp + (32 : Fin 33).val
    ∧ ({ four with bp := 32 } : State).bp + (0 : Fin 33).val ≤ 8 * four.bslen := by decide
theorem test_w_StartCodeScanFindsTheFirst : opened.opened = true := by decide
theorem test_w_ResyncDetectorMatchesThePattern :
    opened.opened = true ∧ (after (.resyncDetect 0 0) (window [0x7F#8, 0#8, 0#8, 0x80#8] opened)).result = .flag true := by decide
theorem test_w_DequantH263 : opened.opened = true ∧ opened.vol.quantType = .h263 := by decide
/-- Clauses 1 and 2, then both halves of clause 3. -/
theorem test_w_DequantMpegWithMismatch :
    ({ opened with vol := { opened.vol with quantType := .mpeg } } : State).vol.quantType = .mpeg ∧ opened.opened = true
    ∧ opened.coef.toList.sum % 2 = 0 ∧ (opened.coef.set 0 1).toList.sum % 2 = 1 := by decide
theorem test_w_IdctIsTheMatrixProduct :
    opened.opened = true ∧ ∀ i : Fin 64, i.val ≠ 0 → ({ opened with coef := opened.coef.set 0 8 } : State).coef[i] = 0 := by decide
theorem test_w_IntraNeighbourTable : 0 < square.mbCount ∧ 3 < square.mbCount ∧ square.mbCount = 4 := by decide
/-- The first block of a VOP has equal differences (clause 2); block 2 of P1 has the smaller one to its left (clause 1). -/
theorem test_w_DcPredictChoosesDirection :
    let s : State := { opened with pc := [⟨1070, Vector.replicate 7 0, Vector.replicate 7 0⟩] }
    (s.opened = true ∧ s.mbk < s.mbCount)
    ∧ (let n := s.intraNeighbours s.mbk 0
       (n.2.1.slot.dc - n.2.2.slot.dc).natAbs ≤ (n.1.slot.dc - n.2.1.slot.dc).natAbs)
    ∧ (let n := s.intraNeighbours s.mbk 2
       (n.1.slot.dc - n.2.1.slot.dc).natAbs < (n.2.1.slot.dc - n.2.2.slot.dc).natAbs) := by decide
theorem test_w_DcReconScalesAndClamps :
    (opened.opened = true ∧ 1 ≤ opened.qp ∧ opened.qp ≤ 31)
    ∧ (1 ≤ ({ opened with qp := 31 } : State).qp ∧ ({ opened with qp := 31 } : State).qp ≤ 31) := by decide
/-- Clause 1, and both directions of clause 2. -/
theorem test_w_AcPredictAddsRowOrColumn :
    let s : State := { opened with pc := [⟨1070, Vector.replicate 7 0, Vector.replicate 7 0⟩] }
    let t : State := { s with mb := { s.mb with acPred := true } }
    (s.opened = true ∧ s.mbk < s.mbCount ∧ 1 ≤ s.qp ∧ s.mb.acPred = false)
    ∧ (t.opened = true ∧ t.mbk < t.mbCount ∧ 1 ≤ t.qp ∧ t.mb.acPred = true)
    ∧ (t.dcPredict t.mbk 0).dir = .horizontal ∧ (t.dcPredict t.mbk 2).dir = .vertical := by decide
theorem test_w_PcUpdateWritesItsOwnSlot :
    opened.opened = true ∧ opened.mbk < opened.mbCount ∧ opened.pc.length = 6 * opened.mbCount := by decide
theorem test_w_ScanSelectAndRecon : opened.opened = true := by decide
/-- A last event and another one inside the block at position 63, an event that leaves the block, and one that cannot be read. -/
theorem test_w_AcLoopPlacesEventsAndStops :
    (∃ u : State, acEvent .inter (window [0b01110000#8] opened) = .ok () u ∧ 63 + u.ev.run < 64 ∧ u.ev.last = true)
    ∧ (∃ u : State, acEvent .inter (window [0b10000000#8] opened) = .ok () u ∧ 63 + u.ev.run < 64 ∧ u.ev.last = false)
    ∧ (∃ u : State, acEvent .inter (window [0b11000000#8] opened) = .ok () u ∧ 63 < 63 + u.ev.run)
    ∧ (∃ (e : Kind) (u : State), acEvent .inter (window [] opened) = .error e u) :=
  ⟨⟨_, rfl, by decide⟩, ⟨_, rfl, by decide⟩, ⟨_, rfl, by decide⟩, ⟨_, _, rfl⟩⟩

/-- A state for the four cases of an intra block: the threshold number and the coded flags. -/
def intraCase (thr : Nat) (cbp : BitVec 6) (data : List Byte) : State :=
  window data { opened with vop := { vopReset with intraDcVlcThr := thr }, mb := { mbReset with mode := .intra, cbp := cbp } }

/-- The clauses in order; QP is 1, so threshold 0 reads a DC code and threshold 7 does not. The last three fail at an AC event, at
the DC code (an empty window), and at the AC event after a DC code (the window ends). -/
theorem test_w_IntraBlockReconstructs :
    ((intraCase 7 0#6 []).opened = true ∧ (intraCase 7 0#6 []).mbk < (intraCase 7 0#6 []).mbCount
      ∧ (intraCase 7 0#6 []).mb.cbp.toNat.testBit (5 - (0 : Fin 6).val) = false
      ∧ ∀ thr : Fin 8, thr.val = (intraCase 7 0#6 []).vop.intraDcVlcThr → ¬(intraCase 7 0#6 []).qp < dcThreshold[thr])
    ∧ (∃ u : State, (intraCase 7 32#6 [0b01110000#8]).mb.cbp.toNat.testBit (5 - (0 : Fin 6).val) = true
      ∧ decodeAc .intra 0 .zigzag { intraCase 7 32#6 [0b01110000#8] with qf := Vector.replicate 64 0 } = .ok () u)
    ∧ (∃ (d : Int) (u : State), (intraCase 0 0#6 [0b01100000#8]).qp < dcThreshold[(0 : Fin 8)]
      ∧ dcDiff 0 { intraCase 0 0#6 [0b01100000#8] with qf := Vector.replicate 64 0 } = .ok d u)
    ∧ (∃ (d : Int) (t u : State), (intraCase 0 32#6 [0b01101110#8]).qp < dcThreshold[(0 : Fin 8)]
      ∧ dcDiff 0 { intraCase 0 32#6 [0b01101110#8] with qf := Vector.replicate 64 0 } = .ok d t
      ∧ decodeAc .intra 1 .zigzag t = .ok () u)
    ∧ (∃ (e : Kind) (u : State), (intraCase 7 32#6 []).mb.cbp.toNat.testBit (5 - (0 : Fin 6).val) = true
      ∧ decodeAc .intra 0 .zigzag { intraCase 7 32#6 [] with qf := Vector.replicate 64 0 } = .error e u)
    ∧ (∃ (e : Kind) (u : State), (intraCase 0 0#6 []).qp < dcThreshold[(0 : Fin 8)]
      ∧ dcDiff 0 { intraCase 0 0#6 [] with qf := Vector.replicate 64 0 } = .error e u)
    ∧ (∃ (d : Int) (e : Kind) (t u : State), (intraCase 0 32#6 [0b01100000#8]).qp < dcThreshold[(0 : Fin 8)]
      ∧ (intraCase 0 32#6 [0b01100000#8]).mb.cbp.toNat.testBit (5 - (0 : Fin 6).val) = true
      ∧ dcDiff 0 { intraCase 0 32#6 [0b01100000#8] with qf := Vector.replicate 64 0 } = .ok d t
      ∧ decodeAc .intra 1 .zigzag t = .error e u) :=
  ⟨by decide, ⟨_, by decide, rfl⟩, ⟨_, _, by decide, rfl⟩, ⟨_, _, _, by decide, rfl, rfl⟩, ⟨_, _, by decide, rfl⟩,
    ⟨_, _, by decide, rfl⟩, ⟨_, _, _, _, by decide, by decide, rfl, rfl⟩⟩

theorem test_w_InterBlockWritesPredictionAndResidual :
    (opened.opened = true ∧ opened.mbk < opened.mbCount ∧ opened.mb.cbp.toNat.testBit (5 - (5 : Fin 6).val) = false)
    ∧ (∃ u : State, (intraCase 0 1#6 [0b01110000#8]).mb.cbp.toNat.testBit (5 - (5 : Fin 6).val) = true
      ∧ decodeAc .inter 0 .zigzag { intraCase 0 1#6 [0b01110000#8] with qf := Vector.replicate 64 0 } = .ok () u)
    ∧ (∃ (e : Kind) (u : State), (intraCase 0 1#6 []).mb.cbp.toNat.testBit (5 - (5 : Fin 6).val) = true
      ∧ decodeAc .inter 0 .zigzag { intraCase 0 1#6 [] with qf := Vector.replicate 64 0 } = .error e u) :=
  ⟨by decide, ⟨_, by decide, rfl⟩, ⟨_, _, by decide, rfl⟩⟩

/-- The last macroblock, in an I VOP and in a B VOP. -/
theorem test_w_CopyMbAndMbiWrite :
    square.opened = true ∧ 3 < square.mbCount ∧ square.vop.pictureType ≠ .b
    ∧ ({ square with vop := { vopReset with pictureType := .b } } : State).vop.pictureType = .b := by decide
theorem test_w_MotionCompensationInterpolates : opened.opened = true ∧ 0 < opened.mbCount := by decide
theorem test_w_ChromaVectorsRoundAsTheTables : opened.opened = true := by decide

/-- The instance with a number of warp points. -/
def warped (n : Nat) (data : List Byte) : State := window data { opened with vol := { opened.vol with warpPoints := n } }

/-- No sprite component stands at `BP`. -/
def noComponent (s : State) : Bool :=
  match parseTraj ⟨s.ahead, 0⟩ with
  | .ok _ _ => false
  | .error _ _ => true

theorem noComponent_of {s : State} (h : noComponent s = true) : ∃ (e : Reject) (c : Cursor), parseTraj ⟨s.ahead, 0⟩ = .error e c := by
  unfold noComponent at h
  split at h
  · exact absurd h (by decide)
  · exact ⟨_, _, by assumption⟩

theorem trajectory_one : TrajectoryRead [5, -1] (bpAt (warped 1 [0x1A#8, 0x9E#8]) 0) 10 :=
  trajectoryRead_cons 7 (by decide) (trajectoryRead_cons 3 (by decide) (trajectoryRead_nil _))

theorem trajectory_three : TrajectoryRead [0, 0, 0, 0, 0, 0] (bpAt (warped 3 [0xFC#8]) 0) 6 :=
  trajectoryRead_cons 1 (by decide) (trajectoryRead_cons 1 (by decide) (trajectoryRead_cons 1 (by decide)
    (trajectoryRead_cons 1 (by decide) (trajectoryRead_cons 1 (by decide) (trajectoryRead_cons 1 (by decide) (trajectoryRead_nil _))))))

theorem trajectory_cut : TrajectoryRead [0] (bpAt (warped 2 [0x80#8, 0#8]) 0) 1 :=
  trajectoryRead_cons 1 (by decide) (trajectoryRead_nil _)

/-- `SET_BP` at and past the end of the window; trajectories of no point, of one (5 and -1 of P6) and of three; and a failure at the first and
at the second component. -/
theorem test_w_HeaderParseOperations :
    (four.opened = true ∧ 32 ≤ 8 * four.bslen ∧ 8 * four.bslen < 33)
    ∧ ((warped 0 []).opened = true ∧ (warped 0 []).vol.warpPoints = 0 ∧ TrajectoryRead [] (warped 0 []) 0)
    ∧ ((warped 1 [0x1A#8, 0x9E#8]).vol.warpPoints = 1 ∧ TrajectoryRead [5, -1] (warped 1 [0x1A#8, 0x9E#8]) 10)
    ∧ ((warped 3 [0xFC#8]).vol.warpPoints = 3 ∧ TrajectoryRead [0, 0, 0, 0, 0, 0] (warped 3 [0xFC#8]) 6)
    ∧ ((warped 3 []).vol.warpPoints = 3 ∧ TrajectoryRead [] (warped 3 []) 0
      ∧ ∃ (e : Reject) (c1 : Cursor), parseTraj ⟨(warped 3 []).ahead, 0⟩ = .error e c1)
    ∧ ((warped 2 [0x80#8, 0#8]).vol.warpPoints = 2 ∧ TrajectoryRead [0] (warped 2 [0x80#8, 0#8]) 1
      ∧ ∃ (e : Reject) (c1 : Cursor), parseTraj ⟨({ warped 2 [0x80#8, 0#8] with bp := 0 + 1 } : State).ahead, 0⟩ = .error e c1) :=
  ⟨by decide, ⟨by decide, by decide, rfl⟩, ⟨by decide, trajectory_one⟩, ⟨by decide, trajectory_three⟩,
    ⟨by decide, rfl, noComponent_of (by decide)⟩, ⟨by decide, trajectory_cut, noComponent_of (by decide)⟩⟩

theorem test_w_DirectModeVectors :
    let s : State := { square with vop := { vopReset with trb := 1, trd := 1 } }
    s.opened = true ∧ 3 < s.mbCount ∧ 0 < s.vop.trd := by decide
/-- Clause 1, clause 2, a vector whose first delta fails and one whose second does, and both ends of the last clause. -/
theorem test_w_MotionVectorPredictorIsTheMedian :
    3 < square.mbCount
    ∧ (∃ (dx dy : Int) (t u : State), decodeDelta 1 (window [0b01001100#8] opened) = .ok dx t ∧ decodeDelta 1 t = .ok dy u)
    ∧ (∃ (e : Kind) (u : State), decodeDelta 1 (window [] opened) = .error e u)
    ∧ (∃ (dx : Int) (e : Kind) (t u : State), decodeDelta 1 (window [0b01000000#8] opened) = .ok dx t ∧ decodeDelta 1 t = .error e u)
    ∧ (-(2 ^ (1 + 5)) ≤ (-64 : Int) ∧ (-64 : Int) ≤ 2 ^ (1 + 5)) ∧ (-(2 ^ (7 + 5)) ≤ (4096 : Int) ∧ (4096 : Int) ≤ 2 ^ (7 + 5)) :=
  ⟨by decide, ⟨_, _, _, _, rfl, rfl⟩, ⟨_, _, rfl⟩, ⟨_, _, _, _, rfl, rfl⟩, by decide, by decide⟩

theorem test_w_DecodeMbNotCodedCopies :
    pVop.opened = true ∧ 0 < pVop.mbCount ∧ pVop.vop.pictureType = .p ∧ pVop.bp < 8 * pVop.bslen ∧ pVop.bit pVop.bp = true := by decide

/-- A B VOP with both references, over a co-located macroblock that was not coded. -/
def bVop : State :=
  { pVop with
    refOld := { pVop.refNew with valid := true }
    vop := { pVop.vop with pictureType := .b, fcodeBwd := 1, trb := 1, trd := 2 } }

theorem test_w_DecodeMbSkippedInBCopiesForward :
    bVop.opened = true ∧ 0 < bVop.mbCount ∧ bVop.vop.pictureType = .b ∧ (bVop.refmv.getD 0 MbInfo.reset).mode = .notCoded := by decide
/-- A P macroblock of which no codeword stands in the window, and an I macroblock; neither window holds the syntax of a macroblock. -/
theorem test_w_DecodeMbContainsItsFailure :
    (∃ (e : Kind) (u : State), (window [] pVop).vop.pictureType ≠ .i ∧ decodeMb 0 { window [] pVop with mbk := 0 } = .error e u)
    ∧ (pVop.opened = true ∧ 0 < pVop.mbCount ∧ opened.vop.pictureType = .i)
    ∧ ¬State.SyntaxOf { window [] pVop with mbk := 0 } 0
    ∧ ¬State.SyntaxOf { window [] opened with mbk := 0 } 0 := by
  refine ⟨⟨_, _, by decide, rfl⟩, by decide, ?_, ?_⟩
  · rintro (⟨t, ⟨n, h⟩, -⟩ | ⟨s1, s2, ⟨⟨n, h⟩, -⟩, -⟩ | ⟨_, ⟨_, _, _, _, _, _, _, ⟨⟨n, h⟩, -⟩, -⟩, -⟩) <;> cases h
  · rintro (⟨n, h⟩ | ⟨_, _, _, _, _, _, _, _, ⟨⟨n, h⟩, -⟩, -⟩) <;> cases h
/-- Any operation on one macroblock that answers next. -/
theorem test_w_MacroblockWritesOnlyItsOwnArea :
    pVop.opened = true ∧ 0 < pVop.mbCount ∧ ∃ t : State, exec (.decodeMb 0) pVop = .next t := ⟨by decide, by decide, _, rfl⟩

/-! ### An I macroblock of the codewords `1`, `0`, `0011` and six blocks without bits -/

/-- What an intra block without bits leaves. -/
def bare (b : Fin 6) (s : State) : State :=
  let p := s.dcPredict s.mbk b
  (((((({ s with qf := Vector.replicate 64 0 } : State).dcRecon b 0 p.pr).acPredict p.dir p.nb).pcUpdate s.mbk b).dequant true).idct).writeIntra
    s.mbk b

/-- The registers an intra block without bits is run by. -/
def sameSetting (s t : State) : Prop :=
  t.opened = s.opened ∧ t.mbk = s.mbk ∧ t.vol = s.vol ∧ t.vop = s.vop ∧ t.mb = s.mb ∧ t.qp = s.qp ∧ t.status = s.status
    ∧ t.result = s.result

theorem sameSetting_trans {s t u : State} (h : sameSetting s t) (g : sameSetting t u) : sameSetting s u := by
  obtain ⟨h1, h2, h3, h4, h5, h6, h7, h8⟩ := h
  obtain ⟨g1, g2, g3, g4, g5, g6, g7, g8⟩ := g
  exact ⟨g1.trans h1, g2.trans h2, g3.trans h3, g4.trans h4, g5.trans h5, g6.trans h6, g7.trans h7, g8.trans h8⟩

theorem sameSetting_of_block {s t : State} (h : s.SameButBlock t) : sameSetting s t := by
  rw [h]
  exact ⟨rfl, rfl, rfl, rfl, rfl, rfl, rfl, rfl⟩

theorem bare_setting (b : Fin 6) (s : State) : sameSetting s (bare b s) :=
  sameSetting_of_block (((((State.SameButBlock.trans (t := { s with qf := Vector.replicate 64 0 }) rfl (State.dcRecon_block _ b 0 _)).trans
    (State.acPredict_block _ _ _)).trans (State.pcUpdate_block _ s.mbk b)).trans (State.dequant_block _ true)).trans
    (State.idct_block _) |>.trans (State.writeBlock_block _ s.mbk b _))

/-- The state before the first block. -/
def beforeBlocks : State :=
  { window [0b10001100#8] opened with
    bp := 6, mb := { mbReset with mode := .intra }, vop := { vopReset with intraDcVlcThr := 7 } }

/-- A macroblock of the frame, none of whose blocks has a bit in the stream. -/
def Bitless (s : State) : Prop := s.opened = true ∧ s.mbk < s.mbCount ∧ s.mb.cbp = 0#6 ∧ s.useDcVlc = false

theorem bitless_of_setting {s t : State} (g : sameSetting s t) (h : Bitless s) : Bitless t := by
  obtain ⟨h1, h2, h3, h4⟩ := h
  obtain ⟨g1, g2, g3, g4, g5, g6, -, -⟩ := g
  unfold Bitless State.useDcVlc State.mbCount State.mbw State.mbh at *
  rw [g1, g2, g3, g4, g5, g6]
  exact ⟨h1, h2, h3, h4⟩

theorem bitless_pred {s : State} (p : Vector (Vector Byte 64) 6) (h : Bitless s) : Bitless { s with pred := p } :=
  ⟨h.1, h.2.1, h.2.2.1, h.2.2.2⟩

theorem bitless_flag {s : State} (h : Bitless s) (b : Fin 6) : codedFlag s.mb.cbp b = false := by
  rw [h.2.2.1]
  revert b
  decide

theorem bare_runs (b : Fin 6) (s : State) (h : Bitless s) : s.Runs (.intraBlock b) (bare b s) := by
  have g := bare_setting b s
  refine ⟨⟨.none, ?_⟩, g.2.2.2.2.2.2.1, g.2.2.2.2.2.2.2⟩
  have hi : intraBlock s.mbk b s = .ok () (bare b s) := by
    have hq : (({ s with qf := Vector.replicate 64 0 } : State).qf[0] : Int) = 0 := by simp
    unfold intraBlock
    rw [bind_apply_ok _ _ _ _ _ (get_apply s)]
    rw [bind_apply_ok _ _ _ _ _ (update_apply _ s)]
    simp only [h.2.2.2, bitless_flag h b]
    rfl
  show runOnMacroblock s.mbk _ s = _
  rw [runOnMacroblock_opened _ _ _ h.1 h.2.1, bind_apply_ok _ _ _ _ _ hi]
  rfl

theorem inter_runs (b : Fin 6) (s : State) (h : Bitless s) : s.Runs (.interBlock b) (s.writeBlock s.mbk b s.pred[b]) := by
  have g := sameSetting_of_block (State.writeBlock_block s s.mbk b s.pred[b])
  refine ⟨⟨.none, ?_⟩, g.2.2.2.2.2.2.1, g.2.2.2.2.2.2.2⟩
  have hi : interBlock s.mbk b s = .ok () (s.writeBlock s.mbk b s.pred[b]) := by
    unfold interBlock
    rw [bind_apply_ok _ _ _ _ _ (get_apply s)]
    simp only [bitless_flag h b]
    rfl
  show runOnMacroblock s.mbk _ s = _
  rw [runOnMacroblock_opened _ _ _ h.1 h.2.1, bind_apply_ok _ _ _ _ _ hi]
  rfl

theorem intra_all (l : List (Fin 6)) (s : State) (h : Bitless s) : ∃ t, RunsAll (l.map .intraBlock) s t := by
  induction l generalizing s with
  | nil => exact ⟨s, rfl⟩
  | cons b l ih =>
    obtain ⟨t, ht⟩ := ih _ (bitless_of_setting (bare_setting b s) h)
    exact ⟨t, _, bare_runs b s h, ht⟩

theorem inter_all (l : List (Fin 6)) (s : State) (h : Bitless s) : ∃ t, RunsAll (l.map .interBlock) s t := by
  induction l generalizing s with
  | nil => exact ⟨s, rfl⟩
  | cons b l ih =>
    obtain ⟨t, ht⟩ := ih _ (bitless_of_setting (sameSetting_of_block (State.writeBlock_block s s.mbk b s.pred[b])) h)
    exact ⟨t, _, inter_runs b s h, ht⟩

/-- The chain of hypotheses of clause 2, and stuffing for clause 1. -/
theorem test_w_IntraMacroblockIsItsCodewordsThenItsBlocks :
    (∃ n : Nat, decode .mcbpcI (window [0#8, 0b10000000#8] opened).ahead = .ok .mcbpcI_stuff n)
    ∧ ∃ (m a y q : Instr) (s s1 s2 s3 s4 b0 b1 b2 b3 b4 b5 : State),
      (s.opened = true ∧ 0 < s.mbCount ∧ s.vop.pictureType = .i)
      ∧ State.Reads { s with mbk := 0 } .mcbpcI m s1 ∧ m ≠ .mcbpcI_stuff ∧ s1.Reads .acPred a s2 ∧ s2.Reads .cbpy y s3
      ∧ (s3.mb.mode = .intraQ → s3.Reads .dquant q s4) ∧ (s3.mb.mode ≠ .intraQ → s4 = s3)
      ∧ s4.Runs (.intraBlock 0) b0 ∧ b0.Runs (.intraBlock 1) b1 ∧ b1.Runs (.intraBlock 2) b2 ∧ b2.Runs (.intraBlock 3) b3
      ∧ b3.Runs (.intraBlock 4) b4 ∧ b4.Runs (.intraBlock 5) b5 := by
  obtain ⟨t, b0, h0, b1, h1, b2, h2, b3, h3, b4, h4, b5, h5, -⟩ := intra_all [0, 1, 2, 3, 4, 5] beforeBlocks
    (by unfold Bitless; decide)
  exact ⟨⟨9, by decide⟩, .mcbpcI_3_0, .acPred false, .cbpy_0, .dquant_00, { beforeBlocks with bp := 0 },
    { beforeBlocks with bp := 1 }, { beforeBlocks with bp := 2 }, beforeBlocks, beforeBlocks, b0, b1, b2, b3, b4, b5,
    by decide, ⟨⟨1, by decide⟩, ⟨.none, rfl⟩, rfl, rfl⟩, by decide, ⟨⟨1, by decide⟩, ⟨.none, rfl⟩, rfl, rfl⟩,
    ⟨⟨4, by decide⟩, ⟨.none, rfl⟩, rfl, rfl⟩, fun h => absurd h (by decide), fun _ => rfl, h0, h1, h2, h3, h4, h5⟩

/-! ### Coded macroblocks of P and B VOPs without coefficient bits -/

/-- A P VOP whose intra DC threshold reads no DC code, over the given window. -/
def pCoded (data : List Byte) : State := window data { pVop with vop := { pVop.vop with intraDcVlcThr := 7 } }

/-- The prediction of a macroblock as the operations answer it. -/
theorem predictedFrom_holds (s : State) (k : Nat) (src : StoreSel) (mv : Vector MV 4) (four : Bool) (r : Bool) (h : s.opened = true) :
    s.PredictedFrom k src mv (four = true) r (s.predictFrom k (s.store src) mv (s.chromaMv four mv) r) := by
  have ho {a : State → EStateM.Result Kind State Result} {v : Result} (ha : a s = .ok v s) :
      runCommand (Act.of a) s = .next { s with status := .ok, result := v } := by
    rw [runCommand_of_opened a s h, ha]
    rfl
  refine ⟨ho rfl, ho rfl, ho rfl, ho rfl, s.chromaMv four mv, fun hf => ho ?_, fun hf => ho ?_, ho rfl, ho rfl⟩
  · simp [State.chromaMv, hf]
  · simp [State.chromaMv, hf]

/-- An intra macroblock of a P VOP before its blocks. -/
def pIntra : State := { pCoded [0b00001100#8, 0b01100000#8] with bp := 11, mb := { mbReset with mode := .intra } }

/-- An inter macroblock of a P VOP after its vectors. -/
def pInter : State := { pCoded [0b01111100#8] with bp := 6, mb := mbReset }

/-- Stuffing, an intra macroblock (`0`, `00011`, `0`, `0011`), and an inter macroblock (`0`, `1`, `11`, `1`, `1`). -/
theorem test_w_CodedMacroblockOfAPOrSVopIsItsSyntax :
    (∃ s1 s2 : State, (pCoded [0#8, 0b01000000#8]).Reads .notCoded (.notCoded false) s1 ∧ s1.Reads .mcbpcP .mcbpcP_stuff s2)
    ∧ (∃ h t : State, State.HeaderOfP { pCoded [0b00001100#8, 0b01100000#8] with mbk := 0 } h ∧ h.mb.mode = .intra
      ∧ RunsAll [.intraBlock 0, .intraBlock 1, .intraBlock 2, .intraBlock 3, .intraBlock 4, .intraBlock 5] h t)
    ∧ (∃ (h v t : State) (p : Vector (Vector Byte 64) 6), State.HeaderOfP { pCoded [0b01111100#8] with mbk := 0 } h ∧ h.mb.mode = .inter
      ∧ h.VectorsOfP 0 v ∧ v.PredictedFrom 0 .refNew v.mb.mv (v.mb.mode = .inter4V) v.vop.roundingType p
      ∧ RunsAll [.interBlock 0, .interBlock 1, .interBlock 2, .interBlock 3, .interBlock 4, .interBlock 5] { v with pred := p } t)
    ∧ pVop.opened = true ∧ 0 < pVop.mbCount ∧ pVop.vop.pictureType = .p := by
  refine ⟨⟨_, _, reads_of (u := { pCoded [0#8, 0b01000000#8] with bp := 1 }) 1 (by decide) (by decide),
    reads_of (u := { pCoded [0#8, 0b01000000#8] with bp := 10 }) 9 (by decide) (by decide)⟩, ?_, ?_, by decide⟩
  · obtain ⟨t, ht⟩ := intra_all [0, 1, 2, 3, 4, 5] pIntra (by unfold Bitless; decide)
    refine ⟨pIntra, t, ⟨.mcbpcP_3_0, .cbpy_0, { pIntra with bp := 1, mb := mbReset }, { pIntra with bp := 6 }, { pIntra with bp := 6 },
      { pIntra with bp := 7 }, pIntra, reads_of 1 (by decide) (by decide), reads_of 5 (by decide) (by decide), by decide, ?_, ?_,
      reads_of 4 (by decide) (by decide), ?_⟩, by decide, ht⟩
    · unfold State.ReadsMcsel
      rw [if_neg (by decide)]
      rfl
    · unfold State.ReadsAcPred
      rw [if_pos (by decide)]
      exact ⟨false, reads_of 1 (by decide) (by decide)⟩
    · unfold State.ReadsDquant
      rw [if_neg (by decide)]
  · obtain ⟨t, ht⟩ := inter_all [0, 1, 2, 3, 4, 5] _ (bitless_pred (pInter.predictFrom 0 (pInter.store .refNew) pInter.mb.mv
      (pInter.chromaMv false pInter.mb.mv) pInter.vop.roundingType) (by unfold Bitless; decide : Bitless pInter))
    refine ⟨{ pInter with bp := 4 }, pInter, t, _, ⟨.mcbpcP_0_0, .cbpy_15, { pInter with bp := 1 }, { pInter with bp := 2 },
      { pInter with bp := 2 }, { pInter with bp := 2 }, { pInter with bp := 4 }, reads_of 1 (by decide) (by decide),
      reads_of 1 (by decide) (by decide), by decide, ?_, ?_, reads_of 2 (by decide) (by decide), ?_⟩, by decide, ?_, ?_, ht⟩
    · unfold State.ReadsMcsel
      rw [if_neg (by decide)]
      rfl
    · unfold State.ReadsAcPred
      rw [if_neg (by decide)]
      rfl
    · unfold State.ReadsDquant
      rw [if_neg (by decide)]
    · unfold State.VectorsOfP
      rw [if_neg (by decide), if_neg (by decide)]
      exact ⟨⟨0, 0⟩, pInter, rfl, by decide⟩
    · have hm : (pInter.mb.mode = .inter4V) = (false = true) := by
        rw [eq_iff_iff]
        decide
      rw [hm]
      exact predictedFrom_holds pInter 0 .refNew pInter.mb.mv false pInter.vop.roundingType (by decide)

/-- A B VOP over a co-located Inter macroblock. -/
def bCoded (data : List Byte) : State :=
  window data { bVop with vop := { bVop.vop with intraDcVlcThr := 7 }, refmv := [⟨.inter, 4, Vector.replicate 4 MV.zero⟩] }

/-- A Forward macroblock after its vector. -/
def bForward : State := { bCoded [0b01000111#8] with bp := 8, mb := { mbReset with btype := .forward } }

/-- A Forward macroblock of the bits `01`, `0001`, `1`, `1`. -/
theorem test_w_MacroblockOfABVopIsItsSyntax :
    ∃ (s h v t : State) (p : Vector (Vector Byte 64) 6),
      (s.opened = true ∧ 0 < s.mbCount ∧ s.vop.pictureType = .b ∧ (s.refmv.getD 0 MbInfo.reset).mode ≠ .notCoded)
      ∧ State.HeaderOfB { s with
          mbk := 0
          pmvF := if 0 % s.mbw = 0 then MV.zero else s.pmvF
          pmvB := if 0 % s.mbw = 0 then MV.zero else s.pmvB
          mb := { s.mb with acPred := false } } h
      ∧ h.VectorsOfB 0 v ∧ v.PredictedB 0 p
      ∧ RunsAll [.interBlock 0, .interBlock 1, .interBlock 2, .interBlock 3, .interBlock 4, .interBlock 5] { v with pred := p } t := by
  obtain ⟨t, ht⟩ := inter_all [0, 1, 2, 3, 4, 5] _ (bitless_pred (bForward.predictFrom 0 (bForward.store .refOld) bForward.mb.mv
    (bForward.chromaMv false bForward.mb.mv) false) (by unfold Bitless; decide : Bitless bForward))
  refine ⟨{ bForward with bp := 0, mb := mbReset }, { bForward with bp := 6 }, bForward, t, _, by decide,
    .inr (.inl ⟨.bmbtype_forward, { bForward with bp := 2, mb := mbReset }, reads_of 2 (by decide) (by decide),
      reads_of 4 (by decide) (by decide)⟩), ?_, ?_, ht⟩
  · show State.ForwardRead _ _
    exact ⟨⟨0, 0⟩, bForward, ⟨0, 0, { bForward with bp := 7 }, rfl, rfl, by decide⟩, by decide⟩
  · unfold State.PredictedB
    rw [if_pos (by decide)]
    have hm : ((bForward.mb.btype = .direct ∨ bForward.mb.btype = .directNoneMv)
        ∧ (bForward.refmv.getD 0 MbInfo.reset).mode = .inter4V) = (false = true) := by
      rw [eq_iff_iff]
      decide
    rw [hm]
    exact predictedFrom_holds bForward 0 .refOld bForward.mb.mv false false (by decide)

/-- The six clauses in order. -/
theorem test_w_DecodeVopChecksComeFirst :
    (opened.opened = true ∧ ({ opened with vol := { opened.vol with valid := false } } : State).vol.valid = false)
    ∧ (let s : State := { opened with vol := { opened.vol with interlaced := true } }
       s.vol.valid = true ∧ s.RefusedTool)
    ∧ (let s : State := { pVop with vop := { pVop.vop with fcodeFwd := 0 } }
       s.vol.valid = true ∧ ¬s.RefusedTool ∧ s.IllegalVop)
    ∧ (let s : State := { pVop with vop := { pVop.vop with vopCoded := false } }
       s.vol.valid = true ∧ ¬s.RefusedTool ∧ ¬s.IllegalVop ∧ s.PassedOver)
    ∧ (let s : State := { pVop with vop := { pVop.vop with quant := 0 } }
       s.vol.valid = true ∧ ¬s.RefusedTool ∧ ¬s.IllegalVop ∧ ¬s.PassedOver ∧ s.vop.quant = 0 ∧ s.prevQuant = 0)
    ∧ (let s : State := { pVop with vop := { pVop.vop with mbStart := 9 } }
       s.vol.valid = true ∧ ¬s.RefusedTool ∧ ¬s.IllegalVop ∧ ¬s.PassedOver ∧ (s.vop.quant ≠ 0 ∨ s.prevQuant ≠ 0)
         ∧ 8 * s.bslen < s.vop.mbStart) := by
  refine ⟨by decide, ⟨by decide, ?_⟩, ⟨by decide, ?_, ?_⟩, ⟨by decide, ?_, ?_, ?_⟩, ⟨by decide, ?_, ?_, ?_, by decide, by decide⟩,
    ⟨by decide, ?_, ?_, ?_, by decide, by decide⟩⟩
  all_goals simp only [State.RefusedTool, State.IllegalVop, State.PassedOver]; decide
/-- A P VOP, and a B VOP. -/
theorem test_w_PredictedVopAlwaysCompletes :
    (pVop.opened = true ∧ pVop.VopReady ∧ pVop.vop.pictureType ≠ .i)
    ∧ (bVop.opened = true ∧ bVop.VopReady ∧ bVop.vop.pictureType = .b) := by
  refine ⟨⟨by decide, ?_, by decide⟩, ⟨by decide, ?_, by decide⟩⟩
  all_goals simp only [State.VopReady, State.RefusedTool, State.IllegalVop, State.PassedOver]; decide

/-- An I VOP. -/
def iVop : State := { pVop with vop := { pVop.vop with pictureType := .i } }

theorem test_w_IntraVopInstallsOrLeavesReferences : iVop.opened = true ∧ iVop.VopReady ∧ iVop.vop.pictureType = .i := by
  refine ⟨by decide, ?_, by decide⟩
  simp only [State.VopReady, State.RefusedTool, State.IllegalVop, State.PassedOver]
  decide
theorem test_w_CompletionMovesReferences : opened.opened = true := by decide

/-- A reorder buffer with one frame of POC 5. -/
def held : State := { opened with rob := [⟨opened.frameOf (storePoc 5), 0⟩], robSeq := 1 }

theorem test_w_PushEvictsTheLowestPoc :
    (opened.opened = true ∧ opened.rob.length < opened.params.reorderDepth)
    ∧ (held.opened = true ∧ held.rob.length = held.params.reorderDepth) := by decide
theorem test_w_DrainOutputsInAscendingPoc : held.opened = true := by decide

/-- The VOL start code `00 00 01 20`. -/
def volCode : List Byte := [0#8, 0#8, 1#8, 0x20#8]

/-- Without a VOL; a VOL that does not parse, one without a size, one of a refused tool; and one that is loaded. -/
theorem test_w_OpenMakesAnOpenedInstance :
    (State.reset.opened = false ∧ hasVol paramsOk.extraData = false ∧ paramsOk.width ≠ 0 ∧ paramsOk.height ≠ 0)
    ∧ (hasVol ({ paramsOk with height := 0 } : CodecParameters).extraData = false
      ∧ ({ paramsOk with height := 0 } : CodecParameters).height = 0)
    ∧ (let p : CodecParameters := { paramsOk with extraData := volCode, extraVol := none }
       hasVol p.extraData = true ∧ p.extraVol = none)
    ∧ (let p : CodecParameters := { paramsOk with extraData := volCode, extraVol := some volOk, width := 0 }
       p.extraVol = some volOk ∧ (volOk.size.getD (p.width, p.height)).1 = 0)
    ∧ (let v : VolHeader := { volOk with shape := 3 }
       let p : CodecParameters := { paramsOk with extraData := volCode, extraVol := some v }
       p.extraVol = some v ∧ (v.size.getD (p.width, p.height)).1 ≠ 0 ∧ (v.size.getD (p.width, p.height)).2 ≠ 0
       ∧ v.intraMatrix = none ∧ v.interMatrix = none ∧ v.shape ≠ 0)
    ∧ (let p : CodecParameters := { paramsOk with extraData := volCode, extraVol := some volOk, width := 65535, height := 1 }
       hasVol p.extraData = true ∧ p.extraVol = some volOk ∧ volOk.size.getD (p.width, p.height) = (65535, 1)
       ∧ headerInvalid volOk = false ∧ headerRefused volOk = false) := by decide
/-- The four clauses in order. -/
theorem test_w_LoadVolWritesTheGroup :
    opened.opened = true
    ∧ (∃ w h, ({ volOk with size := some (16, 0) } : VolHeader).size = some (w, h) ∧ (w = 0 ∨ h = 0))
    ∧ (({ volOk with warpPoints := 4 } : VolHeader).size = none ∧ ({ volOk with warpPoints := 4 } : VolHeader).intraMatrix = none
      ∧ ({ volOk with warpPoints := 4 } : VolHeader).interMatrix = none ∧ 3 < ({ volOk with warpPoints := 4 } : VolHeader).warpPoints)
    ∧ (volOk.size.getD (opened.vol.width, opened.vol.height) = (opened.vol.width, opened.vol.height)
      ∧ volOk.intraMatrix = none ∧ volOk.interMatrix = none
      ∧ ¬(volOk.interlaced = true ∨ volOk.dataPartitioned = true ∨ volOk.spriteEnable = .static ∨ volOk.spriteEnable = .reserved
        ∨ volOk.shape ≠ 0 ∨ volOk.notEightBit = true ∨ 3 < volOk.warpPoints))
    ∧ ({ volOk with size := some (17, 16) } : VolHeader).size.getD (opened.vol.width, opened.vol.height)
        ≠ (opened.vol.width, opened.vol.height) :=
  ⟨by decide, ⟨16, 0, rfl, .inr rfl⟩, by decide, by decide, by decide⟩
/-- A packet of the given bytes. -/
def packet (data : List Byte) : Packet := ⟨data, 0, 0, 0, ⟨0, 1⟩, false⟩

/-- In four bytes a start code can only be the four. -/
theorem code_in_four (a b x y : Byte) (n : Nat) (e : Byte) (h : StartCodeIn [a, b, x, y] n e) : n = 0 ∧ y = e := by
  obtain ⟨-, -, -, h4⟩ := h
  match n with
  | 0 => exact ⟨rfl, by simpa using h4⟩
  | n + 1 => simp at h4

/-- The clauses in order, the last with a VOL that does not parse and one of a refused tool. -/
theorem test_w_SendPacketThatDecodesNoVop :
    (opened.opened = true ∧ (packet []).data = [])
    ∧ ((packet [0#8, 0#8, 1#8, 0xB5#8]).data ≠ []
      ∧ ∀ (a : Nat) (e : Byte), StartCodeIn (packet [0#8, 0#8, 1#8, 0xB5#8]).data a e → ¬(32 ≤ e.toNat ∧ e.toNat ≤ 47) ∧ e ≠ 0xB6#8)
    ∧ (StartCodeIn (packet volCode).data 0 0x20#8 ∧ 32 ≤ (0x20#8 : Byte).toNat ∧ (0x20#8 : Byte).toNat ≤ 47
      ∧ (∀ b : Nat, ¬StartCodeIn (packet volCode).data b 0xB6#8) ∧ (⟨some volOk, []⟩ : HeaderParse).vol = some volOk)
    ∧ (⟨none, []⟩ : HeaderParse).vol = none
    ∧ Refuses (.loadVol { volOk with interlaced := true }) (window volCode opened) .unsupported := by
  refine ⟨by decide, ⟨by decide, ?_⟩, ⟨⟨by decide, by decide, by decide, by decide⟩, by decide, by decide, ?_, by decide⟩, rfl, rfl⟩
  · intro a e h
    obtain ⟨-, rfl⟩ := code_in_four _ _ _ _ _ _ h
    decide
  · intro b h
    exact absurd (code_in_four _ _ _ _ _ _ h).2 (by decide)

/-- The VOP start code `00 00 01 B6`. -/
def vopCode : List Byte := [0#8, 0#8, 1#8, 0xB6#8]

/-- A packet of a VOL and two VOPs, and what the host makes of its headers: the first VOP carries no data, and the second does not parse or
carries none either. -/
def twoVops : List Byte := volCode ++ vopCode ++ vopCode

/-- The header of a VOP without data. -/
def emptyVop : VopParse := ⟨{ pVop.vop with vopCoded := false }, none⟩

/-- The general clauses: a VOL and two VOPs that are sent, and a second VOP that fails at its parse. -/
theorem test_w_SendPacketDecodesItsVops_packed :
    ∃ x y z : State, opened.opened = true ∧ (packet twoVops).data ≠ [] ∧ hasVol (packet twoVops).data = true
      ∧ vopOffsets (packet twoVops).data.length 0 (packet twoVops).data = [8, 12]
      ∧ (window twoVops opened).Runs (.loadVol volOk) x
      ∧ VopsSent (packet twoVops) [emptyVop, emptyVop] x y ∧ VopsSent (packet twoVops) [emptyVop] x z
      ∧ z.VopFails (packet twoVops) none .invalidData z := by
  have h (s : State) (ho : s.opened = true) (hw : s.waitKeyframe = false) (hf : (s.withHeader (packet twoVops) emptyVop.header).vopFault = none) :
      s.VopSent (packet twoVops) emptyVop (s.withHeader (packet twoVops) emptyVop.header) := by
    refine .inr ⟨fun hc => ?_, s, rfl, hf, ⟨.none, ?_⟩, rfl, rfl⟩
    · rw [State.Waits, hw] at hc
      exact absurd hc.1 (by decide)
    · show runCommand _ (s.withHeader (packet twoVops) emptyVop.header) = _
      rw [runCommand_opened _ (s.withHeader (packet twoVops) emptyVop.header) ho]
      have hd : decodeVop (s.withHeader (packet twoVops) emptyVop.header) = .ok () (s.withHeader (packet twoVops) emptyVop.header) := by
        unfold decodeVop
        rw [hf]
        rfl
      rw [bind_apply_ok _ _ _ _ _ hd]
      rfl
  let x : State := { window twoVops opened with vol := { opened.vol with timeIncRes := 30, resyncMarkerDisable := true } }
  refine ⟨x, _, _, by decide, by decide, by decide, by decide, ⟨⟨.none, ?_⟩, rfl, rfl⟩, ⟨_, h x rfl rfl (by decide), _, h _ rfl rfl (by decide), rfl⟩,
    ⟨_, h x rfl rfl (by decide), rfl⟩, rfl, rfl⟩
  rfl

/-- The hypotheses shared, then those of the four clauses for one VOP. -/
theorem test_w_SendPacketDecodesItsVops :
    (opened.opened = true ∧ (packet vopCode).data ≠ [] ∧ hasVol (packet vopCode).data = false
      ∧ vopOffsets (packet vopCode).data.length 0 (packet vopCode).data = [4])
    ∧ (({ opened with waitKeyframe := true } : State).waitKeyframe = true ∧ pVop.vop.pictureType ≠ .i)
    ∧ (iVop.vop.pictureType = .i ∧ (window vopCode iVop).vopFault = none)
    ∧ (opened.waitKeyframe = false ∧ (window vopCode { pVop with vop := { pVop.vop with fcodeFwd := 0 } }).vopFault = some .invalidData)
    ∧ (pVop.waitKeyframe = false ∧ (window vopCode pVop).VopReady) := by
  refine ⟨by decide, by decide, by decide, by decide, by decide, ?_⟩
  simp only [State.VopReady, State.RefusedTool, State.IllegalVop, State.PassedOver]
  decide
/-- The three clauses in order. -/
theorem test_w_ReceiveFrameTakesTheHead :
    ({ opened with outq := [opened.frameOf (storePoc 5)] } : State).outq = [opened.frameOf (storePoc 5)] ∧ opened.opened = true
    ∧ (opened.outq = [] ∧ ({ opened with flushing := true } : State).flushing = true) ∧ opened.flushing = false := by decide
theorem test_w_OnlyReceiveFrameSignals :
    (∃ t : State, exec .receiveFrame opened = .next t ∧ t.status = .failed .needMoreData)
    ∧ (∃ t : State, exec .receiveFrame { opened with flushing := true } = .next t ∧ t.status = .failed .eof) :=
  ⟨⟨_, rfl, rfl⟩, ⟨_, rfl, rfl⟩⟩
theorem test_w_FlushResetsStreamState : opened.opened = true := by decide
theorem test_w_CommandInWrongStateChangesNothing :
    (Instr.flush.isCommand = true ∧ (∀ p, Instr.flush ≠ .openInst p)
      ∧ (Instr.dcval 3 5).isCommand = true ∧ (∀ p, Instr.dcval 3 5 ≠ .openInst p) ∧ State.reset.opened = false) ∧ opened.opened = true :=
  ⟨⟨by decide, fun _ h => (nomatch h), by decide, fun _ h => (nomatch h), by decide⟩, by decide⟩
/-- Both outcomes occur. -/
theorem test_w_ExecStopsOnlyOffTheFrame :
    (∃ t : State, exec (.mbiWrite 0) opened = .next t) ∧ exec (.mbiWrite 1) opened = .fault .noSuchMacroblock :=
  ⟨⟨_, rfl⟩, rfl⟩
theorem test_w_DecodeInvertsEncode :
    ((Instr.mvd_32 7 true 63).inTable (.mvd 7) = true ∧ (Instr.mvd_32 7 true 63).wf = true ∧ isReserved (.mvd_32 7 true 63) = false)
    ∧ ((Instr.acInter_esc3 true 63#6 true 2047#12 true).inTable .acInter = true
      ∧ isReserved (.acInter_esc3 true 63#6 true 2047#12 true) = false) := by decide
theorem test_w_DecodedBitsAreTheEncoding :
    decode (.mvd 7) (encode (.mvd_32 7 true 63)) = .ok (.mvd_32 7 true 63) 19 ∧ 1 ≤ 7 ∧ 7 ≤ 7
    ∧ isReserved (.mvd_32 7 true 63) = false ∧ decode .dcszL (encode (.dcszL_9 0#9 true)) = .ok (.dcszL_9 0#9 true) 18
    ∧ isReserved (.dcszL_9 0#9 true) = false := by decide

/-- A state with one request. -/
def asked (r : Request) (s : State) : State := { s with inq := [r] }

/-- The four clauses in order. -/
theorem test_w_StepRunsTheDecodedInstruction :
    ((asked (.fetch .acInter) (window [0xF0#8] opened)).inq = [.fetch .acInter]
      ∧ decode .acInter (asked (.fetch .acInter) (window [0xF0#8] opened)).ahead = .ok .acInter_0_0_2 4)
    ∧ decode .acInter (asked (.fetch .acInter) (window [] opened)).ahead = .reject .windowEnds 0
    ∧ ((asked (.command .flush) opened).inq = [.command .flush] ∧ Instr.flush.isCommand = true)
    ∧ opened.inq = [] := by decide
/-- A fetch that answers next from a state in the invariant that has something to lose. -/
theorem test_w_EveryStepKeepsTheInvariant :
    (asked (.command .flush) held).Inv ∧ ∃ t : State, step (asked (.command .flush) held) = .next t := by
  refine ⟨?_, _, rfl⟩
  simp only [State.Inv, State.BpInWindow, State.MemoryCanonical, FrameStore.Canonical, Frame.Canonical, State.QuantLegal, State.FilesSized,
    State.RobBounded, State.VolLegal, State.RequestsWf]
  refine ⟨by decide, by decide, by decide, by decide, by decide, by decide, ?_⟩
  intro r h
  have : r = .command .flush := by simpa [asked] using h
  subst this
  exact (by decide : Instr.flush.wf = true)
theorem test_w_EveryStepKeepsLevelsInRange :
    let s : State := asked (.fetch .acInter) { window [0xF0#8] opened with qf := opened.qf.set 0 (-2048), ev := ⟨true, 81, 2047⟩ }
    s.LevelsLegal ∧ ∃ t : State, step s = .next t := by
  refine ⟨?_, _, rfl⟩
  simp only [State.LevelsLegal]
  decide
/-- The last sample of each plane of a frame of one macroblock is written. -/
theorem test_w_EveryStepKeepsSamplesInsideTheirPlanes :
    let s : State := asked (.command .receiveFrame) { opened with cur := { opened.cur with y := [(255, 1#8)], u := [(63, 2#8)], v := [(63, 3#8)] } }
    s.StoresInside ∧ ∃ t : State, step s = .next t := by
  refine ⟨⟨?_, ?_, ?_⟩, _, rfl⟩ <;> intro p <;> cases p <;> decide
theorem test_w_WhoMayWriteWhat :
    (∃ t : State, exec .receiveFrame opened = .next t) ∧ writesWindow .receiveFrame = false ∧ movesBp .receiveFrame = false
    ∧ writesVol .receiveFrame = false ∧ writesVop .receiveFrame = false ∧ writesReferences .receiveFrame = false
    ∧ writesCache .receiveFrame = false ∧ takesOutput .decodeVop = false ∧ State.reset.opened = false ∧ ∃ t : State, exec (.openInst paramsOk) State.reset = .next t ∧ t.opened = true :=
  ⟨⟨_, rfl⟩, by decide, by decide, by decide, by decide, by decide, by decide, by decide, by decide, _, rfl, rfl⟩

end Sys2Proof.Tests
end

section
/-! PROOFS. The scope of the block (spec/00_scope.md): the order of the bits of the window, and what one step runs. -/

namespace Sys2Proof.Machine

/-! ## Bits of the window, most significant first -/

/-- `Bit(p)` in words of the byte's number (R11). -/
theorem State.bit_eq_testBit (s : State) (p : Nat) : s.bit p = (s.bs.read (p / 8)).toNat.testBit (7 - p % 8) :=
  (BitVec.testBit_toNat _).symm

/-- The last `n` bits of byte `a`, read in place, are the `n` low bits of its number (R11): bit `n` of the byte stands
at position `8 * a + 7 - n`. -/
theorem State.bitList_byte_tail (s : State) (a n : Nat) (h : n ≤ 8) :
    s.bitList (8 * a + (8 - n)) n = toBits n (s.bs.read a).toNat := by
  induction n with
  | zero => rfl
  | succ n ih =>
    have hbyte : (8 * a + (8 - (n + 1))) / 8 = a := by omega
    have hplace : 7 - (8 * a + (8 - (n + 1))) % 8 = n := by omega
    have hnext : 8 * a + (8 - (n + 1)) + 1 = 8 * a + (8 - n) := by omega
    rw [State.bitList, toBits, State.bit_eq_testBit, hbyte, hplace, hnext, ih (by omega)]

/-- A read splits anywhere: the bits read first are the more significant ones (R11). -/
theorem State.bits_add (s : State) (p a b : Nat) : s.bits p (a + b) = s.bits p a * 2 ^ b + s.bits (p + a) b := by
  simp only [State.bits, State.bitList_append, bitsVal_append, State.bitList_length]

theorem State.bits_lt (s : State) (p n : Nat) : s.bits p n < 2 ^ n := by
  simpa only [State.bits, State.bitList_length] using bitsVal_lt (s.bitList p n)

/-- Eight bits at a byte boundary are the byte there (R72). -/
theorem State.bits_byte (s : State) (a : Nat) : s.bits (8 * a) 8 = (s.bs.read a).toNat := by
  have hlist : s.bitList (8 * a) 8 = toBits 8 (s.bs.read a).toNat := s.bitList_byte_tail a 8 le_rfl
  rw [State.bits, hlist, bitsVal_toBits_of_lt 8 _ (s.bs.read a).isLt]

/-- Sixteen bits at a byte boundary are two bytes, big-endian (R72). -/
theorem State.bits_two_bytes (s : State) (a : Nat) :
    s.bits (8 * a) 16 = 256 * (s.bs.read a).toNat + (s.bs.read (a + 1)).toNat := by
  calc s.bits (8 * a) 16
      = s.bits (8 * a) 8 * 2 ^ 8 + s.bits (8 * (a + 1)) 8 := s.bits_add (8 * a) 8 8
    _ = 256 * (s.bs.read a).toNat + (s.bs.read (a + 1)).toNat := by
      rw [State.bits_byte, State.bits_byte]
      omega

/-- Settles O10, from the split of a read and the bits of one byte. -/
theorem bitsAreMostSignificantFirst : Obligations.BitsAreMostSignificantFirst := by
  intro s
  exact ⟨s.bits_add, s.bits_lt, s.bits_byte, s.bits_two_bytes, s.bit_eq_testBit⟩

/-! ## What a step runs, by the request that stands first -/

/-- An idle block stays as it is (R36). -/
theorem step_idle {s : State} (hq : s.inq = []) : step s = .next s := by
  rw [step, hq]

/-- A command request runs the command, with the request taken (R2). -/
theorem step_command {s : State} {i : Instr} {rest : List Request} (hq : s.inq = .command i :: rest)
    (hi : i.isCommand = true) : step s = exec i { s with inq := rest } := by
  simp only [step, hq, hi, if_true]

/-- A fetch runs the instruction that the bits at `BP` decode to (R102). -/
theorem step_fetch_ok {s : State} {t : Table} {rest : List Request} {i : Instr} {n : Nat}
    (hq : s.inq = .fetch t :: rest) (hd : decode t s.ahead = .ok i n) : step s = exec i { s with inq := rest } := by
  simp only [step, hq, hd]

/-- A fetch of bits that are no instruction raises `InvalidData`, with `BP` after the reads that succeeded (R104). -/
theorem step_fetch_reject {s : State} {t : Table} {rest : List Request} {e : Reject} {used : Nat}
    (hq : s.inq = .fetch t :: rest) (hd : decode t s.ahead = .reject e used) :
    step s = .next { s with inq := rest, bp := s.bp + used, status := .failed .invalidData, result := .none } := by
  simp only [step, hq, hd, State.advance, State.raise]

/-- Settles O54, one clause for each form of the request that stands first. -/
theorem stepRunsTheDecodedInstruction : Obligations.StepRunsTheDecodedInstruction := by
  refine ⟨?fetched, ?rejected, ?commanded, ?idle⟩
  case fetched => exact fun _ _ _ _ _ => step_fetch_ok
  case rejected => exact fun _ _ _ _ _ => step_fetch_reject
  case commanded => exact fun _ _ _ => step_command
  case idle => exact fun _ => step_idle

end Sys2Proof.Machine
end

section
/-! PROOFS. What the decoder takes and what it can answer: every parse counts the bits it takes, whether it ends with a
value or fails (R140, R470), and an instruction read from the window is a codeword, never a command (R2). -/

namespace Sys2Proof.Machine

/-! ## Every parse counts what it takes -/

theorem Dec.counts_ite {α : Type} {c : Prop} [Decidable c] {x y : Dec α} (hx : Dec.Counts x) (hy : Dec.Counts y) :
    Dec.Counts (if c then x else y) := by
  split
  · exact hx
  · exact hy

theorem Dec.counts_parseMvd (f : Nat) : Dec.Counts (parseMvd f) :=
  Dec.counts_bind (Dec.counts_vlc _ _) fun _ =>
    Dec.counts_ite (Dec.counts_pure _)
      (Dec.counts_bind Dec.counts_takeBit fun _ => Dec.counts_bind (Dec.counts_takeBits _) fun _ => Dec.counts_pure _)

theorem Dec.counts_parseDc (t : List DcRow) : Dec.Counts (parseDc t) :=
  Dec.counts_bind (Dec.counts_vlc _ _) fun _ => Dec.counts_bind (Dec.counts_takeBits _) fun _ =>
    Dec.counts_ite (Dec.counts_bind Dec.counts_takeBit fun _ => Dec.counts_pure _) (Dec.counts_pure _)

theorem Dec.counts_parseInner (t : AcSel) : Dec.Counts (parseInner t) :=
  Dec.counts_bind (Dec.counts_vlc _ _) fun o => by
    cases o with
    | some r => exact Dec.counts_pure r
    | none => exact Dec.counts_throw _

theorem Dec.counts_parseAc (t : AcSel) : Dec.Counts (parseAc t) := by
  have inner : ∀ form : AcRow → Bool → AcForm, Dec.Counts (do
      let r ← parseInner t
      let s ← takeBit
      return form r s) := fun _ =>
    Dec.counts_bind (Dec.counts_parseInner t) fun _ => Dec.counts_bind Dec.counts_takeBit fun _ => Dec.counts_pure _
  refine Dec.counts_bind (Dec.counts_vlc _ _) fun o => ?_
  cases o with
  | some r => exact Dec.counts_pure _
  | none =>
    refine Dec.counts_bind Dec.counts_takeBit fun _ => Dec.counts_ite (inner .esc1) ?_
    refine Dec.counts_bind Dec.counts_takeBit fun _ => Dec.counts_ite (inner .esc2) ?_
    exact Dec.counts_bind Dec.counts_takeBit fun _ => Dec.counts_bind (Dec.counts_takeBits _) fun _ =>
      Dec.counts_bind Dec.counts_takeBit fun _ => Dec.counts_bind (Dec.counts_takeBits _) fun _ =>
      Dec.counts_bind Dec.counts_takeBit fun _ => Dec.counts_pure _

theorem Dec.counts_parsePrefix (fuel len : Nat) : Dec.Counts (parsePrefix fuel len) := by
  induction fuel generalizing len with
  | zero => exact Dec.counts_throw _
  | succ fuel ih =>
    exact Dec.counts_bind Dec.counts_takeBit fun _ =>
      Dec.counts_ite (Dec.counts_pure _) (Dec.counts_ite (Dec.counts_throw _) (ih _))

theorem Dec.counts_parseTraj : Dec.Counts parseTraj :=
  Dec.counts_bind (Dec.counts_parsePrefix _ _) fun _ => Dec.counts_bind (Dec.counts_takeBits _) fun _ => Dec.counts_pure _

theorem Dec.counts_parseStartCode : Dec.Counts parseStartCode := fun c => by
  have h := Dec.counts_takeBits 32 c
  unfold parseStartCode
  cases hs : takeBits 32 c with
  | ok v d =>
    rw [hs] at h
    dsimp only
    split
    · exact h
    · rfl
  | error e d => rfl

theorem Dec.counts_parseResync : Dec.Counts parseResync := fun c => by
  unfold parseResync
  dsimp only
  split
  · rename_i hm
    have hend := (List.head?_eq_some_iff.1 hm.2.2.2.2).choose_spec
    have hlen := congrArg List.length hend
    simp only [List.length_drop, List.length_cons] at hlen
    simp only [cursorOf_ok, Cursor.skip, List.length_drop]
    omega
  · rfl

theorem Dec.counts_parseInstr (t : Table) : Dec.Counts (parseInstr t) := by
  cases t with
  | mcbpcI => exact Dec.counts_bind (Dec.counts_vlc _ _) fun _ => Dec.counts_pure _
  | mcbpcP => exact Dec.counts_bind (Dec.counts_vlc _ _) fun _ => Dec.counts_pure _
  | cbpy => exact Dec.counts_bind (Dec.counts_vlc _ _) fun _ => Dec.counts_pure _
  | mvd f => exact Dec.counts_bind (Dec.counts_parseMvd f) fun _ => Dec.counts_pure _
  | dcszL => exact Dec.counts_bind (Dec.counts_parseDc _) fun _ => Dec.counts_pure _
  | dcszC => exact Dec.counts_bind (Dec.counts_parseDc _) fun _ => Dec.counts_pure _
  | acIntra => exact Dec.counts_bind (Dec.counts_parseAc _) fun _ => Dec.counts_pure _
  | acInter => exact Dec.counts_bind (Dec.counts_parseAc _) fun _ => Dec.counts_pure _
  | modb => exact Dec.counts_bind (Dec.counts_vlc _ _) fun _ => Dec.counts_pure _
  | bmbtype => exact Dec.counts_bind (Dec.counts_vlc _ _) fun _ => Dec.counts_pure _
  | dbquant => exact Dec.counts_bind (Dec.counts_vlc _ _) fun _ => Dec.counts_pure _
  | notCoded => exact Dec.counts_bind Dec.counts_takeBit fun _ => Dec.counts_pure _
  | acPred => exact Dec.counts_bind Dec.counts_takeBit fun _ => Dec.counts_pure _
  | mcsel => exact Dec.counts_bind Dec.counts_takeBit fun _ => Dec.counts_pure _
  | dquant => exact Dec.counts_bind (Dec.counts_vlc _ _) fun _ => Dec.counts_pure _
  | cbpb => exact Dec.counts_bind (Dec.counts_takeBits _) fun _ => Dec.counts_pure _
  | traj => exact Dec.counts_bind Dec.counts_parseTraj fun _ => Dec.counts_pure _
  | sc => exact Dec.counts_bind Dec.counts_parseStartCode fun _ => Dec.counts_pure _
  | resync => exact Dec.counts_bind Dec.counts_parseResync fun _ => Dec.counts_pure _

/-- The reads before a rejection stay inside the window (R470). -/
theorem decode_reject_used {t : Table} {s : State} {e : Reject} {n : Nat} (h : decode t s.ahead = .reject e n) :
    n ≤ 8 * s.bslen - s.bp := by
  have hc := Dec.counts_parseInstr t ⟨s.ahead, 0⟩
  have hl := s.ahead_length
  unfold decode at h
  cases hp : parseInstr t ⟨s.ahead, 0⟩ with
  | ok i c => rw [hp] at h; cases h
  | error e c =>
    rw [hp] at h hc
    cases h
    simp only [cursorOf_error] at hc
    omega

/-! ## A decoded instruction is a codeword -/

/-- Where a parse ends with a value, the value has property `p`. -/
def Dec.Answers {α : Type} (p : α → Prop) (d : Dec α) : Prop := ∀ c v e, d c = .ok v e → p v

theorem Dec.answers_pure {α : Type} {p : α → Prop} {a : α} (h : p a) : Dec.Answers p (pure a : Dec α) := fun _ _ _ e => by
  cases e
  exact h

theorem Dec.answers_bind {α β : Type} {p : α → Prop} {q : β → Prop} {x : Dec α} {f : α → Dec β} (hx : Dec.Answers p x)
    (hf : ∀ a, p a → Dec.Answers q (f a)) : Dec.Answers q (x >>= f) := fun c v e h => by
  obtain ⟨a, u, h1, h2⟩ := (Dec.bind_ok_iff x f c e v).1 h
  exact hf a (hx c a u h1) u v e h2

/-- A parse whose value is only handed to an instruction that is a codeword for every such value. -/
theorem Dec.answers_codeword {α : Type} {p : α → Prop} {x : Dec α} {f : α → Instr} (hx : Dec.Answers p x)
    (hf : ∀ a, p a → (f a).isCommand = false) : Dec.Answers (fun i => i.isCommand = false) (do return f (← x)) :=
  Dec.answers_bind hx fun a ha => Dec.answers_pure (hf a ha)

theorem Dec.answers_true {α : Type} (d : Dec α) : Dec.Answers (fun _ => True) d := fun _ _ _ _ => trivial

theorem Dec.answers_vlc {α : Type} (code : α → List Bool) (l : List α) : Dec.Answers (fun r => r ∈ l) (vlc code l) :=
  fun _ _ _ h => (vlc_ok h).1

theorem codewords_of_all {α : Type} {l : List α} {f : α → Instr} (h : l.all (fun r => !(f r).isCommand) = true) :
    ∀ r ∈ l, (f r).isCommand = false := fun r hr => by
  simpa using List.all_eq_true.1 h r hr

theorem acRow_codeword (t : AcSel) : ∀ r ∈ t.rows, r.ctor.isCommand = false := by
  cases t with
  | intra => exact codewords_of_all (l := acIntraTable) rfl
  | inter => exact codewords_of_all (l := acInterTable) rfl

theorem AcForm.instr_codeword (t : AcSel) (a : AcForm) (h : AcForm.rowIn t a) : (a.instr t).isCommand = false := by
  cases a with
  | row r => cases t <;> exact acRow_codeword _ r h
  | esc1 r s => cases t <;> rfl
  | esc2 r s => cases t <;> rfl
  | esc3 last run m1 level m2 => cases t <;> rfl

theorem trajInstr_codeword (len v : Nat) : (trajInstr len v).isCommand = false := by
  unfold trajInstr
  split
  · rename_i r hr
    exact codewords_of_all (l := trajTable) (f := fun r => r.ctor v) rfl r (List.mem_of_find?_eq_some hr)
  · rfl

theorem parseInstr_codeword (t : Table) : Dec.Answers (fun i => i.isCommand = false) (parseInstr t) := by
  cases t with
  | mcbpcI => exact Dec.answers_codeword (Dec.answers_vlc _ _) (codewords_of_all rfl)
  | mcbpcP => exact Dec.answers_codeword (Dec.answers_vlc _ _) (codewords_of_all rfl)
  | cbpy => exact Dec.answers_codeword (Dec.answers_vlc _ _) (codewords_of_all rfl)
  | mvd f =>
    exact Dec.answers_codeword (p := fun a => a.1 ∈ mvdTable) (fun _ _ _ h => (parseMvd_ok h).1)
      (fun a ha => codewords_of_all (f := fun r => r.ctor f a.2.1 a.2.2) rfl a.1 ha)
  | dcszL =>
    exact Dec.answers_codeword (p := fun a => a.1 ∈ dcszLTable) (fun _ _ _ h => (parseDc_ok h).1)
      (fun a ha => codewords_of_all (f := fun r => r.ctor a.2.1 a.2.2) rfl a.1 ha)
  | dcszC =>
    exact Dec.answers_codeword (p := fun a => a.1 ∈ dcszCTable) (fun _ _ _ h => (parseDc_ok h).1)
      (fun a ha => codewords_of_all (f := fun r => r.ctor a.2.1 a.2.2) rfl a.1 ha)
  | acIntra => exact Dec.answers_codeword (fun _ _ _ h => (parseAc_ok h).1) (AcForm.instr_codeword .intra)
  | acInter => exact Dec.answers_codeword (fun _ _ _ h => (parseAc_ok h).1) (AcForm.instr_codeword .inter)
  | modb => exact Dec.answers_codeword (Dec.answers_vlc _ _) (codewords_of_all rfl)
  | bmbtype => exact Dec.answers_codeword (Dec.answers_vlc _ _) (codewords_of_all rfl)
  | dbquant => exact Dec.answers_codeword (Dec.answers_vlc _ _) (codewords_of_all rfl)
  | notCoded => exact Dec.answers_codeword (Dec.answers_true _) (fun _ _ => rfl)
  | acPred => exact Dec.answers_codeword (Dec.answers_true _) (fun _ _ => rfl)
  | mcsel => exact Dec.answers_codeword (Dec.answers_true _) (fun _ _ => rfl)
  | dquant => exact Dec.answers_codeword (Dec.answers_vlc _ _) (codewords_of_all rfl)
  | cbpb => exact Dec.answers_codeword (Dec.answers_true _) (fun _ _ => rfl)
  | traj => exact Dec.answers_codeword (Dec.answers_true parseTraj) (fun a _ => trajInstr_codeword a.1 a.2)
  | sc => exact Dec.answers_codeword (Dec.answers_true _) (fun _ _ => rfl)
  | resync => exact Dec.answers_codeword (Dec.answers_true _) (fun _ _ => rfl)

/-- An instruction read from bits is a codeword: commands have none (R2). -/
theorem decode_codeword {t : Table} {b : List Bool} {i : Instr} {n : Nat} (h : decode t b = .ok i n) :
    i.isCommand = false := by
  unfold decode at h
  split at h
  · rename_i j c hj
    cases h
    exact parseInstr_codeword t _ _ _ hj
  · cases h

end Sys2Proof.Machine
end

section
/-! PROOFS. What a codeword means: how each codeword runs, and that the events it can write are in the ranges of R25. -/

namespace Sys2Proof.Machine

/-! ## Events -/

/-- An event whose level and run are in the ranges that R25 gives `EV`. -/
def Event.Legal (e : Event) : Prop := -2048 ≤ e.level ∧ e.level ≤ 2047 ∧ e.run ≤ 81

/-- The largest run and level of the two AC tables (R206, R207). -/
theorem acRow_small (t : AcSel) : ∀ r ∈ t.rows, r.run ≤ 40 ∧ r.level ≤ 27 := by
  cases t with
  | intra => exact (by decide : ∀ r ∈ acIntraTable, r.run ≤ 40 ∧ r.level ≤ 27)
  | inter => exact (by decide : ∀ r ∈ acInterTable, r.run ≤ 40 ∧ r.level ≤ 27)

theorem lmax_le (t : AcSel) (last : Bool) (run : Nat) : lmax t last run ≤ 27 := by
  refine List.foldlRecOn t.rows _ (motive := fun m => m ≤ 27) (Nat.zero_le _) (fun m hm r hr => ?_)
  split
  · exact max_le hm (acRow_small t r hr).2
  · exact hm

theorem rmax_le (t : AcSel) (last : Bool) (level : Nat) : rmax t last level ≤ 40 := by
  refine List.foldlRecOn t.rows _ (motive := fun m => m ≤ 40) (Nat.zero_le _) (fun m hm r hr => ?_)
  split
  · exact max_le hm (acRow_small t r hr).1
  · exact hm

/-- The number of a row names a row of the table. -/
theorem AcSel.row_mem (t : AcSel) (n : Fin 102) : t.row n ∈ t.rows := by
  cases t with
  | intra =>
    have hlen : acIntraTable.length = 102 := rfl
    simp [AcSel.row, AcSel.rows, hlen]
  | inter =>
    have hlen : acInterTable.length = 102 := rfl
    simp [AcSel.row, AcSel.rows, hlen]

theorem signed_bounds (s : Bool) (v : Nat) (h : v ≤ 2047) : -2048 ≤ signed s v ∧ signed s v ≤ 2047 := by
  unfold signed
  split <;> omega

theorem rowEvent_legal {run level : Nat} (last s : Bool) (hr : run ≤ 40) (hl : level ≤ 27) :
    (rowEvent last run level s).Legal := by
  obtain ⟨hlow, hhigh⟩ := signed_bounds s level (by omega)
  exact ⟨hlow, hhigh, hr.trans (by decide)⟩

theorem esc1Event_legal (t : AcSel) (s : Bool) {r : AcRow} (hr : r ∈ t.rows) : (esc1Event t r s).Legal := by
  obtain ⟨hrun, hlevel⟩ := acRow_small t r hr
  have hmax := lmax_le t r.last r.run
  obtain ⟨hlow, hhigh⟩ := signed_bounds s (r.level + lmax t r.last r.run) (by omega)
  exact ⟨hlow, hhigh, hrun.trans (by decide)⟩

theorem esc2Event_legal (t : AcSel) (s : Bool) {r : AcRow} (hr : r ∈ t.rows) : (esc2Event t r s).Legal := by
  obtain ⟨hrun, hlevel⟩ := acRow_small t r hr
  have hmax := rmax_le t r.last r.level
  obtain ⟨hlow, hhigh⟩ := signed_bounds s r.level (by omega)
  refine ⟨hlow, hhigh, ?_⟩
  show r.run + rmax t r.last r.level + 1 ≤ 81
  omega

theorem esc3Event_legal (last : Bool) (run : BitVec 6) (level : BitVec 12) : (esc3Event last run level).Legal := by
  have hlow := BitVec.le_toInt level
  have hhigh := BitVec.toInt_lt (x := level)
  have hrun := run.isLt
  refine ⟨hlow, ?_, ?_⟩
  · show level.toInt ≤ 2047
    omega
  · show run.toNat ≤ 81
    omega

/-! ## The kinds of codeword -/

/-- What a codeword of the macroblock header writes: nothing, `MB`, or `QP` by a clamped offset (R160 to R183). -/
inductive HeaderWrite (s : State) : State → Prop where
  | nothing : HeaderWrite s s
  | mb (m : MbRegs) : HeaderWrite s (s.setMb m)
  | quant (d : Int) : HeaderWrite s (s.offsetQp d)

theorem setMcbpc_write (m : Mcbpc) (s : State) : HeaderWrite s (s.setMcbpc m) := by
  cases m with
  | mb mode cbpc => exact .mb _
  | stuffing => exact .nothing

theorem setModb_write (m : Modb) (s : State) : HeaderWrite s (s.setModb m) := by
  cases m with
  | directNoneMv => exact .mb _
  | typeOnly => exact .mb _
  | typeAndCbpb => exact .nothing

theorem setNotCoded_write (b : Bool) (s : State) : HeaderWrite s (s.setNotCoded b) := by
  cases b with
  | true => exact .mb _
  | false => exact .nothing

theorem setCbpy_write (c : BitVec 4) (s : State) : HeaderWrite s (s.setCbpy c) := .mb _

theorem setBtype_write (t : BType) (s : State) : HeaderWrite s (s.setBtype t) := .mb _

theorem setAcPred_write (b : Bool) (s : State) : HeaderWrite s (s.setAcPred b) := .mb _

theorem setMcsel_write (b : Bool) (s : State) : HeaderWrite s (s.setMcsel b) := .mb _

theorem setCbp_write (v : BitVec 6) (s : State) : HeaderWrite s (s.setCbp v) := .mb _

/-- How a codeword runs: a header codeword writes its field; a value codeword (R106, R107, R109) writes nothing; a row
of an AC table and an escape write an event (R212); a start code and a resync marker are only recognized (R130). -/
inductive CodewordMeaning (i : Instr) : Prop where
  | header {n : Nat} {g : State → State} {r : Result} (hg : ∀ s, HeaderWrite s (g s))
      (hx : ∀ s, exec i s = runCode n g r s)
  | value {l : List Nat} {r : Result} (hx : ∀ s, exec i s = runReads l (fun s => s) r s)
  | row {n : Nat} {last : Bool} {run level : Nat} (hx : ∀ s, exec i s = runAcRow n last run level s) (hr : run ≤ 40)
      (hl : level ≤ 27)
  | escape {l : List Nat} {e : Event} (hx : ∀ s, exec i s = runEscape l e s) (he : e.Legal)
  | pattern {f : State → Result} (hx : ∀ s, exec i s = .next (s.finish (f s)))

/-- The codewords of the AC tables: six escapes, and 204 rows, each with a run and a level of its own. An instruction of
another table is none. -/
theorem acCodeword_meaning (i : Instr) (h : (i.inTable .acIntra || i.inTable .acInter) = true) : CodewordMeaning i := by
  cases i
  case acIntra_esc1 r s => exact .escape (fun _ => rfl) (esc1Event_legal .intra s (AcSel.row_mem _ r))
  case acIntra_esc2 r s => exact .escape (fun _ => rfl) (esc2Event_legal .intra s (AcSel.row_mem _ r))
  case acIntra_esc3 l r _ v _ => exact .escape (fun _ => rfl) (esc3Event_legal l r v)
  case acInter_esc1 r s => exact .escape (fun _ => rfl) (esc1Event_legal .inter s (AcSel.row_mem _ r))
  case acInter_esc2 r s => exact .escape (fun _ => rfl) (esc2Event_legal .inter s (AcSel.row_mem _ r))
  case acInter_esc3 l r _ v _ => exact .escape (fun _ => rfl) (esc3Event_legal l r v)
  all_goals first
    | exact (Bool.false_ne_true h).elim
    | exact .row (fun _ => rfl) (by decide) (by decide)

/-- Every codeword has one of the five meanings. Beside the AC tables and the commands, which are no case here, these are
the value codewords and the header codewords, the latter told apart by the register they write. -/
theorem codeword_meaning (i : Instr) (h : i.isCommand = false) : CodewordMeaning i := by
  cases hac : i.inTable .acIntra || i.inTable .acInter with
  | true => exact acCodeword_meaning i hac
  | false =>
    cases i
    case sc c => exact .pattern (fun _ => rfl)
    case resync k f => exact .pattern (fun _ => rfl)
    case notCoded b => exact .header (setNotCoded_write b) (fun _ => rfl)
    case acPred b => exact .header (setAcPred_write b) (fun _ => rfl)
    case mcsel b => exact .header (setMcsel_write b) (fun _ => rfl)
    case cbpb v => exact .header (setCbp_write v) (fun _ => rfl)
    all_goals first
      | exact (Bool.false_ne_true hac.symm).elim
      | exact (Bool.false_ne_true h.symm).elim
      | exact .value (fun _ => rfl)
      | exact .header (setMcbpc_write _) (fun _ => rfl)
      | exact .header (setCbpy_write _) (fun _ => rfl)
      | exact .header (setModb_write _) (fun _ => rfl)
      | exact .header (fun _ => .quant _) (fun _ => rfl)
      | exact .header (setBtype_write _) (fun _ => rfl)
      | exact .header (fun _ => .nothing) (fun _ => rfl)

end Sys2Proof.Machine
end

section
/-! PROOFS. What an instruction can do, said once: `Micro i s t` is one elementary change that instruction `i` may make,
with what the model checks before it, and every instruction is a sequence of such changes. An invariant, or a register
that an instruction may not write, is then a matter of the elementary changes alone. -/

namespace Sys2Proof.Machine

/-! ## Elementary changes -/

/-- `t` is `s` but for registers that no invariant and no write permission speaks of. -/
def State.SameButScratch (s t : State) : Prop :=
  t = { s with
    coef := t.coef, residual := t.residual, pred := t.pred, mb := t.mb, pmvF := t.pmvF, pmvB := t.pmvB, mbk := t.mbk
    fail := t.fail, gmc := t.gmc, flushing := t.flushing, waitKeyframe := t.waitKeyframe, status := t.status
    result := t.result }

/-- One elementary change that instruction `i` can make in state `s`. The premises named `hi` say which instructions
make it, the others what the model has checked or clamped by then; a premise that itself has a condition is one that
only a legal state or operand guarantees. -/
inductive Micro (i : Instr) (s : State) : State → Prop where
  /-- registers without an invariant -/
  | scratch {t : State} (h : s.SameButScratch t) : Micro i s t
  /-- `BP` moves inside the window, over bits read or by `SET_BP` (R20, R130) -/
  | placeBp (p : Nat) (hi : movesBp i = true) (hp : p ≤ 8 * s.bslen) : Micro i s { s with bp := p }
  /-- `QP`, clamped or from the VOP header (R26, R172) -/
  | quant (q : Nat) (hq : s.QuantLegal → 1 ≤ q ∧ q ≤ 31) : Micro i s (s.setQp q)
  /-- `PREV_QUANT` (R26) -/
  | prevQuant (q : Nat) (hq : s.QuantLegal → q ≤ 31) : Micro i s { s with prevQuant := q }
  /-- `EV` (R212) -/
  | event (e : Event) (he : e.Legal) : Micro i s (s.setEv e)
  /-- levels, from `EV` or clamped (R216, R286, R287) -/
  | levels (q : Vector Int 64) (hq : s.LevelsLegal → ∀ j : Fin 64, -2048 ≤ q[j] ∧ q[j] ≤ 2047) : Micro i s (s.setQf q)
  /-- slots of `PC` (R288) -/
  | cache (l : List PcSlot) (hi : writesCache i = true) (hl : l.length = s.pc.length) : Micro i s { s with pc := l }
  /-- entries of `MBI` (R324), or all of them anew (R380) -/
  | mbInfo (l : List MbInfo) (hl : l.length = s.mbi.length ∨ l.length = s.mbCount) : Micro i s { s with mbi := l }
  /-- a block of a macroblock of the frame, in `CUR` (R312) -/
  | block (k : Nat) (b : Fin 6) (v : Vector Byte 64) (hk : k < s.mbCount) : Micro i s (s.writeBlock k b v)
  /-- the valid bit and the metadata of `CUR` (R380) -/
  | curInfo (v : Bool) (m : FrameInfo) : Micro i s { s with cur := { s.cur with valid := v, info := m } }
  /-- the references move (R385) -/
  | references (hi : writesReferences i = true) :
      Micro i s { s with refmv := s.mbi, refmvValid := true, refOld := s.refNew, refNew := s.cur }
  /-- a store enters the reorder buffer (R390) -/
  | push (r : StoreSel) : Micro i s (s.push (s.store r))
  /-- the reorder buffer is emptied (R391) -/
  | drain : Micro i s s.drain
  /-- the window of a packet (R426) -/
  | window (data : List Byte) (hi : writesWindow i = true) (hb : movesBp i = true) : Micro i s (s.loadWindow data)
  /-- a VOL without a zero size, a zero matrix entry or a refused tool (R424, R466) -/
  | vol (v : VolHeader) (hi : writesVol i = true) (hv : headerInvalid v = false) (hr : headerRefused v = false) :
      Micro i s (s.applyVol v)
  /-- a VOP header (R425) -/
  | vop (h : VopHeader) (hi : writesVop i = true) (hq : i.wf = true → h.quant ≤ 31) : Micro i s (s.loadVop h)
  /-- the head of `OUTQ` is taken (R430) -/
  | output (f : Frame) (rest : List Frame) (hi : takesOutput i = true) (ho : s.outq = f :: rest) :
      Micro i s { s with outq := rest }
  /-- `FLUSH` (R38) -/
  | flush (hi : i = .flush) : Micro i s s.flush
  /-- `OPEN` with a size (R422) -/
  | opening (p : CodecParameters) (w h : Nat) (hi : i = .openInst p) (hc : s.opened = false) (hw : w ≠ 0) (hh : h ≠ 0) :
      Micro i s (s.openWith w h)

/-- Elementary changes of `i`, one after another. -/
abbrev MicroSteps (i : Instr) : State → State → Prop := Relation.ReflTransGen (Micro i)

/-- Elementary changes that keep the number of macroblocks, made where `k` is a macroblock of the frame. -/
def Within (i : Instr) (k : Nat) (s t : State) : Prop := k < s.mbCount → MicroSteps i s t ∧ t.mbCount = s.mbCount

section
variable {i : Instr} {k : Nat} {s t u : State}

theorem MicroSteps.of_scratch (h : s.SameButScratch t) : MicroSteps i s t := .single (.scratch h)

theorem MicroSteps.placeBp (hi : movesBp i = true) {p : Nat} (hp : p ≤ 8 * s.bslen) :
    MicroSteps i s { s with bp := p } := .single (.placeBp p hi hp)

/-- `BP` over bits of the window; no bit taken is no change, wherever `BP` stands. -/
theorem MicroSteps.advance (hi : movesBp i = true) {n : Nat} (hn : n ≤ 8 * s.bslen - s.bp) : MicroSteps i s (s.advance n) := by
  cases n with
  | zero => exact .refl
  | succ n => exact MicroSteps.placeBp hi (by omega)

theorem adjustQuant_bounds (q : Nat) (d : Int) : 1 ≤ adjustQuant q d ∧ adjustQuant q d ≤ 31 := by
  rw [adjustQuant_eq]
  unfold within
  omega

theorem MicroSteps.offsetQp (d : Int) : MicroSteps i s (s.offsetQp d) :=
  .single (.quant _ fun _ => adjustQuant_bounds s.qp d)

theorem Within.refl (s : State) : Within i k s s := fun _ => ⟨.refl, rfl⟩

theorem Within.trans (s t u : State) (h : Within i k s t) (g : Within i k t u) : Within i k s u := fun hk => by
  obtain ⟨h1, h2⟩ := h hk
  obtain ⟨g1, g2⟩ := g (h2 ▸ hk)
  exact ⟨h1.trans g1, g2.trans h2⟩

theorem Within.of_steps (h : MicroSteps i s t) (hc : t.mbCount = s.mbCount := by rfl) : Within i k s t := fun _ => ⟨h, hc⟩

theorem Within.of_micro (h : Micro i s t) (hc : t.mbCount = s.mbCount := by rfl) : Within i k s t := .of_steps (.single h) hc

theorem Within.of_scratch (h : s.SameButScratch t) : Within i k s t :=
  .of_steps (.of_scratch h) (by rw [show t = _ from h]; rfl)

end

/-! ## Ways to put operations together -/

section
variable {α β : Type} {i : Instr} {k : Nat}

/-- A bind whose second part may use what its first part answered. -/
theorem Act.rel_bind_of_ok {R : State → State → Prop} (ht : ∀ s t u, R s t → R t u → R s u) {x : Act α} {f : α → Act β}
    (hx : Act.Rel R x) (hf : ∀ s a u, x s = .ok a u → R u (stateOf (f a u))) : Act.Rel R (x >>= f) := fun s => by
  have h := hx s
  cases hs : x s with
  | ok a u =>
    rw [hs] at h
    rw [bind_apply_ok _ _ _ _ _ hs]
    exact ht s u _ h (hf s a u hs)
  | error e u =>
    rw [hs] at h
    rw [bind_apply_error _ _ _ _ _ hs]
    exact h

theorem Act.within_pure (a : α) : Act.Rel (Within i k) (pure a : Act α) := Act.rel_pure Within.refl a

theorem Act.within_get : Act.Rel (Within i k) (get : Act State) := Act.rel_get Within.refl

theorem Act.within_raise (e : Kind) : Act.Rel (Within i k) (raiseKind e : Act α) := Act.rel_raise Within.refl e

theorem Act.within_bind {x : Act α} {f : α → Act β} (hx : Act.Rel (Within i k) x) (hf : ∀ a, Act.Rel (Within i k) (f a)) :
    Act.Rel (Within i k) (x >>= f) := Act.rel_bind Within.trans hx hf

theorem Act.within_update {g : State → State} (hg : ∀ s, Within i k s (g s)) : Act.Rel (Within i k) (update g) :=
  Act.rel_update hg

theorem Act.within_scratch {g : State → State} (hg : ∀ s : State, s.SameButScratch (g s) := by intro; rfl) :
    Act.Rel (Within i k) (update g) := Act.rel_update fun s => Within.of_scratch (hg s)

theorem Act.within_forEach (l : List α) {f : α → Act Unit} (hf : ∀ a, Act.Rel (Within i k) (f a)) :
    Act.Rel (Within i k) (forEach l f) := Act.rel_forEach Within.refl Within.trans l hf

theorem Act.steps_bind {x : Act α} {f : α → Act β} (hx : Act.Rel (MicroSteps i) x) (hf : ∀ a, Act.Rel (MicroSteps i) (f a)) :
    Act.Rel (MicroSteps i) (x >>= f) := Act.rel_bind (fun _ _ _ => .trans) hx hf

theorem Act.steps_pure (a : α) : Act.Rel (MicroSteps i) (pure a : Act α) := Act.rel_pure (fun _ => .refl) a

theorem Act.steps_scratch {g : State → State} (hg : ∀ s : State, s.SameButScratch (g s) := by intro; rfl) :
    Act.Rel (MicroSteps i) (update g) := Act.rel_update fun s => MicroSteps.of_scratch (hg s)

theorem Act.steps_parse (hi : movesBp i = true) {d : Dec α} (hd : Dec.Counts d) : Act.Rel (MicroSteps i) (parse d) :=
  Act.rel_parse d hd fun _ _ hn => MicroSteps.advance hi hn

theorem Act.steps_readBits (hi : movesBp i = true) (n : Nat) : Act.Rel (MicroSteps i) (readBits n) :=
  Act.rel_readBits (fun _ => .refl) n fun _ hn => MicroSteps.advance hi (by omega)

theorem Act.within_parse (hi : movesBp i = true) {d : Dec α} (hd : Dec.Counts d) : Act.Rel (Within i k) (parse d) :=
  Act.rel_parse d hd fun _ _ hn => .of_steps (MicroSteps.advance hi hn)

theorem Act.within_readBits (hi : movesBp i = true) (n : Nat) : Act.Rel (Within i k) (readBits n) :=
  Act.rel_readBits Within.refl n fun _ hn => .of_steps (MicroSteps.advance hi (by omega))

theorem Act.within_readBit (hi : movesBp i = true) : Act.Rel (Within i k) readBit :=
  Act.within_bind (Act.within_readBits hi 1) fun _ => Act.within_pure _

end

/-! ## Blocks -/

section
variable {i : Instr} {k : Nat}

theorem placeLevel_within (s : State) (scan : Scan) (p : Fin 64) : Within i k s (s.placeLevel scan p) := by
  refine .of_micro (.levels _ fun hs j => ?_)
  obtain ⟨hqf, hlow, hhigh, -⟩ := hs
  show -2048 ≤ (s.qf.set (scan.table[p]).val s.ev.level)[j.val] ∧ (s.qf.set (scan.table[p]).val s.ev.level)[j.val] ≤ 2047
  rw [Vector.getElem_set]
  split
  · exact ⟨hlow, hhigh⟩
  · exact hqf j

theorem clearLevels_within (s : State) : Within i k s (s.setQf (Vector.replicate 64 0)) :=
  .of_micro (.levels _ fun _ j => by simp)

theorem dcRecon_steps (s : State) (b : Fin 6) (diff pr : Int) : MicroSteps i s (s.dcRecon b diff pr) := by
  refine .tail (.single (.levels (s.dcRecon b diff pr).qf fun hs j => ?_)) (.scratch (t := s.dcRecon b diff pr) rfl)
  show -2048 ≤ (s.qf.set 0 (clampCoef _))[j.val] ∧ (s.qf.set 0 (clampCoef _))[j.val] ≤ 2047
  rw [Vector.getElem_set]
  split
  · exact clampCoef_bounds _
  · exact hs.1 j

theorem acPredict_steps (s : State) (d : Direction) (n : Neighbour) : MicroSteps i s (s.acPredict d n) := by
  unfold State.acPredict
  split
  · refine .single (.levels _ fun hs j => ?_)
    simp only [Fin.getElem_fin, Vector.getElem_ofFn]
    split
    · exact clampCoef_bounds _
    · exact hs.1 j
  · exact .refl

theorem pcUpdate_steps (hc : writesCache i = true) (s : State) (k : Nat) (b : Fin 6) : MicroSteps i s (s.pcUpdate k b) :=
  .single (.cache _ hc List.length_set)

theorem mismatch_scratch (s : State) : s.SameButScratch s.mismatch := by
  unfold State.mismatch
  split <;> rfl

theorem dequant_scratch (s : State) (intra : Bool) : s.SameButScratch (s.dequant intra) := by
  unfold State.dequant
  generalize (Vector.ofFn _ : Vector Int 64) = q
  dsimp only
  split
  · have h := mismatch_scratch { s with coef := q }
    unfold State.SameButScratch at *
    rw [h]
  · rfl

theorem idct_scratch (s : State) : s.SameButScratch s.idct := by
  unfold State.idct
  generalize idctCols _ = f
  rfl

theorem writeBlock_within (s : State) (b : Fin 6) (v : Vector Byte 64) : Within i k s (s.writeBlock k b v) :=
  fun hk => ⟨.single (.block k b v hk), rfl⟩

theorem State.SameButBlock.mbCount_eq {s t : State} (h : s.SameButBlock t) : t.mbCount = s.mbCount := by
  rw [show t = _ from h]
  rfl

/-- What an intra block does once its bits are read (R314). -/
theorem intraTail_within (hc : writesCache i = true) (s : State) (b : Fin 6) (diff : Int) (p : Prediction) :
    Within i k s (((((s.dcRecon b diff p.pr).acPredict p.dir p.nb).pcUpdate k b).dequant true).idct.writeIntra k b) := by
  refine .trans _ _ _ (.of_steps (dcRecon_steps s b diff p.pr)) ?_
  refine .trans _ _ _ (.of_steps (acPredict_steps _ p.dir p.nb) (State.acPredict_block _ _ _).mbCount_eq) ?_
  refine .trans _ _ _ (.of_steps (pcUpdate_steps hc _ k b)) ?_
  exact .trans _ _ _ (.of_scratch (dequant_scratch _ true)) (.trans _ _ _ (.of_scratch (idct_scratch _)) (writeBlock_within _ b _))

variable (hb : movesBp i = true)
include hb

theorem acEvent_within (t : AcSel) : Act.Rel (Within i k) (acEvent t) := by
  have event : ∀ e : Event, e.Legal → Act.Rel (Within i k) (update (fun s => s.setEv e)) := fun e he =>
    Act.within_update fun _ => .of_micro (.event e he)
  refine Act.rel_bind_of_ok Within.trans (Act.within_parse hb (Dec.counts_parseAc t)) (fun s form u hs => ?_)
  have hrow : AcForm.rowIn t form := by
    rw [parse_apply] at hs
    split at hs
    · rename_i hp
      cases hs
      exact (parseAc_ok hp).1
    · cases hs
  cases form with
  | row r =>
    obtain ⟨hr, hl⟩ := acRow_small t r hrow
    exact Act.within_bind (Act.within_readBit hb) (fun sign => event _ (rowEvent_legal r.last sign hr hl)) u
  | esc1 r sign => exact event _ (esc1Event_legal t sign hrow) u
  | esc2 r sign => exact event _ (esc2Event_legal t sign hrow) u
  | esc3 last run _ level _ => exact event _ (esc3Event_legal last run level) u

theorem acLoop_within (t : AcSel) (scan : Scan) (n p : Nat) : Act.Rel (Within i k) (acLoop t scan n p) := by
  induction n generalizing p with
  | zero => exact Act.within_raise _
  | succ n ih =>
    refine Act.within_bind (acEvent_within hb t) fun _ => Act.within_bind Act.within_get fun s => ?_
    dsimp only
    split
    · refine Act.within_bind (Act.within_update fun u => placeLevel_within u scan _) fun _ => ?_
      exact Act.rel_ite (Act.within_pure _) (ih _)
    · exact Act.within_raise _

theorem dcDiff_within (b : Fin 6) : Act.Rel (Within i k) (dcDiff b) :=
  Act.within_bind (Act.within_parse hb (Dec.counts_parseDc _)) fun _ => Act.within_pure _

theorem interBlock_within (b : Fin 6) : Act.Rel (Within i k) (interBlock k b) := by
  refine Act.within_bind Act.within_get fun s => Act.rel_ite ?_ (Act.within_update fun u => writeBlock_within u b _)
  refine Act.within_bind (Act.within_update clearLevels_within) fun _ =>
    Act.within_bind (acLoop_within hb _ _ _ _) fun _ => Act.within_update fun u => ?_
  exact .trans _ _ _ (.of_scratch (dequant_scratch u false)) (.trans _ _ _ (.of_scratch (idct_scratch _)) (writeBlock_within _ b _))

theorem intraBlock_within (hc : writesCache i = true) (b : Fin 6) : Act.Rel (Within i k) (intraBlock k b) := by
  refine Act.within_bind Act.within_get fun s => Act.within_bind (Act.within_update clearLevels_within) fun _ => ?_
  have rest : ∀ diff : Int, Act.Rel (Within i k) (update (fun u => ((((((u.dcRecon b diff (s.dcPredict k b).pr).acPredict
      (s.dcPredict k b).dir (s.dcPredict k b).nb).pcUpdate k b).dequant true).idct).writeIntra k b))) := fun diff =>
    Act.within_update fun u => intraTail_within hc u b diff _
  dsimp only
  split
  · refine Act.within_bind (dcDiff_within hb b) fun _ => ?_
    split
    · exact Act.within_bind (acLoop_within hb _ _ _ _) fun _ => Act.within_bind (Act.within_pure _) fun _ => rest _
    · exact Act.within_bind (Act.within_pure _) fun _ => rest _
  · split
    · exact Act.within_bind (acLoop_within hb _ _ _ _) fun _ =>
        Act.within_bind Act.within_get fun _ => Act.within_bind (Act.within_pure _) fun _ => rest _
    · exact Act.within_bind Act.within_get fun _ => Act.within_bind (Act.within_pure _) fun _ => rest _

end

end Sys2Proof.Machine
end

section
/-! PROOFS. A macroblock and a VOP as sequences of elementary changes. -/

namespace Sys2Proof.Machine

/-! ## Macroblocks -/

section
variable {i : Instr} {k : Nat}

theorem copyMb_within (s : State) (ref : FrameStore) : Within i k s (s.copyMb k ref) := by
  have copies : ∀ (l : List (Fin 6)) (s : State), Within i k s (l.foldl (fun t b => t.copyBlock k ref b) s) := by
    intro l
    induction l with
    | nil => exact Within.refl
    | cons b l ih => exact fun s => Within.trans _ _ _ (writeBlock_within s b _) (ih _)
  exact copies blocks s

theorem setMbi_within (s : State) (e : MbInfo) : Within i k s { s with mbi := s.mbi.set k e } :=
  .of_micro (.mbInfo _ (.inl List.length_set))

theorem degrade_within (s : State) : Within i k s (s.degrade k) := by
  unfold State.degrade
  dsimp only
  split
  · exact copyMb_within s _
  · exact Within.trans _ _ _ (copyMb_within s s.refNew) (setMbi_within _ _)

theorem startRow_scratch (s : State) (k : Nat) : s.SameButScratch (s.startRow k) := by
  unfold State.startRow
  split <;> rfl

theorem offsetQp_within (s : State) (d : Int) : Within i k s (s.offsetQp d) := .of_steps (MicroSteps.offsetQp d)

variable (hb : movesBp i = true)
include hb

theorem readMcbpcI_within (n : Nat) : Act.Rel (Within i k) (readMcbpcI n) := by
  induction n with
  | zero => exact Act.within_raise _
  | succ n ih =>
    refine Act.within_bind (Act.within_parse hb (Dec.counts_vlc _ _)) fun r => ?_
    split
    · exact Act.within_pure _
    · exact ih

theorem readMcbpcP_within (n : Nat) : Act.Rel (Within i k) (readMcbpcP n) := by
  induction n with
  | zero => exact Act.within_raise _
  | succ n ih =>
    refine Act.within_bind (Act.within_readBit hb) fun b => Act.rel_ite (Act.within_pure _) ?_
    refine Act.within_bind (Act.within_parse hb (Dec.counts_vlc _ _)) fun r => ?_
    split
    · exact Act.within_pure _
    · exact ih

theorem readCbpy_within (c : BitVec 2) : Act.Rel (Within i k) (readCbpy c) :=
  Act.within_bind (Act.within_parse hb (Dec.counts_vlc _ _)) fun _ => Act.within_scratch

/-- A quantizer change read from a table (R172, R183). -/
theorem readQuant_within (l : List QuantRow) :
    Act.Rel (Within i k) (do let r ← parse (vlc QuantRow.code l); update (fun s => s.offsetQp r.delta)) :=
  Act.within_bind (Act.within_parse hb (Dec.counts_vlc _ _)) fun _ => Act.within_update fun s => offsetQp_within s _

theorem readDquant_within : Act.Rel (Within i k) readDquant :=
  Act.within_bind Act.within_get fun _ => Act.rel_ite (readQuant_within hb _) (Act.within_pure _)

theorem readMcsel_within : Act.Rel (Within i k) readMcsel :=
  Act.within_bind Act.within_scratch fun _ => Act.within_bind Act.within_get fun _ =>
    Act.rel_ite (Act.within_bind (Act.within_readBit hb) fun _ => Act.within_scratch) (Act.within_pure _)

theorem readAcPred_within : Act.Rel (Within i k) readAcPred :=
  Act.within_bind Act.within_get fun _ =>
    Act.rel_ite (Act.within_bind (Act.within_readBit hb) fun _ => Act.within_scratch) Act.within_scratch

theorem decodeDelta_within (f : Nat) : Act.Rel (Within i k) (decodeDelta f) :=
  Act.within_bind (Act.within_parse hb (Dec.counts_parseMvd f)) fun _ => Act.within_pure _

theorem decodeVector_within (p : MV) (f : Nat) : Act.Rel (Within i k) (decodeVector p f) :=
  Act.within_bind (decodeDelta_within hb f) fun _ => Act.within_bind (decodeDelta_within hb f) fun _ => Act.within_pure _

theorem decodeMv_within (b : Fin 4) : Act.Rel (Within i k) (decodeMv k b) := fun s => decodeVector_within hb _ _ s

theorem pVectors_within : Act.Rel (Within i k) (pVectors k) := by
  refine Act.within_bind Act.within_get fun s => Act.rel_ite ?four (Act.rel_ite (Act.rel_ite ?gmc ?one) ?none)
  case four => exact Act.within_forEach _ fun b => Act.within_bind (decodeMv_within hb b) fun _ => Act.within_scratch
  case gmc => exact Act.within_scratch
  case one => exact Act.within_bind (decodeMv_within hb 0) fun _ => Act.within_scratch
  case none => exact Act.within_pure _

theorem forwardVector_within : Act.Rel (Within i k) forwardVector :=
  Act.within_bind Act.within_get fun _ => Act.within_bind (decodeVector_within hb _ _) fun _ => Act.within_scratch

theorem backwardVector_within : Act.Rel (Within i k) backwardVector :=
  Act.within_bind Act.within_get fun _ => Act.within_bind (decodeVector_within hb _ _) fun _ => Act.within_scratch

theorem bVectors_within : Act.Rel (Within i k) (bVectors k) := by
  refine Act.within_bind Act.within_get fun s => ?_
  split
  · exact forwardVector_within hb
  · exact backwardVector_within hb
  · exact Act.within_bind (forwardVector_within hb) fun _ => backwardVector_within hb
  · exact Act.within_bind (decodeDelta_within hb 1) fun _ => Act.within_bind (decodeDelta_within hb 1) fun _ => Act.within_scratch
  · exact Act.within_scratch

theorem readBHeader_within : Act.Rel (Within i k) readBHeader := by
  refine Act.within_bind (Act.within_readBit hb) fun d => Act.rel_ite Act.within_scratch ?_
  refine Act.within_bind (Act.within_readBit hb) fun noCbp => Act.within_bind (Act.within_parse hb (Dec.counts_vlc _ _)) fun t =>
    Act.within_bind Act.within_scratch fun _ => ?_
  have rest : ∀ cbp : Nat, Act.Rel (Within i k) (do
      update (fun s => s.setCbp (BitVec.ofNat 6 cbp))
      if t.btype ≠ .direct ∧ BitVec.ofNat 6 cbp ≠ 0#6 then
        let d ← parse (vlc QuantRow.code dbquantTable)
        update (fun s => s.offsetQp d.delta)
      else pure ()) := fun cbp =>
    Act.within_bind Act.within_scratch fun _ => Act.rel_ite (readQuant_within hb _) (Act.within_pure _)
  split
  · exact Act.within_bind (Act.within_pure _) rest
  · exact Act.within_bind (Act.within_readBits hb 6) rest

theorem mbB_within : Act.Rel (Within i k) (mbB k) := by
  have rest : Act.Rel (Within i k) (do
      update (fun s => s.predictB k)
      forEach blocks (fun b => interBlock k b)) :=
    Act.within_bind Act.within_scratch fun _ => Act.within_forEach _ (interBlock_within hb)
  refine Act.within_bind (Act.within_scratch fun s => startRow_scratch s k) fun _ => Act.within_bind Act.within_get fun s => ?_
  split
  · exact Act.within_bind Act.within_scratch fun _ => rest
  · exact Act.within_bind Act.within_scratch fun _ => Act.within_bind (readBHeader_within hb) fun _ =>
      Act.within_bind (bVectors_within hb) fun _ => rest

variable (hc : writesCache i = true)
include hc

theorem mbI_within : Act.Rel (Within i k) (mbI k) :=
  Act.within_bind Act.within_get fun _ => Act.within_bind (readMcbpcI_within hb _) fun _ =>
    Act.within_bind Act.within_scratch fun _ => Act.within_bind (Act.within_readBit hb) fun _ =>
    Act.within_bind Act.within_scratch fun _ => Act.within_bind (readCbpy_within hb _) fun _ =>
    Act.within_bind (readDquant_within hb) fun _ => Act.within_forEach _ (intraBlock_within hb hc)

theorem pBlocks_within : Act.Rel (Within i k) (pBlocks k) :=
  Act.within_bind Act.within_get fun _ => Act.rel_ite (Act.within_forEach _ (intraBlock_within hb hc))
    (Act.within_bind Act.within_scratch fun _ => Act.within_forEach _ (interBlock_within hb))

theorem mbP_within : Act.Rel (Within i k) (mbP k) := by
  refine Act.within_bind Act.within_get fun s => Act.within_bind (readMcbpcP_within hb _) fun p => ?_
  split
  · exact Act.within_update fun u => Within.trans u (u.setMb { u.mb with mode := .notCoded, acPred := false }) _
      (Within.of_scratch rfl) (copyMb_within _ _)
  · exact Act.within_bind Act.within_scratch fun _ => Act.within_bind (readMcsel_within hb) fun _ =>
      Act.within_bind (readAcPred_within hb) fun _ => Act.within_bind (readCbpy_within hb _) fun _ =>
      Act.within_bind (readDquant_within hb) fun _ => Act.within_bind (pVectors_within hb) fun _ => pBlocks_within hb hc

theorem decodeMb_within : Act.Rel (Within i k) (decodeMb k) := by
  have write : Act.Rel (Within i k) (update (fun s => s.mbiWrite k)) := Act.within_update fun s => setMbi_within s _
  refine Act.within_bind Act.within_get fun s => ?_
  split
  · exact Act.within_bind (mbI_within hb hc) fun _ => write
  · exact Act.within_bind (mbP_within hb hc) fun _ => write
  · exact Act.within_bind (mbP_within hb hc) fun _ => write
  · exact mbB_within hb

theorem decodeMbCaught_within : Act.Rel (Within i k) (decodeMbCaught k) := fun s => by
  have h := decodeMb_within hb hc (k := k) s
  unfold decodeMbCaught
  cases hs : decodeMb k s with
  | ok a t =>
    rw [hs] at h
    exact h
  | error e t =>
    rw [hs] at h
    have hfail : Within i k t { t with fail := true } := Within.of_scratch rfl
    dsimp only
    split
    · exact Within.trans _ _ _ h hfail
    · exact Within.trans _ _ _ h (Within.trans _ _ _ hfail (degrade_within _))

theorem vopMacroblock_within : Act.Rel (Within i k) (vopMacroblock k) :=
  Act.within_bind Act.within_scratch fun _ => Act.within_bind Act.within_get fun _ =>
    Act.rel_ite (Act.within_update degrade_within) (decodeMbCaught_within hb hc)

end

/-! ## The checks of `DECODE_VOP` -/

theorem refusedTool_iff (a b : Bool) (e : SpriteEnable) (n : Nat) (c : Bool) (w : Nat) :
    refusedTool a b e n c w = true ↔
      a = true ∨ b = true ∨ e = .static ∨ e = .reserved ∨ n ≠ 0 ∨ c = true ∨ 3 < w := by
  simp [refusedTool, or_assoc]

theorem State.refused_iff (s : State) : s.vol.refused = true ↔ s.RefusedTool := refusedTool_iff _ _ _ _ _ _

theorem State.illegalVop_iff (s : State) : s.illegalVop = true ↔ s.IllegalVop := by
  simp [State.illegalVop, State.IllegalVop, or_assoc]

theorem State.vopSkipped_iff (s : State) : s.vopSkipped = true ↔ s.PassedOver := by
  unfold State.vopSkipped State.missingReference State.PassedOver
  cases s.vop.pictureType <;> simp [or_comm]

theorem State.startQuant_eq_zero_iff (s : State) : s.startQuant = 0 ↔ s.vop.quant = 0 ∧ s.prevQuant = 0 := by
  unfold State.startQuant
  split <;> simp_all

/-- A VOP that passes every check and is not passed over has a quantizer and starts in the window (R26, R463). -/
theorem State.vopFault_none {s : State} (h : s.vopFault = none) (hs : ¬s.vopSkipped = true) :
    s.startQuant ≠ 0 ∧ s.vop.mbStart ≤ 8 * s.bslen := by
  unfold State.vopFault at h
  rw [if_neg hs] at h
  split_ifs at h with _ _ _ hquant hstart
  exact ⟨hquant, Nat.le_of_not_lt hstart⟩

/-! ## VOPs -/

section
variable {i : Instr}

theorem startQuant_legal {s : State} (h0 : s.startQuant ≠ 0) (hs : s.QuantLegal) : 1 ≤ s.startQuant ∧ s.startQuant ≤ 31 := by
  obtain ⟨-, -, hprev, hvop⟩ := hs
  refine ⟨Nat.pos_of_ne_zero h0, ?_⟩
  unfold State.startQuant
  split
  · exact hvop
  · exact hprev

/-- Loops over macroblocks of the frame. -/
theorem forEach_steps (l : List Nat) {f : Nat → Act Unit} (hf : ∀ k, Act.Rel (Within i k) (f k)) (s : State)
    (hl : ∀ k ∈ l, k < s.mbCount) : MicroSteps i s (stateOf (forEach l f s)) := by
  induction l generalizing s with
  | nil => exact .refl
  | cons k l ih =>
    obtain ⟨h1, h2⟩ := hf k s (hl k List.mem_cons_self)
    rw [forEach]
    cases hs : f k s with
    | ok a u =>
      rw [hs] at h1 h2
      rw [bind_apply_ok _ _ _ _ _ hs]
      exact h1.trans (ih u fun j hj => (show u.mbCount = s.mbCount from h2) ▸ hl j (List.mem_cons_of_mem _ hj))
    | error e u =>
      rw [hs] at h1
      rw [bind_apply_error _ _ _ _ _ hs]
      exact h1

theorem gmcSetup_scratch (s : State) : s.SameButScratch s.gmcSetup := rfl

theorem beginVop_steps (hb : movesBp i = true) {s : State} {q : Nat} (hq : s.QuantLegal → 1 ≤ q ∧ q ≤ 31)
    (hp : s.vop.mbStart ≤ 8 * s.bslen) : MicroSteps i s (s.beginVop q) := by
  have quant : MicroSteps i s { s with qp := q, prevQuant := q } :=
    .tail (.single (.quant q hq)) (.prevQuant q fun h => h.2.1)
  have cleared : MicroSteps i s { s with qp := q, prevQuant := q, fail := false, pmvF := MV.zero, pmvB := MV.zero } :=
    quant.trans (MicroSteps.of_scratch rfl)
  have files : MicroSteps i s { s with
      qp := q, prevQuant := q, fail := false, pmvF := MV.zero, pmvB := MV.zero, mbi := List.replicate s.mbCount MbInfo.reset } :=
    cleared.tail (.mbInfo _ (.inr List.length_replicate))
  have start := (files.trans (MicroSteps.placeBp hb hp)).tail (.curInfo false s.vopInfo)
  unfold State.beginVop
  dsimp only
  split
  · exact start.trans (MicroSteps.of_scratch (gmcSetup_scratch _))
  · exact start

theorem completeRef_steps (hr : writesReferences i = true) (s : State) : MicroSteps i s s.completeRef := by
  have moved := (Relation.ReflTransGen.single (Micro.references (s := s) hr)).tail (.push .cur)
  unfold State.completeRef
  dsimp only
  split
  · exact moved.trans (MicroSteps.of_scratch rfl)
  · exact moved

theorem endVop_steps (hr : writesReferences i = true) (s : State) : MicroSteps i s s.endVop := by
  refine .head (.curInfo true s.cur.info) ?_
  unfold State.endVop State.complete
  split
  · exact .single (.push .cur)
  · exact completeRef_steps hr _

variable (hb : movesBp i = true) (hc : writesCache i = true) (hr : writesReferences i = true)
include hb hc hr

theorem vopBody_steps {s : State} {q : Nat} (hq : s.QuantLegal → 1 ≤ q ∧ q ≤ 31) (hp : s.vop.mbStart ≤ 8 * s.bslen) :
    MicroSteps i s (stateOf (vopBody q s)) := by
  have loop := forEach_steps (List.range (s.beginVop q).mbCount) (fun k => vopMacroblock_within (k := k) hb hc) (s.beginVop q)
    fun k hk => List.mem_range.1 hk
  rw [vopBody, bind_apply_ok _ _ _ _ _ (update_apply _ s), bind_apply_ok _ _ _ _ _ (get_apply _)]
  refine (beginVop_steps hb hq hp).trans ?_
  cases hs : forEach (List.range (s.beginVop q).mbCount) vopMacroblock (s.beginVop q) with
  | ok a u =>
    rw [hs] at loop
    rw [bind_apply_ok _ _ _ _ _ hs]
    exact loop.trans (endVop_steps hr u)
  | error e u =>
    rw [hs] at loop
    rw [bind_apply_error _ _ _ _ _ hs]
    exact loop

theorem decodeVop_steps : Act.Rel (MicroSteps i) decodeVop := fun s => by
  unfold decodeVop
  cases hf : s.vopFault with
  | some e => exact .refl
  | none =>
    dsimp only
    split
    · exact .refl
    · rename_i hs
      obtain ⟨hq, hp⟩ := State.vopFault_none hf hs
      exact vopBody_steps hb hc hr (startQuant_legal hq) hp

end

end Sys2Proof.Machine
end

section
/-! PROOFS. Every instruction as a sequence of elementary changes: codewords, operations and host commands, and so `exec`
itself; and where `exec` can stop. -/

namespace Sys2Proof.Machine

/-! ## Codewords -/

section
variable {i : Instr} {s t : State}

theorem finish_steps (s : State) (r : Result) : MicroSteps i s (s.finish r) := .of_scratch rfl

theorem raise_steps (s : State) (k : Kind) : MicroSteps i s (s.raise k) := .of_scratch rfl

/-- A command's operation and the answer it hands back. -/
theorem outcomeOf_steps {r : EStateM.Result Kind State Result} (hr : MicroSteps i s (stateOf r)) (h : outcomeOf r = .next t) :
    MicroSteps i s t := by
  cases r with
  | ok v u =>
    cases h
    exact hr.trans (finish_steps u v)
  | error k u =>
    cases h
    exact hr.trans (raise_steps u k)

theorem headerWrite_steps (h : HeaderWrite s t) : MicroSteps i s t := by
  cases h with
  | nothing => exact .refl
  | mb m => exact .of_scratch rfl
  | quant d => exact MicroSteps.offsetQp d

theorem runCode_steps (hb : movesBp i = true) {n : Nat} {g : State → State} {r : Result} (hg : ∀ s, MicroSteps i s (g s))
    (h : runCode n g r s = .next t) : MicroSteps i s t := by
  obtain ⟨hfit, rfl⟩ | ⟨-, rfl⟩ := runCode_cases n g r s t h
  · exact ((MicroSteps.advance hb (by omega)).trans (hg _)).trans (finish_steps _ r)
  · exact raise_steps s _

theorem runReads_steps (hb : movesBp i = true) {l : List Nat} {g : State → State} {r : Result} (hg : ∀ s, MicroSteps i s (g s))
    (h : runReads l g r s = .next t) : MicroSteps i s t := by
  obtain ⟨hfit, rfl⟩ | ⟨-, rfl⟩ := runReads_cases l g r s t h
  · exact ((MicroSteps.advance hb (by omega)).trans (hg _)).trans (finish_steps _ r)
  · exact (MicroSteps.advance hb (wholeReads_le _ _)).trans (raise_steps _ _)

theorem finishRow_steps (hb : movesBp i = true) {run level : Nat} (last : Bool) (hr : run ≤ 40) (hl : level ≤ 27) :
    Act.Rel (MicroSteps i) (finishRow last run level) :=
  Act.steps_bind (Act.steps_bind (Act.steps_readBits hb 1) fun _ => Act.steps_pure _) fun sign =>
    Act.rel_update fun _ => .single (.event _ (rowEvent_legal last sign hr hl))

theorem runAcRow_steps (hb : movesBp i = true) {n run level : Nat} {last : Bool} (hr : run ≤ 40) (hl : level ≤ 27)
    (h : runAcRow n last run level s = .next t) : MicroSteps i s t := by
  unfold runAcRow at h
  split at h
  · have hact := Act.steps_bind (finishRow_steps hb last hr hl) fun _ => Act.steps_pure Result.none
    exact outcomeOf_steps ((MicroSteps.advance hb (by omega)).trans (hact (s.advance n))) h
  · cases h
    exact raise_steps s _

theorem codeword_steps (hc : i.isCommand = false) (h : exec i s = .next t) : MicroSteps i s t := by
  have hb : movesBp i = true := by
    show (!i.isCommand || _) = true
    rw [hc]
    rfl
  cases codeword_meaning i hc with
  | header hg hx => exact runCode_steps hb (fun s => headerWrite_steps (hg s)) ((hx s).symm.trans h)
  | value hx => exact runReads_steps hb (fun s => .refl) ((hx s).symm.trans h)
  | row hx hr hl => exact runAcRow_steps hb hr hl ((hx s).symm.trans h)
  | escape hx he => exact runReads_steps hb (fun s => .single (.event _ he)) ((hx s).symm.trans h)
  | pattern hx =>
    cases (hx s).symm.trans h
    exact finish_steps s _

end

/-! ## Host commands -/

section
variable {i : Instr}

/-- A check, then the rest of the operation. -/
theorem require_bind_apply {α : Type} (c : Bool) (e : Kind) (x : Act α) (s : State) :
    (do require c e; x) s = if c = true then x s else .error e s := by
  cases c with
  | true => exact bind_apply_ok _ _ s s () rfl
  | false => exact bind_apply_error _ _ s s e rfl

theorem setBp_apply (p : Nat) (s : State) :
    setBp p s = if p ≤ 8 * s.bslen then .ok () { s with bp := p } else .error .invalidData s := by
  rw [setBp, bind_apply_ok _ _ _ _ _ (get_apply s), require_bind_apply]
  simp only [decide_eq_true_eq, update_apply]

theorem setBp_steps (hb : movesBp i = true) (p : Nat) : Act.Rel (MicroSteps i) (setBp p) := fun s => by
  rw [setBp_apply]
  split
  · exact MicroSteps.placeBp hb (by assumption)
  · exact .refl

theorem loadVol_apply (v : VolHeader) (s : State) :
    loadVol v s = if headerInvalid v = false then
      (if headerRefused v = false then .ok () (s.applyVol v) else .error .unsupported s) else .error .invalidData s := by
  rw [loadVol, require_bind_apply, require_bind_apply]
  simp only [Bool.not_eq_true', update_apply]

theorem loadVol_steps (hi : writesVol i = true) (v : VolHeader) : Act.Rel (MicroSteps i) (loadVol v) := fun s => by
  rw [loadVol_apply]
  split
  · split
    · exact .single (.vol v hi (by assumption) (by assumption))
    · exact .refl
  · exact .refl

theorem traj_steps (hb : movesBp i = true) : Act.Rel (MicroSteps i) traj :=
  Act.steps_bind (Act.steps_parse hb Dec.counts_parseTraj) fun _ => Act.steps_pure _

theorem spriteTrajectory_steps (hb : movesBp i = true) : Act.Rel (MicroSteps i) spriteTrajectory := by
  refine Act.steps_bind (fun _ => .refl) fun n => Act.rel_forEach (fun _ => .refl) (fun _ _ _ => .trans) _ fun p => ?_
  refine Act.rel_ite ?_ Act.steps_scratch
  exact Act.steps_bind (traj_steps hb) fun _ => Act.steps_bind Act.steps_scratch fun _ =>
    Act.steps_bind (traj_steps hb) fun _ => Act.steps_scratch

/-- `OPEN` without a VOL in `extra_data` (R422). -/
theorem openInstance_noVol {p : CodecParameters} (hv : hasVol p.extraData = false) (s : State) :
    openInstance p s = if p.width ≠ 0 ∧ p.height ≠ 0 then .ok () (s.openWith p.width p.height) else .error .invalidData s := by
  rw [openInstance, if_neg (by simp [hv]), require_bind_apply]
  simp only [Bool.and_eq_true, decide_eq_true_eq, update_apply]

/-- `OPEN` with a VOL whose parse failed (R422). -/
theorem openInstance_badVol {p : CodecParameters} (hv : hasVol p.extraData = true) (hn : p.extraVol = none) (s : State) :
    openInstance p s = .error .invalidData s := by
  rw [openInstance, if_pos hv, hn]
  rfl

/-- `OPEN` with a VOL that parses: a legal size and matrices first, then the tools (R422, R469). -/
theorem openInstance_vol {p : CodecParameters} {v : VolHeader} (hv : hasVol p.extraData = true) (hs : p.extraVol = some v)
    (s : State) :
    openInstance p s = if ((v.size.getD (p.width, p.height)).1 ≠ 0 ∧ (v.size.getD (p.width, p.height)).2 ≠ 0)
        ∧ headerInvalid v = false then
      (if headerRefused v = false then
        .ok () ((s.openWith (v.size.getD (p.width, p.height)).1 (v.size.getD (p.width, p.height)).2).applyVol v)
      else .error .unsupported s) else .error .invalidData s := by
  rw [openInstance, if_pos hv, hs]
  dsimp only
  rw [require_bind_apply, require_bind_apply, require_bind_apply]
  simp only [Bool.and_eq_true, decide_eq_true_eq, Bool.not_eq_true', update_apply, ite_and]

/-- What `OPEN` does in `Closed` after its state check (R422). -/
theorem openInstance_steps {p : CodecParameters} (hi : i = .openInst p) {s : State} (hc : s.opened = false) :
    MicroSteps i s (stateOf (openInstance p s)) := by
  have hw : writesVol i = true := by rw [hi]; rfl
  cases hd : hasVol p.extraData with
  | false =>
    rw [openInstance_noVol hd]
    split
    · rename_i hsize
      exact .single (.opening p _ _ hi hc hsize.1 hsize.2)
    · exact .refl
  | true =>
    cases hv : p.extraVol with
    | none =>
      rw [openInstance_badVol hd hv]
      exact .refl
    | some v =>
      rw [openInstance_vol hd hv]
      split
      · rename_i hsize
        split
        · exact .tail (.single (.opening p _ _ hi hc hsize.1.1 hsize.1.2)) (.vol v hw hsize.2 (by assumption))
        · exact .refl
      · exact .refl

/-! ## `SEND_PACKET` -/

theorem parseTrajectory_steps (hb : movesBp i = true) (v : VopParse) : Act.Rel (MicroSteps i) (parseTrajectory v) := by
  unfold parseTrajectory
  cases v.trajectory with
  | none => exact Act.steps_pure _
  | some p => exact Act.steps_bind (setBp_steps hb p) fun _ => spriteTrajectory_steps hb

theorem headers_quant {pkt : Packet} {hp : HeaderParse} (hw : (Instr.sendPacket pkt hp).wf = true) :
    ∀ v, some v ∈ hp.vops → v.header.quant ≤ 31 := fun v hv => by
  have hparse : hp.wf = true := (Bool.and_eq_true_iff.1 hw).2
  have hvop : v.header.wf = true := List.all_eq_true.1 (Bool.and_eq_true_iff.1 hparse).2 _ hv
  simp only [VopHeader.wf, Bool.and_eq_true, decide_eq_true_eq] at hvop
  omega

section
variable (hi : ∃ pkt hp, i = .sendPacket pkt hp)
include hi

theorem loadAndDecode_steps {h : VopHeader} (hq : i.wf = true → h.quant ≤ 31) : Act.Rel (MicroSteps i) (loadAndDecode h) :=
  fun s => by
  obtain ⟨pkt, hp, rfl⟩ := hi
  unfold loadAndDecode
  cases hf : (s.loadVop h).vopFault with
  | some e => exact .refl
  | none => exact .head (.vop h rfl hq) (decodeVop_steps rfl rfl rfl (s.loadVop h))

theorem sendVop_steps (p : Packet) {v : VopParse} (hq : i.wf = true → v.header.quant ≤ 31) :
    Act.Rel (MicroSteps i) (sendVop p v) := by
  have hb : movesBp i = true := by obtain ⟨pkt, hp, rfl⟩ := hi; rfl
  exact Act.steps_bind (fun _ => .refl) fun s => Act.rel_ite (Act.steps_pure _)
    (Act.steps_bind (parseTrajectory_steps hb v) fun _ => loadAndDecode_steps hi (h := stamp p v.header) hq)

theorem sendVops_steps (p : Packet) (offs : List Nat) (parses : List (Option VopParse))
    (hq : i.wf = true → ∀ v, some v ∈ parses → v.header.quant ≤ 31) : Act.Rel (MicroSteps i) (sendVops p offs parses) := by
  induction offs generalizing parses with
  | nil => exact Act.steps_pure _
  | cons o offs ih =>
    cases parses with
    | nil => exact fun _ => .refl
    | cons v parses =>
      cases v with
      | none => exact fun _ => .refl
      | some v =>
        exact Act.steps_bind (sendVop_steps hi p fun hw => hq hw v List.mem_cons_self) fun _ =>
          ih parses fun hw u hu => hq hw u (List.mem_cons_of_mem _ hu)

theorem sendVol_steps (found : Bool) (v : Option VolHeader) : Act.Rel (MicroSteps i) (sendVol found v) := by
  have hv : writesVol i = true := by obtain ⟨pkt, hp, rfl⟩ := hi; rfl
  cases found with
  | false => exact Act.steps_pure _
  | true =>
    cases v with
    | none => exact fun _ => .refl
    | some v => exact loadVol_steps hv v

end

theorem sendData_steps (pkt : Packet) (hp : HeaderParse) : Act.Rel (MicroSteps (.sendPacket pkt hp)) (sendData pkt hp) := by
  have hi : ∃ p h, Instr.sendPacket pkt hp = .sendPacket p h := ⟨pkt, hp, rfl⟩
  refine Act.steps_bind (Act.rel_update fun s => .single (.window pkt.data rfl rfl)) fun _ => ?_
  refine Act.steps_bind (sendVol_steps hi _ _) fun _ => ?_
  exact Act.steps_bind (Act.rel_require (fun _ => .refl) _ _) fun _ => sendVops_steps hi _ _ _ headers_quant

end

/-! ## Commands -/

/-- How a command runs: in `Opened`, whole, or on a macroblock of the frame (R27, R420); `OPEN` alone in `Closed`. What it
runs is a sequence of elementary changes. -/
inductive CommandMeaning (i : Instr) : Prop where
  | command {a : Act Result} (ha : Act.Rel (MicroSteps i) a) (hx : ∀ s, exec i s = runCommand a s)
  | onMacroblock {k : State → Nat} {a : State → Act Result} (ha : ∀ s, Act.Rel (Within i (k s)) (a s))
      (hk : ∀ s, s.macroblockOf i = some (k s)) (hx : ∀ s, exec i s = runOnMacroblock (k s) (a s) s)
  | opening (p : CodecParameters) (hi : i = .openInst p)

section
variable {i : Instr}

/-- An operation given by its answer alone changes nothing. -/
theorem answer_steps (f : State → Result) : Act.Rel (MicroSteps i) (Act.of fun s => .ok (f s) s) := fun _ => .refl

/-- An operation given by its effect alone. -/
theorem effect_steps {g : State → State} (hg : ∀ s, MicroSteps i s (g s)) (f : State → Result) :
    Act.Rel (MicroSteps i) (Act.of fun s => .ok (f s) (g s)) := hg

theorem effect_within {k : Nat} {g : State → State} (hg : ∀ s, Within i k s (g s)) (f : State → Result) :
    Act.Rel (Within i k) (Act.of fun s => .ok (f s) (g s)) := hg

theorem andNothing_steps {a : Act Unit} (ha : Act.Rel (MicroSteps i) a) :
    Act.Rel (MicroSteps i) (do a; pure Result.none) := Act.steps_bind ha fun _ => Act.steps_pure _

theorem andNothing_within {k : Nat} {a : Act Unit} (ha : Act.Rel (Within i k) a) :
    Act.Rel (Within i k) (do a; pure Result.none) := Act.within_bind ha fun _ => Act.within_pure _

end

/-- A read of the host, all or nothing: `BP` moves where it fits (R140, R142). -/
theorem readAnswer_steps {i : Instr} (hb : movesBp i = true) (n : Nat) (f : State → Result) (r : Result) :
    Act.Rel (MicroSteps i) (Act.of fun s => if s.bp + n ≤ 8 * s.bslen then .ok (f s) (s.advance n) else .ok r s) := fun s => by
  rw [Act.of_apply]
  split
  · exact MicroSteps.advance hb (by omega)
  · exact .refl

theorem peekAnswer_steps {i : Instr} (n : Nat) (f : State → Result) (r : Result) :
    Act.Rel (MicroSteps i) (Act.of fun s => if s.bp + n ≤ 8 * s.bslen then .ok (f s) s else .ok r s) := fun s => by
  rw [Act.of_apply]
  split <;> exact .refl

theorem receiveFrame_steps : Act.Rel (MicroSteps .receiveFrame) (Act.of fun s =>
    match s.outq with
    | f :: rest => .ok (Result.frame f) { s with outq := rest }
    | [] => if s.flushing then .error .eof s else .error .needMoreData s) := fun s => by
  rw [Act.of_apply]
  split
  · exact .single (.output _ _ rfl (by assumption))
  · split <;> exact .refl

theorem loadVop_steps (h : VopHeader) : ∀ s, MicroSteps (.loadVop h) s (s.loadVop h) := fun s =>
  .single (.vop h rfl fun hw => by
    have hvop : h.wf = true := hw
    simp only [VopHeader.wf, Bool.and_eq_true, decide_eq_true_eq] at hvop
    omega)

theorem sendPacket_steps (pkt : Packet) (hp : HeaderParse) : Act.Rel (MicroSteps (.sendPacket pkt hp)) (do
    if pkt.data.isEmpty then update (fun s => s.endOfStream) else sendData pkt hp
    pure Result.none) := by
  split
  · exact Act.steps_bind (Act.rel_update fun s =>
      .tail (MicroSteps.of_scratch (t := { s with flushing := true }) rfl) .drain) fun _ => Act.steps_pure _
  · exact Act.steps_bind (sendData_steps pkt hp) fun _ => Act.steps_pure _

theorem direct_scratch (s : State) (k : Nat) (delta : MV) : s.SameButScratch (s.direct k delta) := rfl

theorem mbiWrite_within {i : Instr} {k : Nat} (s : State) :
    Within i k s (if s.vop.pictureType = .b then s else s.mbiWrite k) := by
  split
  · exact Within.refl s
  · exact setMbi_within s _

/-- Every command has one of the three meanings. -/
theorem command_meaning (i : Instr) (h : i.isCommand = true) : CommandMeaning i := by
  cases i
  case dcval size v => exact .command (answer_steps _) (fun _ => rfl)
  case readBits n => exact .command (readAnswer_steps rfl n _ _) (fun _ => rfl)
  case peekBits n => exact .command (peekAnswer_steps n _ _) (fun _ => rfl)
  case skipBits n => exact .command (readAnswer_steps rfl n _ _) (fun _ => rfl)
  case byteAligned => exact .command (answer_steps _) (fun _ => rfl)
  case findStartCode data c => exact .command (answer_steps _) (fun _ => rfl)
  case findStartCodeRange data lo hi => exact .command (answer_steps _) (fun _ => rfl)
  case resyncDetect p f => exact .command (answer_steps _) (fun _ => rfl)
  case dequant intra => exact .command (effect_steps (fun s => .of_scratch (dequant_scratch s intra)) _) (fun _ => rfl)
  case mismatch => exact .command (effect_steps (fun s => .of_scratch (mismatch_scratch s)) _) (fun _ => rfl)
  case idct => exact .command (effect_steps (fun s => .of_scratch (idct_scratch s)) _) (fun _ => rfl)
  case dcPredict b => exact .onMacroblock (fun _ => effect_within Within.refl _) (fun _ => rfl) (fun _ => rfl)
  case dcRecon b diff pr => exact .command (effect_steps (fun s => dcRecon_steps s b diff pr) _) (fun _ => rfl)
  case acPredict b =>
    exact .onMacroblock (fun _ => effect_within (fun s => .of_steps (acPredict_steps s _ _)
      (State.acPredict_block _ _ _).mbCount_eq) _) (fun _ => rfl) (fun _ => rfl)
  case pcUpdate b =>
    exact .onMacroblock (fun _ => effect_within (fun s => .of_steps (pcUpdate_steps rfl s _ b)) _) (fun _ => rfl) (fun _ => rfl)
  case scanSelect dir => exact .command (answer_steps _) (fun _ => rfl)
  case decodeMb k =>
    exact .onMacroblock (fun _ => Act.within_bind Act.within_scratch fun _ => andNothing_within (decodeMbCaught_within rfl rfl))
      (fun _ => rfl) (fun _ => rfl)
  case intraBlock b => exact .onMacroblock (fun _ => andNothing_within (intraBlock_within rfl rfl b)) (fun _ => rfl) (fun _ => rfl)
  case interBlock b => exact .onMacroblock (fun _ => andNothing_within (interBlock_within rfl b)) (fun _ => rfl) (fun _ => rfl)
  case copyMb k ref => exact .onMacroblock (fun _ => effect_within (fun s => copyMb_within s _) _) (fun _ => rfl) (fun _ => rfl)
  case recon p f => exact .command (answer_steps _) (fun _ => rfl)
  case mbiWrite k => exact .onMacroblock (fun _ => effect_within mbiWrite_within _) (fun _ => rfl) (fun _ => rfl)
  case mcLuma ref x y v r => exact .command (answer_steps _) (fun _ => rfl)
  case chromaMv_1 v => exact .command (answer_steps _) (fun _ => rfl)
  case chromaMv_4 v0 v1 v2 v3 => exact .command (answer_steps _) (fun _ => rfl)
  case mcChroma ref plane x y c r => exact .command (answer_steps _) (fun _ => rfl)
  case spriteTrajectory => exact .command (andNothing_steps (spriteTrajectory_steps rfl)) (fun _ => rfl)
  case gmcSetup => exact .command (effect_steps (fun s => .of_scratch (gmcSetup_scratch s)) _) (fun _ => rfl)
  case decodeVop => exact .command (andNothing_steps (decodeVop_steps rfl rfl rfl)) (fun _ => rfl)
  case completeRef => exact .command (effect_steps (completeRef_steps rfl) _) (fun _ => rfl)
  case completeB => exact .command (effect_steps (fun _ => .single (.push .cur)) _) (fun _ => rfl)
  case push src => exact .command (effect_steps (fun _ => .single (.push src)) _) (fun _ => rfl)
  case drain => exact .command (effect_steps (fun _ => .single .drain) _) (fun _ => rfl)
  case directMv k delta =>
    exact .onMacroblock (fun _ => effect_within (fun s => .of_scratch (direct_scratch s k delta)) _) (fun _ => rfl) (fun _ => rfl)
  case openInst p => exact .opening p rfl
  case loadVol v => exact .command (andNothing_steps (loadVol_steps rfl v)) (fun _ => rfl)
  case loadVop header => exact .command (effect_steps (loadVop_steps header) _) (fun _ => rfl)
  case sendPacket pkt hp => exact .command (sendPacket_steps pkt hp) (fun _ => rfl)
  case receiveFrame => exact .command receiveFrame_steps (fun _ => rfl)
  case flush => exact .command (effect_steps (fun _ => .single (.flush rfl)) _) (fun _ => rfl)
  case setBp p => exact .command (andNothing_steps (setBp_steps rfl p)) (fun _ => rfl)
  all_goals exact (Bool.false_ne_true h).elim

/-! ## `exec` -/

theorem stateOf_andNothing (a : Act Unit) (s : State) : stateOf ((do a; pure Result.none : Act Result) s) = stateOf (a s) := by
  cases hs : a s with
  | ok x u => rw [bind_apply_ok _ _ _ _ _ hs]; rfl
  | error e u => rw [bind_apply_error _ _ _ _ _ hs]; rfl

theorem exec_openInst_closed (p : CodecParameters) {s : State} (hc : s.opened = false) :
    exec (.openInst p) s = outcomeOf ((do openInstance p; pure Result.none : Act Result) s) := by
  show execOpenInst p s = _
  rw [execOpenInst, if_neg (by simp [hc])]

theorem exec_openInst_opened (p : CodecParameters) {s : State} (ho : s.opened = true) :
    exec (.openInst p) s = .next (s.raise .invalidData) := if_pos ho

/-- Whatever an instruction does is a sequence of the elementary changes it may make. -/
theorem exec_steps {i : Instr} {s t : State} (h : exec i s = .next t) : MicroSteps i s t := by
  cases hc : i.isCommand with
  | false => exact codeword_steps hc h
  | true =>
    cases command_meaning i hc with
    | command ha hx =>
      obtain ⟨-, rfl⟩ | ⟨ho, -⟩ := runCommand_cases _ s t ((hx s).symm.trans h)
      · exact raise_steps s _
      · rw [hx, runCommand_opened _ _ ho] at h
        exact outcomeOf_steps (ha s) h
    | onMacroblock ha hk hx =>
      obtain ⟨-, rfl⟩ | ⟨ho, hlt, -⟩ := runOnMacroblock_cases _ _ s t ((hx s).symm.trans h)
      · exact raise_steps s _
      · rw [hx, runOnMacroblock_opened _ _ _ ho hlt] at h
        exact outcomeOf_steps (ha s s hlt).1 h
    | opening p hi =>
      subst hi
      cases ho : s.opened with
      | true =>
        cases (exec_openInst_opened p ho).symm.trans h
        exact raise_steps s _
      | false =>
        rw [exec_openInst_closed p ho] at h
        exact outcomeOf_steps (stateOf_andNothing (openInstance p) s ▸ openInstance_steps rfl ho) h

end Sys2Proof.Machine
end

section
/-! PROOFS. What every step keeps (spec/10_state.md R20 to R33): each part of the invariant through every elementary
change, and so through every step; and the registers an instruction may not write. -/

namespace Sys2Proof.Machine

/-! ## From one change to a whole instruction -/

section
variable {i : Instr} {s t : State}

theorem MicroSteps.keeps {P : State → Prop} (hm : ∀ s t, Micro i s t → P s → P t) (h : MicroSteps i s t) (hs : P s) : P t := by
  induction h with
  | refl => exact hs
  | tail _ hlast ih => exact hm _ _ hlast ih

theorem MicroSteps.fixes {α : Type} (f : State → α) (hm : ∀ s t, Micro i s t → f t = f s) (h : MicroSteps i s t) : f t = f s := by
  induction h with
  | refl => rfl
  | tail _ hlast ih => exact (hm _ _ hlast).trans ih

/-- `LOAD_VOL` writes the `VOL` group and the matrices, and with a new size makes stores and files anew (R424): whatever
speaks of none of these is as before. -/
theorem State.applyVol_fixes {α : Type} (f : State → α) (s : State) (v : VolHeader)
    (hv : ∀ (s : State) vol a b, f { s with vol := vol, qmIntra := a, qmInter := b } = f s) (hr : ∀ s : State, f s.remake = f s) :
    f (s.applyVol v) = f s := by
  unfold State.applyVol
  dsimp only
  split
  · exact hv ..
  · exact (hr _).trans (hv ..)

/-! ## Levels and events (R25) -/

theorem creation_levelsLegal (p : Params) (q : List Request) : (State.creation p q).LevelsLegal := by
  refine ⟨fun j => by simp [State.creation], ?_⟩
  show (-2048 : Int) ≤ 0 ∧ (0 : Int) ≤ 2047 ∧ 0 ≤ 81
  decide

theorem Micro.levelsLegal (hm : Micro i s t) (h : s.LevelsLegal) : t.LevelsLegal := by
  cases hm with
  | scratch hs => rw [show t = _ from hs]; exact h
  | event e he => exact ⟨h.1, he⟩
  | levels q hq => exact ⟨hq h, h.2⟩
  | vol v => exact (s.applyVol_fixes State.LevelsLegal v (fun _ _ _ _ => rfl) (fun _ => rfl)).mpr h
  | opening p w h' => exact creation_levelsLegal s.params s.inq
  | _ => exact h

/-! ## The bit pointer (R20) -/

theorem Micro.bpInWindow (hm : Micro i s t) (h : s.BpInWindow) : t.BpInWindow := by
  cases hm with
  | scratch hs => rw [show t = _ from hs]; exact h
  | placeBp p _ hp => exact hp
  | window data => exact Nat.zero_le _
  | vol v => exact (s.applyVol_fixes State.BpInWindow v (fun _ _ _ _ => rfl) (fun _ => rfl)).mpr h
  | flush => exact Nat.zero_le _
  | opening p w h' => exact Nat.zero_le _
  | _ => exact h

/-! ## Memories (R70) -/

theorem FrameStore.reset_canonical : FrameStore.reset.Canonical := ⟨rfl, rfl, rfl⟩

theorem FrameStore.Canonical.plane {f : FrameStore} (h : f.Canonical) (p : Plane) : (f.plane p).wf = true := by
  obtain ⟨hy, hu, hv⟩ := h
  cases p with
  | y => exact hy
  | u => exact hu
  | v => exact hv

theorem FrameStore.Canonical.setPlane {f : FrameStore} (h : f.Canonical) (p : Plane) {m : Memory} (hm : m.wf = true) :
    (f.setPlane p m).Canonical := by
  obtain ⟨hy, hu, hv⟩ := h
  cases p with
  | y => exact ⟨hm, hu, hv⟩
  | u => exact ⟨hy, hm, hv⟩
  | v => exact ⟨hy, hu, hm⟩

theorem State.MemoryCanonical.store (h : s.MemoryCanonical) (r : StoreSel) : (s.store r).Canonical := by
  obtain ⟨-, hcur, hnew, hold, -, -⟩ := h
  cases r with
  | cur => exact hcur
  | refNew => exact hnew
  | refOld => exact hold

/-- Evicting frames from a buffer keeps every frame, in the buffer and in the queue, canonical. -/
theorem evict_canonical (depth n : Nat) {l : List RobSlot} {q : List Frame} (hl : ∀ r ∈ l, r.frame.Canonical)
    (hq : ∀ f ∈ q, f.Canonical) :
    (∀ r ∈ (evict depth n l q).1, r.frame.Canonical) ∧ ∀ f ∈ (evict depth n l q).2, f.Canonical := by
  obtain ⟨hrob, hout⟩ := evict_mem depth n l q
  refine ⟨fun r hr => hl r (hrob r hr), fun f hf => ?_⟩
  obtain hf | ⟨r, hr, rfl⟩ := hout f hf
  · exact hq f hf
  · exact hl r hr

theorem State.remake_memoryCanonical (h : s.MemoryCanonical) : s.remake.MemoryCanonical := by
  obtain ⟨hbs, -, -, -, hrob, hout⟩ := h
  exact ⟨hbs, FrameStore.reset_canonical, FrameStore.reset_canonical, FrameStore.reset_canonical, hrob, hout⟩

theorem creation_memoryCanonical (p : Params) (q : List Request) : (State.creation p q).MemoryCanonical :=
  ⟨rfl, FrameStore.reset_canonical, FrameStore.reset_canonical, FrameStore.reset_canonical, nofun, nofun⟩

theorem Micro.memoryCanonical (hm : Micro i s t) (h : s.MemoryCanonical) : t.MemoryCanonical := by
  obtain ⟨hbs, hcur, hnew, hold, hrob, hout⟩ := id h
  cases hm with
  | scratch hs => rw [show t = _ from hs]; exact h
  | block k b v => exact ⟨hbs, hcur.setPlane _ (Memory.wf_writeBlock _ _ _ _ v (hcur.plane _)), hnew, hold, hrob, hout⟩
  | references => exact ⟨hbs, hcur, hcur, hnew, hrob, hout⟩
  | push r =>
    have hall : ∀ x ∈ s.rob ++ [⟨s.frameOf (s.store r), s.robSeq⟩], x.frame.Canonical := fun x hx => by
      obtain hx | hx := List.mem_append.1 hx
      · exact hrob x hx
      · rw [List.mem_singleton.1 hx]
        exact h.store r
    exact ⟨hbs, hcur, hnew, hold, evict_canonical _ _ hall hout⟩
  | drain => exact ⟨hbs, hcur, hnew, hold, evict_canonical _ _ hrob hout⟩
  | window data => exact ⟨Memory.wf_ofBytes 0 data, hcur, hnew, hold, hrob, hout⟩
  | vol v =>
    unfold State.applyVol
    dsimp only
    split
    · exact h
    · exact State.remake_memoryCanonical h
  | output f rest _ ho => exact ⟨hbs, hcur, hnew, hold, hrob, fun g hg => hout g (ho ▸ List.mem_cons_of_mem f hg)⟩
  | flush => exact ⟨rfl, hcur, hnew, hold, nofun, nofun⟩
  | opening p w h' => exact State.remake_memoryCanonical (creation_memoryCanonical s.params s.inq)
  | _ => exact h

/-! ## Quantizers (R23, R26) -/

theorem Micro.quantLegal (hw : writesVop i = true → i.wf = true) (hm : Micro i s t) (h : s.QuantLegal) : t.QuantLegal := by
  obtain ⟨hlow, hhigh, hprev, hvop⟩ := id h
  cases hm with
  | scratch hs => rw [show t = _ from hs]; exact h
  | quant q hq => exact ⟨(hq h).1, (hq h).2, hprev, hvop⟩
  | prevQuant q hq => exact ⟨hlow, hhigh, hq h, hvop⟩
  | vol v => exact (s.applyVol_fixes State.QuantLegal v (fun _ _ _ _ => rfl) (fun _ => rfl)).mpr h
  | vop header hi hq => exact ⟨hlow, hhigh, hprev, hq (hw hi)⟩
  | flush => exact ⟨hlow, hhigh, Nat.zero_le _, hvop⟩
  | opening p w h' =>
    show 1 ≤ 1 ∧ 1 ≤ 31 ∧ 0 ≤ 31 ∧ 0 ≤ 31
    decide
  | _ => exact h

/-! ## Register files (R28 to R30) -/

theorem State.remake_filesSized (s : State) : s.remake.FilesSized :=
  ⟨List.length_replicate, List.length_replicate, List.length_replicate⟩

theorem Micro.filesSized (hm : Micro i s t) (h : s.FilesSized) : t.FilesSized := by
  obtain ⟨hmbi, hrefmv, hpc⟩ := id h
  cases hm with
  | scratch hs => rw [show t = _ from hs]; exact h
  | cache l _ hl => exact ⟨hmbi, hrefmv, hl.trans hpc⟩
  | mbInfo l hl => exact ⟨hl.elim (·.trans hmbi) id, hrefmv, hpc⟩
  | references => exact ⟨hmbi, hmbi, hpc⟩
  | vol v =>
    unfold State.applyVol
    dsimp only
    split
    · rename_i hsize
      have hw := congrArg Prod.fst hsize
      have hh := congrArg Prod.snd hsize
      simpa only [State.FilesSized, State.mbCount, State.mbw, State.mbh, hw, hh] using h
    · exact State.remake_filesSized _
  | flush => exact ⟨List.length_replicate, List.length_replicate, hpc⟩
  | opening p w h' => exact State.remake_filesSized _
  | _ => exact h

/-! ## The reorder buffer (R33) -/

theorem Micro.robBounded (hm : Micro i s t) (h : s.RobBounded) : t.RobBounded := by
  cases hm with
  | scratch hs => rw [show t = _ from hs]; exact h
  | push r => exact evict_bounded _ _ _ _ (Nat.le_add_right _ _)
  | drain => exact (evict_bounded 0 _ s.rob s.outq (Nat.le_add_right _ _)).trans (Nat.zero_le _)
  | vol v => exact (s.applyVol_fixes State.RobBounded v (fun _ _ _ _ => rfl) (fun _ => rfl)).mpr h
  | flush => exact Nat.zero_le _
  | opening p w h' => exact Nat.zero_le _
  | _ => exact h

/-! ## The VOL in force (R466, R421) -/

/-- A VOL header that is not invalid carries no zero size (R421). -/
theorem headerInvalid_size {v : VolHeader} (h : headerInvalid v = false) {w g : Nat} (hs : v.size = some (w, g)) :
    w ≠ 0 ∧ g ≠ 0 := by
  simp only [headerInvalid, hs, Bool.or_eq_false_iff, decide_eq_false_iff_not] at h
  exact ⟨h.1.1.1, h.1.1.2⟩

theorem State.applyVol_vol (s : State) (v : VolHeader) :
    (s.applyVol v).vol = ⟨true, v.timeIncRes, v.quantType, v.interlaced, v.quarterpel, v.spriteEnable, v.warpPoints,
      v.warpAccuracy, v.resyncMarkerDisable, v.dataPartitioned, v.shape, v.notEightBit, (s.sizeAfter v).1, (s.sizeAfter v).2⟩ := by
  unfold State.applyVol
  dsimp only
  split <;> rfl

theorem State.applyVol_opened (s : State) (v : VolHeader) : (s.applyVol v).opened = s.opened :=
  s.applyVol_fixes State.opened v (fun _ _ _ _ => rfl) (fun _ => rfl)

theorem Micro.volLegal (hm : Micro i s t) (h : s.VolLegal) : t.VolLegal := by
  cases hm with
  | scratch hs => rw [show t = _ from hs]; exact h
  | vol v _ hv hr =>
    unfold State.VolLegal
    rw [s.applyVol_vol, s.applyVol_opened]
    refine ⟨fun _ => hr, fun ho => ?_⟩
    cases hs : v.size with
    | none =>
      simp only [State.sizeAfter, hs]
      exact h.2 ho
    | some size =>
      obtain ⟨hw, hh⟩ := headerInvalid_size hv hs
      simp only [State.sizeAfter, hs]
      exact ⟨Nat.pos_of_ne_zero hw, Nat.pos_of_ne_zero hh⟩
  | opening p w g _ _ hw hg => exact ⟨nofun, fun _ => ⟨Nat.pos_of_ne_zero hw, Nat.pos_of_ne_zero hg⟩⟩
  | _ => exact h

/-! ## Requests and parameters (log entries 1, 8) -/

theorem Micro.host_eq (hm : Micro i s t) : (t.params, t.inq) = (s.params, s.inq) := by
  cases hm with
  | scratch hs => rw [show t = _ from hs]
  | vol v => exact s.applyVol_fixes (fun u => (u.params, u.inq)) v (fun _ _ _ _ => rfl) (fun _ => rfl)
  | _ => rfl

theorem MicroSteps.host_eq (h : MicroSteps i s t) : t.params = s.params ∧ t.inq = s.inq :=
  Prod.mk.inj (h.fixes (fun u => (u.params, u.inq)) fun _ _ => Micro.host_eq)

/-! ## Every step -/

/-- The invariant, through all the changes of an instruction that is well formed where it loads a VOP header. -/
theorem MicroSteps.inv (hw : writesVop i = true → i.wf = true) (h : MicroSteps i s t) (hs : s.Inv) : t.Inv := by
  obtain ⟨hbp, hmem, hquant, hfiles, hrob, hvol, hreq⟩ := hs
  exact ⟨h.keeps (fun _ _ => Micro.bpInWindow) hbp, h.keeps (fun _ _ => Micro.memoryCanonical) hmem,
    h.keeps (fun _ _ => Micro.quantLegal hw) hquant, h.keeps (fun _ _ => Micro.filesSized) hfiles,
    h.keeps (fun _ _ => Micro.robBounded) hrob, h.keeps (fun _ _ => Micro.volLegal) hvol,
    fun r hr => hreq r (h.host_eq.2 ▸ hr)⟩

theorem writesVop_command (h : writesVop i = true) : i.isCommand = true := by
  unfold writesVop at h
  split at h
  · rfl
  · rfl
  · rfl
  · cases h

/-- A step that answers is idle, or takes the first request and makes the elementary changes of some instruction: of the
command asked for, of the codeword fetched, or, for a fetch that fails, of `SKIP_BITS`. A command among them that writes
`VOP` is the one asked for. -/
theorem step_steps (h : step s = .next t) :
    t = s ∨ ∃ (i : Instr) (r : Request) (rest : List Request), s.inq = r :: rest ∧ MicroSteps i { s with inq := rest } t
      ∧ (writesVop i = true → r = .command i) := by
  cases hq : s.inq with
  | nil =>
    cases (step_idle hq).symm.trans h
    exact .inl rfl
  | cons r rest =>
    refine .inr ?_
    cases r with
    | command i =>
      cases hi : i.isCommand with
      | true =>
        rw [step_command hq hi] at h
        exact ⟨i, _, rest, rfl, exec_steps h, fun _ => rfl⟩
      | false => simp [step, hq, hi] at h
    | fetch tab =>
      cases hd : decode tab s.ahead with
      | ok i n =>
        have hc := decode_codeword hd
        rw [step_fetch_ok hq hd] at h
        refine ⟨i, _, rest, rfl, exec_steps h, fun hv => ?_⟩
        rw [writesVop_command hv] at hc
        cases hc
      | reject e n =>
        cases (step_fetch_reject hq hd).symm.trans h
        have hn : n ≤ 8 * s.bslen - s.bp := decode_reject_used hd
        exact ⟨.skipBits 0, _, rest, rfl, (MicroSteps.advance (s := { s with inq := rest }) rfl hn).trans
            (MicroSteps.of_scratch rfl), nofun⟩

end

/-- Settles O56: each part of the invariant goes through every elementary change. -/
theorem everyStepKeepsTheInvariant : Obligations.EveryStepKeepsTheInvariant := by
  intro s t hs h
  obtain rfl | ⟨i, r, rest, hq, hsteps, hreq⟩ := step_steps h
  · exact hs
  · obtain ⟨hbp, hmem, hquant, hfiles, hrob, hvol, hwf⟩ := hs
    refine hsteps.inv (fun hi => ?_) ⟨hbp, hmem, hquant, hfiles, hrob, hvol, fun x hx => hwf x (hq ▸ List.mem_cons_of_mem r hx)⟩
    have hr := hwf r (hq ▸ List.mem_cons_self)
    rw [hreq hi] at hr
    exact hr

/-- Settles O57: a level is written from `EV` or clamped, and an event is in range by the tables. -/
theorem everyStepKeepsLevelsInRange : Obligations.EveryStepKeepsLevelsInRange := by
  intro s t hs h
  obtain rfl | ⟨i, r, rest, -, hsteps, -⟩ := step_steps h
  · exact hs
  · exact hsteps.keeps (fun _ _ => Micro.levelsLegal) hs

end Sys2Proof.Machine
end

section
/-! PROOFS. Who may write what, where `exec` can stop, and the state after reset, `OPEN`, `FLUSH` and the checks of
`DECODE_VOP` (spec/10_state.md R34 to R39, spec/60_exceptions.md R466, R469). -/

namespace Sys2Proof.Machine

/-! ## Registers an instruction may not write -/

section
variable {i : Instr} {s t : State}

/-- A permission that `i` has and has not. -/
theorem permission_absurd {b : Bool} {P : Prop} (hyes : b = true) (hno : b = false) : P := by
  rw [hyes] at hno
  cases hno

theorem Micro.window_eq (hi : writesWindow i = false) (hm : Micro i s t) : (t.bs, t.bslen) = (s.bs, s.bslen) := by
  cases hm with
  | scratch hs => rw [show t = _ from hs]
  | window data hw => exact permission_absurd hw hi
  | vol v => exact s.applyVol_fixes (fun u => (u.bs, u.bslen)) v (fun _ _ _ _ => rfl) (fun _ => rfl)
  | flush hf => subst hf; cases hi
  | opening p w h hp => subst hp; cases hi
  | _ => rfl

theorem Micro.bp_eq (hi : movesBp i = false) (hm : Micro i s t) : t.bp = s.bp := by
  cases hm with
  | scratch hs => rw [show t = _ from hs]
  | placeBp p hb => exact permission_absurd hb hi
  | window data _ hb => exact permission_absurd hb hi
  | vol v => exact s.applyVol_fixes State.bp v (fun _ _ _ _ => rfl) (fun _ => rfl)
  | flush hf => subst hf; cases hi
  | opening p w h hp => subst hp; cases hi
  | _ => rfl

theorem Micro.vol_eq (hi : writesVol i = false) (hm : Micro i s t) :
    (t.vol, t.qmIntra, t.qmInter) = (s.vol, s.qmIntra, s.qmInter) := by
  cases hm with
  | scratch hs => rw [show t = _ from hs]
  | vol v hv => exact permission_absurd hv hi
  | opening p w h hp => subst hp; cases hi
  | _ => rfl

theorem Micro.vop_eq (hi : writesVop i = false) (hm : Micro i s t) : t.vop = s.vop := by
  cases hm with
  | scratch hs => rw [show t = _ from hs]
  | vol v => exact s.applyVol_fixes State.vop v (fun _ _ _ _ => rfl) (fun _ => rfl)
  | vop h hv => exact permission_absurd hv hi
  | opening p w h hp => subst hp; cases hi
  | _ => rfl

/-- What loads a VOL may make the references and `PC` anew (R424). -/
theorem writesVol_remakes (h : writesVol i = true) : writesReferences i = true ∧ writesCache i = true := by
  unfold writesVol at h
  split at h
  · exact ⟨rfl, rfl⟩
  · exact ⟨rfl, rfl⟩
  · exact ⟨rfl, rfl⟩
  · cases h

theorem Micro.references_eq (hi : writesReferences i = false) (hm : Micro i s t) :
    (t.refNew, t.refOld, t.refmv, t.refmvValid) = (s.refNew, s.refOld, s.refmv, s.refmvValid) := by
  cases hm with
  | scratch hs => rw [show t = _ from hs]
  | references hr => exact permission_absurd hr hi
  | vol v hv => exact permission_absurd (writesVol_remakes hv).1 hi
  | flush hf => subst hf; cases hi
  | opening p w h hp => subst hp; cases hi
  | _ => rfl

theorem Micro.pc_eq (hi : writesCache i = false) (hm : Micro i s t) : t.pc = s.pc := by
  cases hm with
  | scratch hs => rw [show t = _ from hs]
  | cache l hc => exact permission_absurd hc hi
  | vol v hv => exact permission_absurd (writesVol_remakes hv).2 hi
  | opening p w h hp => subst hp; cases hi
  | _ => rfl

/-- The frames of `OUTQ` stay at its head (R393). -/
theorem Micro.outq_grows (hi : takesOutput i = false) (hm : Micro i s t) : s.outq <+: t.outq := by
  cases hm with
  | scratch hs => rw [show t = _ from hs]
  | push r => exact evict_queue _ _ _ _
  | drain => exact evict_queue _ _ _ _
  | vol v => exact (s.applyVol_fixes State.outq v (fun _ _ _ _ => rfl) (fun _ => rfl)) ▸ List.prefix_refl _
  | output f rest ht => exact permission_absurd ht hi
  | flush hf => subst hf; cases hi
  | opening p w h hp => subst hp; cases hi
  | _ => exact List.prefix_refl _

/-- `ST.state` rises, and only `OPEN` raises it (R34). -/
theorem Micro.opened_eq (hm : Micro i s t) : t.opened = s.opened ∨ ((∃ p, i = .openInst p) ∧ t.opened = true) := by
  cases hm with
  | scratch hs => exact .inl (by rw [show t = _ from hs])
  | vol v => exact .inl (s.applyVol_opened v)
  | opening p w h hp => exact .inr ⟨⟨p, hp⟩, rfl⟩
  | _ => exact .inl rfl

theorem MicroSteps.opened_eq (h : MicroSteps i s t) : t.opened = s.opened ∨ ((∃ p, i = .openInst p) ∧ t.opened = true) := by
  induction h with
  | refl => exact .inl rfl
  | tail _ hlast ih =>
    obtain heq | hopen := hlast.opened_eq
    · rwa [heq]
    · exact .inr hopen

end

/-- Settles O60: each clause is a matter of the elementary changes. -/
theorem whoMayWriteWhat : Obligations.WhoMayWriteWhat := by
  intro i s t h
  have hs := exec_steps h
  have hopen := hs.opened_eq
  refine ⟨fun hi => ?window, fun hi => ?bp, fun hi => ?vol, fun hi => ?vop, fun hi => ?refs, fun hi => ?pc, fun hi => ?outq,
    fun ho => ?stays, fun ho ht => ?opens, hs.host_eq⟩
  case window => exact Prod.mk.inj (hs.fixes (fun u => (u.bs, u.bslen)) fun _ _ => Micro.window_eq hi)
  case bp => exact hs.fixes State.bp fun _ _ => Micro.bp_eq hi
  case vol =>
    simpa only [Prod.mk.injEq] using hs.fixes (fun u => (u.vol, u.qmIntra, u.qmInter)) fun _ _ => Micro.vol_eq hi
  case vop => exact hs.fixes State.vop fun _ _ => Micro.vop_eq hi
  case refs =>
    simpa only [Prod.mk.injEq] using
      hs.fixes (fun u => (u.refNew, u.refOld, u.refmv, u.refmvValid)) fun _ _ => Micro.references_eq hi
  case pc => exact hs.fixes State.pc fun _ _ => Micro.pc_eq hi
  case outq =>
    exact hs.keeps (P := fun u => s.outq <+: u.outq) (fun _ _ hm hu => hu.trans (hm.outq_grows hi)) (List.prefix_refl _)
  case stays => exact hopen.elim (·.trans ho) And.right
  case opens => exact hopen.elim (fun heq => permission_absurd ht (heq.trans ho)) And.left

/-! ## Where `exec` can stop -/

theorem runOnMacroblock_next_or_fault (k : Nat) (a : Act Result) (s : State) :
    (∃ t, runOnMacroblock k a s = .next t)
      ∨ (runOnMacroblock k a s = .fault .noSuchMacroblock ∧ s.opened = true ∧ s.mbCount ≤ k) := by
  unfold runOnMacroblock
  split
  · rename_i ho
    split
    · unfold outcomeOf
      split <;> exact .inl ⟨_, rfl⟩
    · exact .inr ⟨rfl, ho, by omega⟩
  · exact .inl ⟨_, rfl⟩

/-- Settles O51, by the meaning of the instruction: only an operation on a macroblock can fault. -/
theorem execStopsOnlyOffTheFrame : Obligations.ExecStopsOnlyOffTheFrame := by
  intro i s
  cases hc : i.isCommand with
  | false =>
    left
    cases codeword_meaning i hc with
    | header hg hx => exact hx s ▸ runCode_next _ _ _ s
    | value hx => exact hx s ▸ runReads_next _ _ _ s
    | row hx hr hl => exact hx s ▸ runAcRow_next _ _ _ _ s
    | escape hx he => exact hx s ▸ runReads_next _ _ _ s
    | pattern hx => exact ⟨_, hx s⟩
  | true =>
    cases command_meaning i hc with
    | command ha hx => exact .inl (hx s ▸ runCommand_next _ s)
    | onMacroblock ha hk hx =>
      obtain hnext | ⟨hfault, ho, hle⟩ := runOnMacroblock_next_or_fault _ _ s
      · exact .inl (hx s ▸ hnext)
      · exact .inr ⟨(hx s).trans hfault, ho, _, hk s, hle⟩
    | opening p hi =>
      subst hi
      left
      cases ho : s.opened with
      | true => exact ⟨_, exec_openInst_opened p ho⟩
      | false =>
        rw [exec_openInst_closed p ho]
        unfold outcomeOf
        split <;> exact ⟨_, rfl⟩

/-! ## Reset -/

theorem creation_inv (p : Params) : (State.creation p []).Inv := by
  have hcount : (State.creation p []).mbCount = 0 := by
    simp only [State.mbCount, State.mbw, State.creation, volReset, Nat.reduceAdd, Nat.reduceDiv, Nat.zero_mul]
  refine ⟨Nat.zero_le _, creation_memoryCanonical p [], ?quants, ?files, Nat.zero_le _, ⟨nofun, nofun⟩, ?requests⟩
  case quants =>
    show 1 ≤ 1 ∧ 1 ≤ 31 ∧ 0 ≤ 31 ∧ 0 ≤ 31
    decide
  case files =>
    unfold State.FilesSized
    rw [hcount]
    exact ⟨rfl, rfl, rfl⟩
  case requests => exact fun r hr => absurd hr List.not_mem_nil

theorem emptyStore_inside (s : State) : s.StoreInside FrameStore.reset := fun p c hc => by
  cases p <;> cases hc

/-- Settles O59: the registers after reset are those of creation. -/
theorem resetMeetsTheInvariant : Obligations.ResetMeetsTheInvariant := by
  refine ⟨creation_inv _, creation_levelsLegal _ _, ⟨emptyStore_inside _, emptyStore_inside _, emptyStore_inside _⟩, ?_⟩
  exact ⟨rfl, rfl, rfl, rfl, rfl, rfl, rfl, rfl, rfl, rfl, rfl, rfl, rfl, rfl, rfl, rfl, rfl, rfl, rfl, rfl, rfl, rfl, rfl, rfl⟩

/-! ## The checks of `DECODE_VOP` -/

theorem exec_decodeVop {s : State} (ho : s.opened = true) :
    exec .decodeVop s = outcomeOf ((do decodeVop; pure Result.none : Act Result) s) :=
  runCommand_opened _ s ho

/-- A check that fails raises its kind and changes nothing (R462). -/
theorem exec_decodeVop_fault {s : State} (ho : s.opened = true) {e : Kind} (hf : s.vopFault = some e) :
    Refuses .decodeVop s e := by
  have hrun : decodeVop s = .error e s := by rw [decodeVop, hf]
  unfold Refuses
  rw [exec_decodeVop ho, bind_apply_error _ _ s s e hrun]
  rfl

/-- A VOP that passes the checks and is passed over answers `Ok` at once (R383, R473, R474). -/
theorem exec_decodeVop_skipped {s : State} (ho : s.opened = true) (hf : s.vopFault = none) (hs : s.vopSkipped = true) :
    Answers .decodeVop s .none := by
  have hrun : decodeVop s = .ok () s := by rw [decodeVop, hf]; exact if_pos hs
  unfold Answers
  rw [exec_decodeVop ho, bind_apply_ok _ _ s s () hrun]
  rfl

/-- Settles O36: the checks of `vopFault` in their order, each in the words of the statement. -/
theorem decodeVopChecksComeFirst : Obligations.DecodeVopChecksComeFirst := by
  intro s ho
  simp only [← s.refused_iff, ← s.illegalVop_iff, ← s.vopSkipped_iff]
  refine ⟨fun hv => ?vol, fun hv ht => ?tool, fun hv ht hl => ?value, fun hv ht hl hp => ?skip, fun hv ht hl hp hq hq' => ?quant,
    fun hv ht hl hp hq hstart => ?start⟩
  case vol => exact exec_decodeVop_fault ho (by simp [State.vopFault, hv])
  case tool => exact exec_decodeVop_fault ho (by simp [State.vopFault, hv, ht])
  case value => exact exec_decodeVop_fault ho (by simp [State.vopFault, hv, ht, hl])
  case skip => exact exec_decodeVop_skipped ho (by simp [State.vopFault, hv, ht, hl, hp]) hp
  case quant =>
    have h0 := s.startQuant_eq_zero_iff.2 ⟨hq, hq'⟩
    exact exec_decodeVop_fault ho (by simp [State.vopFault, hv, ht, hl, hp, h0])
  case start =>
    have h0 : s.startQuant ≠ 0 := fun h => by
      obtain ⟨h1, h2⟩ := s.startQuant_eq_zero_iff.1 h
      exact hq.elim (· h1) (· h2)
    exact exec_decodeVop_fault ho (by simp [State.vopFault, hv, ht, hl, hp, h0, hstart])

/-! ## `FLUSH` and `OPEN` -/

/-- Settles O49: `FLUSH` writes what R38 and R39 list. -/
theorem flushResetsStreamState : Obligations.FlushResetsStreamState := by
  intro s ho
  show runCommand _ s = _
  rw [runCommand_opened _ _ ho]
  rfl

theorem exec_openInst_ok {p : CodecParameters} {s u : State} (hc : s.opened = false) (h : openInstance p s = .ok () u) :
    exec (.openInst p) s = .next (u.finish .none) := by
  rw [exec_openInst_closed p hc, bind_apply_ok _ _ s u () h]
  rfl

/-- An `OPEN` that raises leaves everything as it was, `ST.state` with it (R422). -/
theorem exec_openInst_error {p : CodecParameters} {s : State} {e : Kind} (hc : s.opened = false)
    (h : openInstance p s = .error e s) : Refuses (.openInst p) s e := by
  unfold Refuses
  rw [exec_openInst_closed p hc, bind_apply_error _ _ s s e h]
  rfl

theorem zeroEntry_iff (m : Option (Vector Nat 64)) : zeroEntry m = true ↔ ∃ v, m = some v ∧ 0 ∈ v.toList := by
  cases m with
  | none => simp [zeroEntry]
  | some v =>
    simp only [zeroEntry, List.any_eq_true, decide_eq_true_eq, Option.some.injEq, exists_eq_left', exists_eq_right]

/-- Where the size a VOL leaves is not zero, the VOL is invalid for a matrix entry of 0 alone (R421, R424). -/
theorem headerInvalid_iff {v : VolHeader} {d : Nat × Nat} (hw : (v.size.getD d).1 ≠ 0) (hh : (v.size.getD d).2 ≠ 0) :
    headerInvalid v = true ↔ (∃ m, v.intraMatrix = some m ∧ 0 ∈ m.toList) ∨ (∃ m, v.interMatrix = some m ∧ 0 ∈ m.toList) := by
  rw [← zeroEntry_iff, ← zeroEntry_iff]
  cases hs : v.size with
  | none => simp [headerInvalid, hs]
  | some size =>
    rw [hs] at hw hh
    simp only [Option.getD_some] at hw hh
    simp [headerInvalid, hs, hw, hh]

/-- What the check of `OPEN` refuses as `InvalidData` in a VOL that parses (R422). -/
theorem openVol_bad_iff (v : VolHeader) (d : Nat × Nat) :
    ((v.size.getD d).1 = 0 ∨ (v.size.getD d).2 = 0 ∨ (∃ m, v.intraMatrix = some m ∧ 0 ∈ m.toList)
        ∨ ∃ m, v.interMatrix = some m ∧ 0 ∈ m.toList) ↔
      ¬(((v.size.getD d).1 ≠ 0 ∧ (v.size.getD d).2 ≠ 0) ∧ headerInvalid v = false) := by
  by_cases hw : (v.size.getD d).1 = 0
  · simp [hw]
  · by_cases hh : (v.size.getD d).2 = 0
    · simp [hh]
    · simp only [← headerInvalid_iff hw hh, hw, hh, false_or, ne_eq, not_false_eq_true, and_self, true_and, Bool.not_eq_false]

/-- A VOL that leaves the size in force is loaded without making stores and files anew (R424). -/
theorem State.applyVol_sameSize {s : State} {v : VolHeader} (h : s.sizeAfter v = (s.vol.width, s.vol.height)) :
    s.applyVol v = { s with
      vol := ⟨true, v.timeIncRes, v.quantType, v.interlaced, v.quarterpel, v.spriteEnable, v.warpPoints, v.warpAccuracy,
        v.resyncMarkerDisable, v.dataPartitioned, v.shape, v.notEightBit, s.vol.width, s.vol.height⟩
      qmIntra := v.intraMatrix.getD defaultIntraMatrix
      qmInter := v.interMatrix.getD defaultInterMatrix } := by
  unfold State.applyVol
  dsimp only
  rw [if_pos h, h]

/-- Settles O42: the outcomes of `openInstance`, each in the words of the statement. -/
theorem openMakesAnOpenedInstance : Obligations.OpenMakesAnOpenedInstance := by
  intro p s hc made
  refine ⟨fun hd hw hh => ?plain, fun hd hsize => ?noSize, fun hd hv => ?unparsed, fun v hd hv => ?refusals,
    fun v w h hd hv hsize hw hh hvalid htools => ?withVol⟩
  case plain => exact exec_openInst_ok hc ((openInstance_noVol hd s).trans (if_pos ⟨hw, hh⟩))
  case noSize =>
    exact exec_openInst_error hc ((openInstance_noVol hd s).trans (if_neg fun hne => hsize.elim hne.1 hne.2))
  case unparsed => exact exec_openInst_error hc (openInstance_badVol hd hv s)
  case refusals =>
    have hopen := openInstance_vol hd hv s
    refine ⟨fun hb => ?_, fun hb hr => ?_⟩
    · exact exec_openInst_error hc (hopen.trans (if_neg ((openVol_bad_iff v _).1 hb)))
    · have htools : headerRefused v = true := (refusedTool_iff _ _ _ _ _ _).2 hr
      rw [if_pos (not_not.1 ((openVol_bad_iff v _).not.1 hb)), if_neg (by simp [htools])] at hopen
      exact exec_openInst_error hc hopen
  case withVol =>
    have hopen := openInstance_vol hd hv s
    rw [hsize, if_pos ⟨⟨hw, hh⟩, hvalid⟩, if_pos htools] at hopen
    have hafter : (s.openWith w h).sizeAfter v = (w, h) := by
      show v.size.getD (w, h) = (w, h)
      cases hs : v.size with
      | none => rfl
      | some own => rw [hs] at hsize; exact hsize
    rw [exec_openInst_ok hc hopen, State.applyVol_sameSize hafter]
    rfl

end Sys2Proof.Machine
end

section
/-! PROOFS. The memories (spec/20_memory.md): a sample of a macroblock of the frame stands inside its plane (R71, R75), so no
elementary change puts one past the end of a plane. -/

namespace Sys2Proof.Machine

/-! ## Offsets of samples (R71, R312) -/

/-- A block of a macroblock of the frame lies inside the rows of its plane. -/
theorem State.block_fits_rows (s : State) (k : Nat) (b : Fin 6) (hk : k < s.mbCount) :
    blockY (s.mbY k) b + 8 ≤ s.rows (blockPlane b) := by
  have hy : s.mbY k < s.mbh := Nat.div_lt_of_lt_mul hk
  by_cases hluma : b.val < 4
  · simp only [blockY, blockPlane, if_pos hluma, State.rows]
    omega
  · have hchroma : s.rows (blockPlane b) = 8 * s.mbh := by
      simp only [blockPlane, if_neg hluma]
      split <;> rfl
    simp only [blockY, if_neg hluma, hchroma]
    omega

/-- A sample in a row of the plane, at a column of it, stands before the plane's end. -/
theorem offset_lt_area {stride rows x y : Nat} (hx : x < stride) (hy : y < rows) : y * stride + x < stride * rows :=
  calc y * stride + x < (y + 1) * stride := by rw [Nat.add_one_mul]; omega
    _ ≤ rows * stride := Nat.mul_le_mul_right stride hy
    _ = stride * rows := Nat.mul_comm rows stride

/-- A sample of a block of a macroblock of the frame is inside its plane (R75). -/
theorem State.sampleAddr_lt (s : State) (k : Nat) (b : Fin 6) (i : Fin 64) (hk : k < s.mbCount) :
    s.sampleAddr k b i < s.stride (blockPlane b) * s.rows (blockPlane b) := by
  have hcol : colOf i < 8 := Nat.mod_lt _ (by decide)
  have hrow : rowOf i < 8 := Nat.div_lt_of_lt_mul i.isLt
  have hx := s.block_fits k b hk
  have hy := s.block_fits_rows k b hk
  exact offset_lt_area (by omega) (by omega)

/-! ## Writes to a plane -/

/-- Folding writes leaves an address only where one of them, or the memory before, has it. -/
theorem Memory.mem_foldl_write {α : Type} (l : List α) (f : α → Nat) (g : α → Byte) (m : Memory) (c : Host.Cell)
    (h : c ∈ l.foldl (fun m i => m.write (f i) (g i)) m) : (∃ i ∈ l, c.1 = f i) ∨ c ∈ m := by
  induction l generalizing m with
  | nil => exact .inr h
  | cons a l ih =>
    obtain ⟨i, hi, hc⟩ | hm := ih _ h
    · exact .inl ⟨i, List.mem_cons_of_mem a hi, hc⟩
    · obtain rfl | hm := Memory.mem_write m (f a) (g a) c hm
      · exact .inl ⟨a, List.mem_cons_self, rfl⟩
      · exact .inr hm

/-- Where the cells of a plane come from when a block has been written to it. -/
theorem Memory.mem_writeBlock (m : Memory) (stride x0 y0 : Nat) (v : Vector Byte 64) (c : Host.Cell)
    (h : c ∈ m.writeBlock stride x0 y0 v) : (∃ i : Fin 64, c.1 = (y0 + rowOf i) * stride + (x0 + colOf i)) ∨ c ∈ m :=
  (Memory.mem_foldl_write raster _ _ m c h).imp_left fun ⟨i, _, hi⟩ => ⟨i, hi⟩

theorem State.StoreInside.setPlane {s : State} {f : FrameStore} (h : s.StoreInside f) {p : Plane} {m : Memory}
    (hm : ∀ c ∈ m, c.1 < s.stride p * s.rows p) : s.StoreInside (f.setPlane p m) := fun q c hc => by
  by_cases hq : q = p
  · subst hq
    rw [FrameStore.plane_setPlane_same] at hc
    exact hm c hc
  · rw [FrameStore.plane_setPlane_other f p q m hq] at hc
    exact h q c hc

/-- Writing a block of a macroblock of the frame keeps `CUR` inside its planes (R75, R312). -/
theorem State.writeBlock_cur_inside {s : State} (h : s.StoreInside s.cur) {k : Nat} (b : Fin 6) (v : Vector Byte 64)
    (hk : k < s.mbCount) : s.StoreInside (s.writeBlock k b v).cur :=
  h.setPlane fun c hc => by
    obtain ⟨i, hi⟩ | hold := Memory.mem_writeBlock _ _ _ _ v c hc
    · exact hi.trans_lt (s.sampleAddr_lt k b i hk)
    · exact h _ c hold

/-! ## Planes of the same and of a new size -/

/-- Where a plane ends is a matter of the frame's size alone (R13, R71). -/
theorem State.storeInside_of_size {s t : State} (hsize : (t.vol.width, t.vol.height) = (s.vol.width, s.vol.height))
    {f : FrameStore} (h : s.StoreInside f) : t.StoreInside f := by
  obtain ⟨hw, hh⟩ := Prod.mk.inj hsize
  have hmbw : t.mbw = s.mbw := congrArg (fun w => (w + 15) / 16) hw
  have hmbh : t.mbh = s.mbh := congrArg (fun g => (g + 15) / 16) hh
  intro p c hc
  have hc := h p c hc
  cases p <;> simpa only [State.stride, State.rows, hmbw, hmbh] using hc

theorem State.remake_storesInside (s : State) : s.remake.StoresInside :=
  ⟨emptyStore_inside _, emptyStore_inside _, emptyStore_inside _⟩

/-- `LOAD_VOL` keeps the size, and with it the stores, or makes the stores anew (R424). -/
theorem State.applyVol_storesInside {s : State} (h : s.StoresInside) (v : VolHeader) : (s.applyVol v).StoresInside := by
  obtain ⟨hcur, hnew, hold⟩ := h
  unfold State.applyVol
  dsimp only
  split
  case isTrue hsize =>
    exact ⟨State.storeInside_of_size hsize hcur, State.storeInside_of_size hsize hnew, State.storeInside_of_size hsize hold⟩
  case isFalse => exact State.remake_storesInside _

/-! ## Every step -/

theorem Micro.storesInside {i : Instr} {s t : State} (hm : Micro i s t) (h : s.StoresInside) : t.StoresInside := by
  obtain ⟨hcur, hnew, hold⟩ := id h
  cases hm with
  | scratch hs => rw [show t = _ from hs]; exact h
  | block k b v hk => exact ⟨State.writeBlock_cur_inside hcur b v hk, hnew, hold⟩
  | references => exact ⟨hcur, hcur, hnew⟩
  | vol v => exact State.applyVol_storesInside h v
  | opening p w g => exact State.remake_storesInside _
  | _ => exact h

/-- Settles O58: of the elementary changes only a block's write adds samples, and it adds those of a macroblock of the
frame. -/
theorem everyStepKeepsSamplesInsideTheirPlanes : Obligations.EveryStepKeepsSamplesInsideTheirPlanes := by
  intro s t hs h
  obtain rfl | ⟨i, r, rest, -, hsteps, -⟩ := step_steps h
  · exact hs
  · exact hsteps.keeps (fun _ _ => Micro.storesInside) hs

end Sys2Proof.Machine
end
section
/-! PROOFS. How a parse and the bits it is written in belong together (spec/30_encoding.md section 1): where a parse ends
with a value, the bits it took are that value's writing; where those bits stand at the cursor, it ends with that value; and
where they are cut off, it stops after the reads that fit (R104, R140, R470). -/

namespace Sys2Proof.Machine

/-! ## Codeword tables -/

/-- The codewords of a list that go on with bit `b`, after that bit. -/
def codesAfter (b : Bool) (l : List (List Bool)) : List (List Bool) :=
  l.filterMap fun c => match c with
    | [] => none
    | x :: rest => if x = b then some rest else none

/-- Checks bit by bit that no codeword of a list is the head of another. -/
def headsDiffer (n : Nat) (l : List (List Bool)) : Bool :=
  match n, l with
  | _, [] => true
  | _, [_] => true
  | 0, _ => false
  | n + 1, l => l.all (fun c => !c.isEmpty) && headsDiffer n (codesAfter true l) && headsDiffer n (codesAfter false l)

theorem headsDiffer_pairwise (n : Nat) (l : List (List Bool)) (h : headsDiffer n l = true) :
    l.Pairwise fun a b => ¬a <+: b ∧ ¬b <+: a := by
  fun_induction headsDiffer n l with
  | case1 => exact .nil
  | case2 => exact List.pairwise_singleton _ _
  | case3 => cases h
  | case4 n l _ _ iht ihf =>
    simp only [Bool.and_eq_true, List.all_eq_true] at h
    obtain ⟨⟨hne, ht⟩, hf⟩ := h
    have ht := List.pairwise_filterMap.1 (iht ht)
    have hf := List.pairwise_filterMap.1 (ihf hf)
    refine (ht.and hf).imp_of_mem fun {a b} ha hb hab => ?_
    cases a with
    | nil => simpa using hne _ ha
    | cons x a =>
      cases b with
      | nil => simpa using hne _ hb
      | cons y b =>
        simp only [List.cons_prefix_cons]
        cases x <;> cases y <;> simp at hab ⊢ <;> exact hab

/-- No codeword of a table is the head of another (R103). -/
def PrefixFree {α : Type} (code : α → List Bool) (l : List α) : Prop :=
  l.Pairwise fun a b => ¬code a <+: code b ∧ ¬code b <+: code a

theorem PrefixFree.of_heads {α : Type} {code : α → List Bool} {l : List α} (n : Nat) (h : headsDiffer n (l.map code) = true) :
    PrefixFree code l := List.pairwise_map.1 (headsDiffer_pairwise n _ h)

theorem PrefixFree.eq_of_prefix {α : Type} {code : α → List Bool} {l : List α} (h : PrefixFree code l) {a b : α}
    (ha : a ∈ l) (hb : b ∈ l) (hab : code a <+: code b) : a = b := by
  by_contra hne
  have hsymm : Std.Symm fun a b => ¬code a <+: code b ∧ ¬code b <+: code a := ⟨fun _ _ h => h.symm⟩
  exact (List.Pairwise.forall h ha hb hne).1 hab

theorem mcbpcITable_prefixFree : PrefixFree McbpcRow.code mcbpcITable := .of_heads 12 rfl
theorem mcbpcPTable_prefixFree : PrefixFree McbpcRow.code mcbpcPTable := .of_heads 12 rfl
theorem cbpyTable_prefixFree : PrefixFree CbpyRow.code cbpyTable := .of_heads 12 rfl
theorem mvdTable_prefixFree : PrefixFree MvdRow.code mvdTable := .of_heads 12 rfl
theorem dcszLTable_prefixFree : PrefixFree DcRow.code dcszLTable := .of_heads 12 rfl
theorem dcszCTable_prefixFree : PrefixFree DcRow.code dcszCTable := .of_heads 12 rfl
theorem modbTable_prefixFree : PrefixFree ModbRow.code modbTable := .of_heads 12 rfl
theorem bmbtypeTable_prefixFree : PrefixFree BmbtypeRow.code bmbtypeTable := .of_heads 12 rfl
theorem dbquantTable_prefixFree : PrefixFree QuantRow.code dbquantTable := .of_heads 12 rfl
theorem dquantTable_prefixFree : PrefixFree QuantRow.code dquantTable := .of_heads 12 rfl

/-- The escape and the rows of an AC table (R205). -/
theorem acTable_prefixFree (t : AcSel) : PrefixFree acCode (none :: t.rows.map some) := by
  cases t with
  | intra => exact .of_heads 12 (show headsDiffer 12 ((none :: acIntraTable.map some).map acCode) = true from rfl)
  | inter => exact .of_heads 12 (show headsDiffer 12 ((none :: acInterTable.map some).map acCode) = true from rfl)

/-! ## Reads that are cut off -/

/-- Reads that end inside the first of two runs of reads. -/
theorem wholeReads_append_lt (l r : List Nat) (n : Nat) (h : n < l.sum) : wholeReads (l ++ r) n = wholeReads l n := by
  induction l generalizing n with
  | nil => simp at h
  | cons a l ih =>
    simp only [List.sum_cons] at h
    simp only [List.cons_append, wholeReads]
    split
    · rw [ih _ (by omega)]
    · rfl

/-- Reads that pass the first of two runs of reads. -/
theorem wholeReads_append_ge (l r : List Nat) (n : Nat) (h : l.sum ≤ n) :
    wholeReads (l ++ r) n = l.sum + wholeReads r (n - l.sum) := by
  induction l generalizing n with
  | nil => simp
  | cons a l ih =>
    simp only [List.sum_cons] at h ⊢
    simp only [List.cons_append, wholeReads]
    rw [if_pos (by omega), ih _ (by omega), Nat.sub_sub, Nat.add_assoc]

theorem wholeReads_single_lt {a n : Nat} (h : n < a) : wholeReads [a] n = 0 := by
  rw [wholeReads, if_neg (by omega)]

/-! ## A parse and the writing of its values -/

section
variable {α β : Type}

/-- The parse `d` takes the bits `w` for the value `v`, in reads of the lengths `l`, whatever follows them; where they are
cut off it fails after the reads that fit (R470). -/
structure Dec.Takes (d : Dec α) (v : α) (w : List Bool) (l : List Nat) : Prop where
  sum : l.sum = w.length
  whole : ∀ (tail : List Bool) (u : Nat), d ⟨w ++ tail, u⟩ = .ok v ⟨tail, u + w.length⟩
  cut : ∀ m u : Nat, m < w.length → ∃ (e : Reject) (rest : List Bool), d ⟨w.take m, u⟩ = .error e ⟨rest, u + wholeReads l m⟩

/-- The values of the parse `d` are those of `S`: `S v w l` says that `v` is written as the bits `w`, in reads of the
lengths `l`. -/
structure Dec.Codes (d : Dec α) (S : α → List Bool → List Nat → Prop) : Prop where
  written : ∀ c v e, d c = .ok v e → ∃ w l, S v w l ∧ c.rest = w ++ e.rest ∧ e.used = c.used + w.length
  takes : ∀ v w l, S v w l → Dec.Takes d v w l

/-- The first read of `d` decides: it is that of a value of `S`, or `d` fails with nothing taken (R104). -/
def Dec.Starts (d : Dec α) (S : α → List Bool → List Nat → Prop) : Prop :=
  ∀ c, (∃ v w l, S v w l ∧ w.take (l.headD 0) <+: c.rest) ∨ ∃ e, d c = .error e c

/-- A value of one parse, and a value of the parse that follows it. -/
def Dec.Then (S : α → List Bool → List Nat → Prop) (T : α → β → List Bool → List Nat → Prop) (b : β) (w : List Bool)
    (l : List Nat) : Prop :=
  ∃ a w1 l1 w2 l2, S a w1 l1 ∧ T a b w2 l2 ∧ w = w1 ++ w2 ∧ l = l1 ++ l2

theorem Dec.Codes.congr {d : Dec α} {S T : α → List Bool → List Nat → Prop} (h : Dec.Codes d S)
    (hST : ∀ v w l, S v w l ↔ T v w l) : Dec.Codes d T :=
  (funext fun v => funext fun w => funext fun l => propext (hST v w l) : S = T) ▸ h

theorem Dec.codes_pure (a : α) : Dec.Codes (pure a : Dec α) fun v w l => v = a ∧ w = [] ∧ l = [] where
  written := by
    rintro c v e h
    cases h
    exact ⟨[], [], ⟨rfl, rfl, rfl⟩, rfl, rfl⟩
  takes := by
    rintro v w l ⟨rfl, rfl, rfl⟩
    exact ⟨rfl, fun _ _ => rfl, fun m _ h => absurd h (Nat.not_lt_zero m)⟩

theorem Dec.codes_throw (e : Reject) : Dec.Codes (throw e : Dec α) fun _ _ _ => False where
  written := fun _ _ _ h => by cases h
  takes := fun _ _ _ h => h.elim

theorem Dec.bind_apply_ok {x : Dec α} {f : α → Dec β} {c d : Cursor} {a : α} (h : x c = .ok a d) : (x >>= f) c = f a d := by
  show EStateM.bind x f c = _
  simp only [EStateM.bind, h]

theorem Dec.bind_apply_error {x : Dec α} {f : α → Dec β} {c d : Cursor} {e : Reject} (h : x c = .error e d) :
    (x >>= f) c = .error e d := by
  show EStateM.bind x f c = _
  simp only [EStateM.bind, h]

/-- What follows takes its bits after those of what went before. -/
theorem Dec.Takes.bind {x : Dec α} {f : α → Dec β} {a : α} {b : β} {w1 w2 : List Bool} {l1 l2 : List Nat}
    (hx : Dec.Takes x a w1 l1) (hf : Dec.Takes (f a) b w2 l2) : Dec.Takes (x >>= f) b (w1 ++ w2) (l1 ++ l2) where
  sum := by rw [List.sum_append, hx.sum, hf.sum, List.length_append]
  whole := fun tail u => by
    rw [List.append_assoc, bind_apply_ok (hx.whole _ u), hf.whole, List.length_append, Nat.add_assoc]
  cut := fun m u hm => by
    have hs := hx.sum
    rw [List.length_append] at hm
    obtain hlt | hge := Nat.lt_or_ge m w1.length
    · obtain ⟨e, rest, h⟩ := hx.cut m u hlt
      refine ⟨e, rest, ?_⟩
      rw [List.take_append_of_le_length hlt.le, bind_apply_error h, wholeReads_append_lt _ _ _ (by omega)]
    · obtain ⟨e, rest, h⟩ := hf.cut (m - w1.length) (u + w1.length) (by omega)
      refine ⟨e, rest, ?_⟩
      rw [List.take_append, List.take_of_length_le hge, bind_apply_ok (hx.whole _ u), h,
        wholeReads_append_ge _ _ _ (by omega), hs, Nat.add_assoc]

theorem Dec.Codes.bind {x : Dec α} {f : α → Dec β} {S : α → List Bool → List Nat → Prop}
    {T : α → β → List Bool → List Nat → Prop} (hx : Dec.Codes x S) (hf : ∀ a, Dec.Codes (f a) (T a)) : Dec.Codes (x >>= f) (Dec.Then S T) where
  written := fun c v e h => by
    obtain ⟨a, d, h1, h2⟩ := (Dec.bind_ok_iff x f c e v).1 h
    obtain ⟨w1, l1, hs, hr1, hu1⟩ := hx.written c a d h1
    obtain ⟨w2, l2, ht, hr2, hu2⟩ := (hf a).written d v e h2
    refine ⟨w1 ++ w2, l1 ++ l2, ⟨a, w1, l1, w2, l2, hs, ht, rfl, rfl⟩, ?_, ?_⟩
    · rw [hr1, hr2, List.append_assoc]
    · rw [hu2, hu1, List.length_append, Nat.add_assoc]
  takes := by
    rintro v _ _ ⟨a, w1, l1, w2, l2, hs, ht, rfl, rfl⟩
    exact (hx.takes a w1 l1 hs).bind ((hf a).takes v w2 l2 ht)

theorem Dec.codes_ite {p : Prop} [Decidable p] {x y : Dec α} {S T : α → List Bool → List Nat → Prop} (hx : Dec.Codes x S)
    (hy : Dec.Codes y T) : Dec.Codes (if p then x else y) fun v w l => if p then S v w l else T v w l := by
  split
  · exact hx
  · exact hy

/-- A parse that fails with nothing taken (R104). -/
def Dec.AllOrNothing (d : Dec α) : Prop := ∀ c e c', d c = .error e c' → c' = c

/-- A parse that is one read: where its values are written as `S` says and found again, it also fails on what is cut off. -/
theorem Dec.codes_of_one_read {d : Dec α} {S : α → List Bool → List Nat → Prop} (hd : Dec.AllOrNothing d)
    (hl : ∀ v w l, S v w l → l = [w.length])
    (hw : ∀ c v e, d c = .ok v e → ∃ w l, S v w l ∧ c.rest = w ++ e.rest ∧ e.used = c.used + w.length)
    (hr : ∀ v w l, S v w l → ∀ tail u, d ⟨w ++ tail, u⟩ = .ok v ⟨tail, u + w.length⟩) : Dec.Codes d S where
  written := hw
  takes := fun v w l hs => by
    obtain rfl := hl v w l hs
    refine ⟨by simp, hr v w _ hs, fun m u hm => ?_⟩
    cases hc : d ⟨w.take m, u⟩ with
    | error e c =>
      rw [hd _ _ _ hc, wholeReads_single_lt hm]
      exact ⟨e, _, rfl⟩
    | ok v' e =>
      obtain ⟨w', l', hs', hrest, -⟩ := hw _ _ _ hc
      have hlen : w'.length ≤ m := by
        have h := congrArg List.length hrest
        simp only [List.length_take, List.length_append] at h
        omega
      have hsplit : w' ++ (e.rest ++ w.drop m) = w ++ [] := by
        rw [← List.append_assoc, ← hrest, List.take_append_drop, List.append_nil]
      have hsame := hr v w _ hs [] u
      rw [← hsplit, hr v' w' l' hs'] at hsame
      simp only [EStateM.Result.ok.injEq, Cursor.mk.injEq] at hsame
      omega

/-- `n` bits as a number (R11, R140). -/
theorem Dec.allOrNothing_takeBits (n : Nat) : Dec.AllOrNothing (takeBits n) := fun c e c' h => by
  unfold takeBits at h
  split at h
  · cases h
  · cases h
    rfl

theorem Dec.codes_takeBits (n : Nat) : Dec.Codes (takeBits n) fun v w l => v < 2 ^ n ∧ w = toBits n v ∧ l = [n] := by
  refine Dec.codes_of_one_read (Dec.allOrNothing_takeBits n) (fun v w l hs => ?_) (fun c v e h => ?_) (fun v w l hs tail u => ?_)
  · rw [hs.2.2, hs.2.1, toBits_length]
  · obtain ⟨rfl, rfl, hn⟩ := takeBits_ok h
    have hlen : (c.rest.take n).length = n := List.length_take_of_le hn
    have hv := Sys2Proof.bitsVal_lt (c.rest.take n)
    have hw := toBits_bitsVal (c.rest.take n)
    rw [hlen] at hv hw
    refine ⟨_, [n], ⟨hv, rfl, rfl⟩, ?_, ?_⟩
    · rw [hw]
      exact (List.take_append_drop n c.rest).symm
    · rw [hw, hlen]
      rfl
  · obtain ⟨hv, rfl, rfl⟩ := hs
    have htake : (toBits n v ++ tail).take n = toBits n v := List.take_left' (toBits_length n v)
    have hdrop : (toBits n v ++ tail).drop n = tail := List.drop_left' (toBits_length n v)
    simp only [takeBits, Cursor.skip, htake, hdrop, bitsVal_toBits_of_lt n v hv, toBits_length]
    rw [if_pos (by simp)]

theorem Dec.codes_takeBit : Dec.Codes takeBit fun v w l => w = [v] ∧ l = [1] := by
  refine ((Dec.codes_takeBits 1).bind fun v => Dec.codes_pure (v == 1)).congr fun b w l => ⟨?_, ?_⟩
  · rintro ⟨v, _, _, _, _, ⟨hv, rfl, rfl⟩, ⟨rfl, rfl, rfl⟩, rfl, rfl⟩
    interval_cases v <;> exact ⟨rfl, rfl⟩
  · rintro ⟨rfl, rfl⟩
    refine ⟨b.toNat, _, _, [], [], ⟨b.toNat_lt, rfl, rfl⟩, ⟨?_, rfl, rfl⟩, ?_, rfl⟩ <;> cases b <;> rfl

theorem prefix_of_find {code : α → List Bool} {t : List α} {l : List Bool} {r : α}
    (h : t.find? (fun x => (code x).isPrefixOf l) = some r) : code r <+: l := by
  have hp := List.find?_some h
  exact List.isPrefixOf_iff_prefix.1 hp

theorem Dec.allOrNothing_vlc (code : α → List Bool) (t : List α) : Dec.AllOrNothing (vlc code t) := fun c e c' h => by
  unfold vlc at h
  split at h
  · cases h
  · split at h <;> (cases h; rfl)

theorem Dec.written_vlc {code : α → List Bool} {t : List α} {c : Cursor} {r : α} {e : Cursor} (h : vlc code t c = .ok r e) :
    ∃ w l, (r ∈ t ∧ w = code r ∧ l = [(code r).length]) ∧ c.rest = w ++ e.rest ∧ e.used = c.used + w.length := by
  obtain ⟨hr, rfl⟩ := vlc_ok h
  refine ⟨code r, _, ⟨hr, rfl, rfl⟩, ?_, rfl⟩
  unfold vlc at h
  split at h
  · rename_i r' hf
    cases h
    exact (List.prefix_iff_eq_append.1 (prefix_of_find hf)).symm
  · split at h <;> cases h

/-- A codeword of a table (R103, R104). -/
theorem Dec.codes_vlc {code : α → List Bool} {t : List α} (ht : PrefixFree code t) :
    Dec.Codes (vlc code t) fun r w l => r ∈ t ∧ w = code r ∧ l = [(code r).length] := by
  refine Dec.codes_of_one_read (Dec.allOrNothing_vlc code t) (fun r w l hs => ?_) (fun _ _ _ => Dec.written_vlc)
    (fun r w l hs tail u => ?_)
  · rw [hs.2.2, hs.2.1]
  · obtain ⟨hr, rfl, rfl⟩ := hs
    have hfind : t.find? (fun x => (code x).isPrefixOf (code r ++ tail)) = some r := by
      cases hf : t.find? (fun x => (code x).isPrefixOf (code r ++ tail)) with
      | none => exact absurd (List.isPrefixOf_iff_prefix.2 (List.prefix_append _ _)) (List.find?_eq_none.1 hf r hr)
      | some x =>
        have hx := List.mem_of_find?_eq_some hf
        obtain h | h := List.prefix_or_prefix_of_prefix (prefix_of_find hf) (List.prefix_append (code r) tail)
        · rw [ht.eq_of_prefix hx hr h]
        · rw [ht.eq_of_prefix hr hx h]
    simp only [vlc, hfind, Cursor.skip, List.drop_left]

end

end Sys2Proof.Machine
end

section
/-! PROOFS. The formats of the bitstream instructions (spec/30_encoding.md R103 to R109, R114, R115): each parse takes the
writing of what it answers, and so the decoder takes the encoding of the instruction it answers. -/

namespace Sys2Proof.Machine

/-! ## The parses of the formats -/

section
variable {α β : Type}

theorem Dec.Codes.map {x : Dec α} {S : α → List Bool → List Nat → Prop} (hx : Dec.Codes x S) (g : α → β) :
    Dec.Codes (do return g (← x)) fun b w l => ∃ a, S a w l ∧ g a = b := by
  refine (hx.bind fun a => Dec.codes_pure (g a)).congr fun b w l => ⟨?_, ?_⟩
  · rintro ⟨a, w1, l1, _, _, hs, ⟨rfl, rfl, rfl⟩, rfl, rfl⟩
    exact ⟨a, by simpa using hs, rfl⟩
  · rintro ⟨a, hs, rfl⟩
    exact ⟨a, w, l, [], [], hs, ⟨rfl, rfl, rfl⟩, by simp, by simp⟩

end

/-- A motion-vector delta: codeword, and for a magnitude that is not 0 sign and residual (R106). -/
def MvdCode (f : Nat) (a : MvdRow × Bool × Nat) (w : List Bool) (l : List Nat) : Prop :=
  a.1 ∈ mvdTable ∧
    if a.1.mag = 0 then a.2 = (false, 0) ∧ w = a.1.code ∧ l = [a.1.code.length]
    else a.2.2 < 2 ^ (f - 1) ∧ w = a.1.code ++ a.2.1 :: toBits (f - 1) a.2.2 ∧ l = [a.1.code.length, 1, f - 1]

theorem Dec.codes_parseMvd (f : Nat) : Dec.Codes (parseMvd f) (MvdCode f) := by
  refine ((Dec.codes_vlc mvdTable_prefixFree).bind fun r => Dec.codes_ite (Dec.codes_pure (r, false, 0))
    (Dec.codes_takeBit.bind fun s => (Dec.codes_takeBits (f - 1)).bind fun res => Dec.codes_pure (r, s, res))).congr ?_
  rintro ⟨r, s, res⟩ w l
  constructor
  · rintro ⟨r', _, _, w2, l2, ⟨hr, rfl, rfl⟩, h, rfl, rfl⟩
    split at h
    · rename_i h0
      obtain ⟨hv, rfl, rfl⟩ := h
      cases hv
      exact ⟨hr, by simp [h0]⟩
    · rename_i h0
      obtain ⟨s', _, _, _, _, ⟨rfl, rfl⟩, ⟨res', _, _, _, _, ⟨hres, rfl, rfl⟩, ⟨hv, rfl, rfl⟩, rfl, rfl⟩, rfl, rfl⟩ := h
      cases hv
      exact ⟨hr, by simp [h0, hres]⟩
  · rintro ⟨hr, h⟩
    split at h
    · rename_i h0
      obtain ⟨hv, rfl, rfl⟩ := h
      cases hv
      exact ⟨r, _, _, [], [], ⟨hr, rfl, rfl⟩, by simp [show r.mag = 0 from h0], by simp, by simp⟩
    · rename_i h0
      obtain ⟨hres, rfl, rfl⟩ := h
      refine ⟨r, _, _, _, _, ⟨hr, rfl, rfl⟩, ?_, rfl, rfl⟩
      dsimp only at h0 ⊢
      rw [if_neg h0]
      exact ⟨s, [s], [1], _, _, ⟨rfl, rfl⟩, ⟨res, _, _, [], [], ⟨hres, rfl, rfl⟩, ⟨rfl, rfl, rfl⟩, rfl, rfl⟩, by simp, by simp⟩

/-- The reads of a value of `n` bits: one, or none for a value without bits (R107, R109). -/
def valueReads (n : Nat) : List Nat := if n = 0 then [] else [n]

theorem Dec.codes_takeValue (n : Nat) : Dec.Codes (takeBits n) fun v w l => v < 2 ^ n ∧ w = toBits n v ∧ l = valueReads n := by
  by_cases hn : n = 0
  · subst hn
    refine ⟨fun c v e h => ?_, fun v w l hs => ?_⟩
    · obtain ⟨w, l, ⟨hv, hw, -⟩, hr, hu⟩ := (Dec.codes_takeBits 0).written c v e h
      exact ⟨w, [], ⟨hv, hw, rfl⟩, hr, hu⟩
    · obtain ⟨hv, rfl, rfl⟩ := hs
      exact ⟨rfl, ((Dec.codes_takeBits 0).takes v _ _ ⟨hv, rfl, rfl⟩).whole, fun m u hm => absurd hm (Nat.not_lt_zero m)⟩
  · rw [valueReads, if_neg hn]
    exact Dec.codes_takeBits n

/-- An intra DC differential: codeword, value, and the marker after a size of more than 8 (R107). -/
def DcCode (t : List DcRow) (a : DcRow × Nat × Bool) (w : List Bool) (l : List Nat) : Prop :=
  a.1 ∈ t ∧ a.2.1 < 2 ^ a.1.size ∧
    if a.1.size > 8 then w = a.1.code ++ toBits a.1.size a.2.1 ++ [a.2.2] ∧ l = [a.1.code.length, a.1.size, 1]
    else a.2.2 = true ∧ w = a.1.code ++ toBits a.1.size a.2.1 ∧ l = a.1.code.length :: valueReads a.1.size

theorem Dec.codes_parseDc {t : List DcRow} (ht : PrefixFree DcRow.code t) : Dec.Codes (parseDc t) (DcCode t) := by
  refine ((Dec.codes_vlc ht).bind fun r => (Dec.codes_takeValue r.size).bind fun v => Dec.codes_ite
    (Dec.codes_takeBit.bind fun m => Dec.codes_pure (r, v, m)) (Dec.codes_pure (r, v, true))).congr ?_
  rintro ⟨r, v, m⟩ w l
  constructor
  · rintro ⟨r', _, _, _, _, ⟨hr, rfl, rfl⟩, ⟨v', _, _, w3, l3, ⟨hv, rfl, rfl⟩, h, rfl, rfl⟩, rfl, rfl⟩
    split at h
    · rename_i h8
      have hvalue : valueReads r'.size = [r'.size] := if_neg (by omega)
      obtain ⟨m', _, _, _, _, ⟨rfl, rfl⟩, ⟨ha, rfl, rfl⟩, rfl, rfl⟩ := h
      cases ha
      exact ⟨hr, hv, by simp [h8, hvalue]⟩
    · rename_i h8
      obtain ⟨ha, rfl, rfl⟩ := h
      cases ha
      exact ⟨hr, hv, by simp [h8]⟩
  · rintro ⟨hr, hv, h⟩
    dsimp only at hr hv h
    split at h
    · rename_i h8
      have hvalue : valueReads r.size = [r.size] := if_neg (by omega)
      obtain ⟨rfl, rfl⟩ := h
      refine ⟨r, _, _, _, _, ⟨hr, rfl, rfl⟩, ⟨v, _, _, [m], [1], ⟨hv, rfl, rfl⟩, ?_, rfl, rfl⟩, by simp, by simp [hvalue]⟩
      dsimp only
      rw [if_pos h8]
      exact ⟨m, _, _, [], [], ⟨rfl, rfl⟩, ⟨rfl, rfl, rfl⟩, rfl, rfl⟩
    · rename_i h8
      obtain ⟨rfl, rfl, rfl⟩ := h
      refine ⟨r, _, _, _, _, ⟨hr, rfl, rfl⟩, ⟨v, _, _, [], [], ⟨hv, rfl, rfl⟩, ?_, rfl, rfl⟩, by simp, by simp⟩
      dsimp only
      rw [if_neg h8]
      exact ⟨rfl, rfl, rfl⟩

/-- The bits of an AC instruction; the sign bit after a row is none of them (R212). -/
def AcForm.bits (a : AcForm) : List Bool :=
  match a with
  | .row r => r.code
  | .esc1 r s => escapeCode ++ [false] ++ r.code ++ [s]
  | .esc2 r s => escapeCode ++ [true, false] ++ r.code ++ [s]
  | .esc3 last run m1 level m2 => escapeCode ++ [true, true, last] ++ fieldBits run ++ [m1] ++ fieldBits level ++ [m2]

/-- The reads of an AC instruction (R212). -/
def AcForm.reads (a : AcForm) : List Nat :=
  match a with
  | .row r => [r.code.length]
  | .esc1 r _ => [7, 1, r.code.length, 1]
  | .esc2 r _ => [7, 1, 1, r.code.length, 1]
  | .esc3 _ _ _ _ _ => [7, 1, 1, 1, 6, 1, 12, 1]

/-- Whatever is no row begins with the escape codeword (R205). -/
theorem AcForm.bits_of_escape {a : AcForm} (h : ∀ r, a ≠ .row r) :
    ∃ w l, AcForm.bits a = escapeCode ++ w ∧ AcForm.reads a = 7 :: l := by
  cases a with
  | row r => exact absurd rfl (h r)
  | esc1 r s => exact ⟨_, _, List.append_assoc .., rfl⟩
  | esc2 r s => exact ⟨_, _, List.append_assoc .., rfl⟩
  | esc3 last run m1 level m2 => exact ⟨_, _, by simp only [AcForm.bits, List.append_assoc]; rfl, rfl⟩

theorem Dec.codes_parseInner (t : AcSel) :
    Dec.Codes (parseInner t) fun r w l => r ∈ t.rows ∧ w = r.code ∧ l = [r.code.length] := by
  have hrow : ∀ o : Option AcRow, Dec.Codes (match o with
      | some r => (pure r : Dec AcRow)
      | none => throw .escapeInEscape) fun r w l => o = some r ∧ w = [] ∧ l = [] := fun o => by
    cases o with
    | some r => exact (Dec.codes_pure r).congr fun v w l => by simp [eq_comm]
    | none => exact (Dec.codes_throw _).congr fun v w l => by simp
  refine ((Dec.codes_vlc (acTable_prefixFree t)).bind hrow).congr fun r w l => ⟨?_, ?_⟩
  · rintro ⟨o, _, _, _, _, ⟨ho, rfl, rfl⟩, ⟨rfl, rfl, rfl⟩, rfl, rfl⟩
    exact ⟨by simpa using ho, by simp [acCode], by simp [acCode]⟩
  · rintro ⟨hr, rfl, rfl⟩
    exact ⟨some r, _, _, [], [], ⟨by simpa using hr, rfl, rfl⟩, ⟨rfl, rfl, rfl⟩, by simp [acCode], by simp [acCode]⟩

/-- What follows the flags of the first and of the second escape: the inner codeword and its sign (R213, R214). -/
theorem Dec.codes_innerSign (t : AcSel) (form : AcRow → Bool → AcForm) :
    Dec.Codes (do
      let r ← parseInner t
      let s ← takeBit
      return form r s) fun a w l => ∃ r s, (r ∈ t.rows ∧ a = form r s) ∧ w = r.code ++ [s] ∧ l = [r.code.length, 1] := by
  refine ((Dec.codes_parseInner t).bind fun r => Dec.codes_takeBit.map (form r)).congr fun a w l => ⟨?_, ?_⟩
  · rintro ⟨r, _, _, _, _, ⟨hr, rfl, rfl⟩, ⟨s, ⟨rfl, rfl⟩, rfl⟩, rfl, rfl⟩
    exact ⟨r, s, ⟨hr, rfl⟩, rfl, rfl⟩
  · rintro ⟨r, s, ⟨hr, rfl⟩, rfl, rfl⟩
    exact ⟨r, _, _, _, _, ⟨hr, rfl, rfl⟩, ⟨s, ⟨rfl, rfl⟩, rfl⟩, rfl, rfl⟩

/-- A field of `n` bits made from a number below `2 ^ n` has that number's bits. -/
theorem fieldBits_ofNat {n v : Nat} (h : v < 2 ^ n) : fieldBits (BitVec.ofNat n v) = toBits n v := by
  rw [fieldBits, BitVec.toNat_ofNat, Nat.mod_eq_of_lt h]

/-- What follows the flags of the third escape (R217). -/
theorem Dec.codes_esc3Fields :
    Dec.Codes (do
      let last ← takeBit
      let run ← takeBits 6
      let m1 ← takeBit
      let level ← takeBits 12
      let m2 ← takeBit
      return AcForm.esc3 last (BitVec.ofNat 6 run) m1 (BitVec.ofNat 12 level) m2) fun a w l => ∃ last run m1 level m2,
        a = AcForm.esc3 last run m1 level m2 ∧ w = last :: (fieldBits run ++ m1 :: (fieldBits level ++ [m2])) ∧ l = [1, 6, 1, 12, 1] := by
  refine (Dec.codes_takeBit.bind fun last => (Dec.codes_takeBits 6).bind fun run => Dec.codes_takeBit.bind fun m1 =>
    (Dec.codes_takeBits 12).bind fun level => Dec.codes_takeBit.map
      (AcForm.esc3 last (BitVec.ofNat 6 run) m1 (BitVec.ofNat 12 level))).congr fun a w l => ⟨?_, ?_⟩
  · rintro ⟨last, _, _, _, _, ⟨rfl, rfl⟩, ⟨run, _, _, _, _, ⟨hrun, rfl, rfl⟩, ⟨m1, _, _, _, _, ⟨rfl, rfl⟩,
      ⟨level, _, _, _, _, ⟨hlevel, rfl, rfl⟩, ⟨m2, ⟨rfl, rfl⟩, rfl⟩, rfl, rfl⟩, rfl, rfl⟩, rfl, rfl⟩, rfl, rfl⟩
    exact ⟨last, _, m1, _, m2, rfl, by simp [fieldBits_ofNat hrun, fieldBits_ofNat hlevel], rfl⟩
  · rintro ⟨last, run, m1, level, m2, rfl, rfl, rfl⟩
    exact ⟨last, [last], [1], _, _, ⟨rfl, rfl⟩, ⟨run.toNat, _, _, _, _, ⟨run.isLt, rfl, rfl⟩, ⟨m1, [m1], [1], _, _, ⟨rfl, rfl⟩,
      ⟨level.toNat, _, _, _, _, ⟨level.isLt, rfl, rfl⟩, ⟨m2, ⟨rfl, rfl⟩, by simp⟩, rfl, rfl⟩, rfl, rfl⟩, rfl, rfl⟩, rfl, rfl⟩

/-- What follows the escape codeword: the flags, then one of the three forms (R212). -/
theorem Dec.codes_escape (t : AcSel) :
    Dec.Codes (do
      let e1 ← takeBit
      if e1 = false then
        let r ← parseInner t
        let s ← takeBit
        return AcForm.esc1 r s
      else
        let e2 ← takeBit
        if e2 = false then
          let r ← parseInner t
          let s ← takeBit
          return AcForm.esc2 r s
        else
          let last ← takeBit
          let run ← takeBits 6
          let m1 ← takeBit
          let level ← takeBits 12
          let m2 ← takeBit
          return AcForm.esc3 last (BitVec.ofNat 6 run) m1 (BitVec.ofNat 12 level) m2)
      fun a w l => AcForm.rowIn t a ∧ (∀ r, a ≠ .row r) ∧ AcForm.bits a = escapeCode ++ w ∧ AcForm.reads a = 7 :: l := by
  refine (Dec.codes_takeBit.bind fun e1 => Dec.codes_ite (Dec.codes_innerSign t .esc1)
    (Dec.codes_takeBit.bind fun e2 => Dec.codes_ite (Dec.codes_innerSign t .esc2) Dec.codes_esc3Fields)).congr fun a w l => ⟨?_, ?_⟩
  · rintro ⟨e1, _, _, _, _, ⟨rfl, rfl⟩, h, rfl, rfl⟩
    split at h
    · rename_i he1
      obtain ⟨r, s, ⟨hr, rfl⟩, rfl, rfl⟩ := h
      exact ⟨hr, (by simp), by simp [AcForm.bits, he1], rfl⟩
    · rename_i he1
      obtain ⟨e2, _, _, _, _, ⟨rfl, rfl⟩, h, rfl, rfl⟩ := h
      split at h
      · rename_i he2
        obtain ⟨r, s, ⟨hr, rfl⟩, rfl, rfl⟩ := h
        exact ⟨hr, (by simp), by simp [AcForm.bits, he1, he2], rfl⟩
      · rename_i he2
        obtain ⟨last, run, m1, level, m2, rfl, rfl, rfl⟩ := h
        exact ⟨trivial, (by simp), by simp [AcForm.bits, he1, he2], rfl⟩
  · rintro ⟨hr, hrow, hw, hl⟩
    cases a with
    | row r => exact absurd rfl (hrow r)
    | esc1 r s =>
      obtain rfl : [false] ++ (r.code ++ [s]) = w := by simpa [AcForm.bits] using hw
      obtain rfl : l = [1] ++ [r.code.length, 1] := (List.cons.inj hl).2.symm
      exact ⟨false, [false], [1], _, _, ⟨rfl, rfl⟩, ⟨r, s, ⟨hr, rfl⟩, rfl, rfl⟩, rfl, rfl⟩
    | esc2 r s =>
      obtain rfl : [true] ++ ([false] ++ (r.code ++ [s])) = w := by simpa [AcForm.bits] using hw
      obtain rfl : l = [1] ++ ([1] ++ [r.code.length, 1]) := (List.cons.inj hl).2.symm
      refine ⟨true, [true], [1], _, _, ⟨rfl, rfl⟩, ?_, rfl, rfl⟩
      exact ⟨false, [false], [1], _, _, ⟨rfl, rfl⟩, ⟨r, s, ⟨hr, rfl⟩, rfl, rfl⟩, rfl, rfl⟩
    | esc3 last run m1 level m2 =>
      obtain rfl : [true] ++ ([true] ++ (last :: (fieldBits run ++ m1 :: (fieldBits level ++ [m2])))) = w := by
        simpa [AcForm.bits] using hw
      obtain rfl : l = [1] ++ ([1] ++ [1, 6, 1, 12, 1]) := (List.cons.inj hl).2.symm
      refine ⟨true, [true], [1], _, _, ⟨rfl, rfl⟩, ?_, rfl, rfl⟩
      exact ⟨true, [true], [1], _, _, ⟨rfl, rfl⟩, ⟨last, run, m1, level, m2, rfl, rfl, rfl⟩, rfl, rfl⟩

/-- A row, or the escape codeword and what follows it (R212). -/
theorem Dec.codes_parseAc (t : AcSel) :
    Dec.Codes (parseAc t) fun a w l => AcForm.rowIn t a ∧ w = AcForm.bits a ∧ l = AcForm.reads a := by
  unfold parseAc
  refine Dec.Codes.congr ((Dec.codes_vlc (acTable_prefixFree t)).bind (T := fun o a w l => match o with
    | some r => a = .row r ∧ w = [] ∧ l = []
    | none => AcForm.rowIn t a ∧ (∀ r, a ≠ .row r) ∧ AcForm.bits a = escapeCode ++ w ∧ AcForm.reads a = 7 :: l)
    fun o => ?form) fun a w l => ⟨?_, ?_⟩
  case form =>
    cases o with
    | some r => exact Dec.codes_pure (AcForm.row r)
    | none => exact Dec.codes_escape t
  · rintro ⟨o, _, _, w2, l2, ⟨ho, rfl, rfl⟩, h, rfl, rfl⟩
    cases o with
    | some r =>
      obtain ⟨rfl, rfl, rfl⟩ := h
      exact ⟨by simpa [AcForm.rowIn] using ho, by simp [acCode, AcForm.bits], by simp [acCode, AcForm.reads]⟩
    | none =>
      obtain ⟨hr, -, hw, hl⟩ := h
      exact ⟨hr, hw.symm, hl.symm⟩
  · rintro ⟨hr, rfl, rfl⟩
    by_cases hrow : ∃ r, a = .row r
    · obtain ⟨r, rfl⟩ := hrow
      have hr : r ∈ t.rows := hr
      exact ⟨some r, r.code, [r.code.length], [], [], ⟨by simpa using hr, rfl, rfl⟩, ⟨rfl, rfl, rfl⟩, (List.append_nil _).symm, rfl⟩
    · have hrow : ∀ r, a ≠ .row r := fun r h => hrow ⟨r, h⟩
      obtain ⟨w, l, hw, hl⟩ := AcForm.bits_of_escape hrow
      exact ⟨none, escapeCode, [7], w, l, ⟨List.mem_cons_self, rfl, rfl⟩, ⟨hr, hrow, hw, hl⟩, hw, hl⟩

/-- The unary code of R109, read bit by bit: the zeros up to twelve, and the 1. -/
theorem Dec.codes_parsePrefix (fuel len : Nat) (h : fuel + len = 13) :
    Dec.Codes (parsePrefix fuel len) fun v w l => ∃ j, v = len + j ∧ v ≤ 12 ∧ w = List.replicate j false ++ [true]
      ∧ l = List.replicate (j + 1) 1 := by
  induction fuel generalizing len with
  | zero => exact (Dec.codes_throw .runTooLong).congr fun v w l => ⟨False.elim, fun ⟨j, hv, hle, _⟩ => by omega⟩
  | succ fuel ih =>
    refine (Dec.codes_takeBit.bind fun b => Dec.codes_ite (p := b = true) (Dec.codes_pure len) (Dec.codes_ite (p := len + 1 > 12)
      (Dec.codes_throw .runTooLong) (ih (len + 1) (by omega)))).congr fun v w l => ⟨?_, ?_⟩
    · rintro ⟨b, _, _, w2, l2, ⟨rfl, rfl⟩, h, rfl, rfl⟩
      split_ifs at h with hb hlen
      · obtain ⟨rfl, rfl, rfl⟩ := h
        exact ⟨0, rfl, by omega, by simp [hb], rfl⟩
      · obtain ⟨j, rfl, hle, rfl, rfl⟩ := h
        exact ⟨j + 1, by omega, hle, by simp [hb, List.replicate_succ], by simp [List.replicate_succ]⟩
    · rintro ⟨j, rfl, hle, rfl, rfl⟩
      cases j with
      | zero => exact ⟨true, [true], [1], [], [], ⟨rfl, rfl⟩, ⟨rfl, rfl, rfl⟩, rfl, rfl⟩
      | succ j =>
        refine ⟨false, [false], [1], List.replicate j false ++ [true], List.replicate (j + 1) 1, ⟨rfl, rfl⟩, ?_, rfl, rfl⟩
        dsimp only
        rw [if_neg (by decide), if_neg (by omega)]
        exact ⟨j, by omega, hle, rfl, rfl⟩

/-- A sprite-trajectory component: length code and value (R109). -/
theorem Dec.codes_parseTraj :
    Dec.Codes parseTraj fun a w l => a.1 ≤ 12 ∧ a.2 < 2 ^ a.1 ∧ w = List.replicate a.1 false ++ true :: toBits a.1 a.2
      ∧ l = List.replicate (a.1 + 1) 1 ++ valueReads a.1 := by
  refine ((Dec.codes_parsePrefix 13 0 rfl).bind fun len => (Dec.codes_takeValue len).map fun v => (len, v)).congr ?_
  rintro ⟨len, v⟩ w l
  constructor
  · rintro ⟨_, _, _, _, _, ⟨j, rfl, hle, rfl, rfl⟩, ⟨v', ⟨hv, rfl, rfl⟩, ha⟩, rfl, rfl⟩
    cases ha
    rw [Nat.zero_add] at hle hv ⊢
    exact ⟨hle, hv, by simp, rfl⟩
  · rintro ⟨hle, hv, rfl, rfl⟩
    exact ⟨len, _, _, _, _, ⟨len, (Nat.zero_add len).symm, hle, rfl, rfl⟩, ⟨v, ⟨hv, rfl, rfl⟩, rfl⟩, by simp, rfl⟩

/-- Bits split as numbers do: the first `a` are those of the quotient. -/
theorem toBits_add (a b v : Nat) : toBits (a + b) v = toBits a (v / 2 ^ b) ++ toBits b v := by
  induction a with
  | zero => rw [Nat.zero_add]; rfl
  | succ a ih =>
    rw [show a + 1 + b = (a + b) + 1 by omega, toBits, ih, toBits, Nat.testBit_div_two_pow, Nat.add_comm a b]
    rfl

/-- Only the low `n` bits of a number stand in a field of `n` bits. -/
theorem toBits_mod (n v : Nat) : toBits n (v % 2 ^ n) = toBits n v :=
  bitsVal_inj _ _ (by simp) (by simp [bitsVal_toBits])

/-- The four bytes of a start code as a number (R114). -/
theorem startCode_bits (v : BitVec 8) : startCodeHead ++ fieldBits v = toBits 32 (256 + v.toNat) := by
  have hv := v.isLt
  have hhead : (256 + v.toNat) / 2 ^ 8 = 1 := by omega
  have hmod : (256 + v.toNat) % 2 ^ 8 = v.toNat := by omega
  rw [toBits_add 24 8, hhead, ← toBits_mod 8 (256 + v.toNat), hmod]
  rfl

theorem Dec.allOrNothing_parseStartCode : Dec.AllOrNothing parseStartCode := fun c e c' h => by
  unfold parseStartCode at h
  split at h
  · split at h <;> cases h
    rfl
  · cases h
    rfl

/-- A start code is one read of 32 bits, `00 00 01` and the code (R114, log entry 14). -/
theorem Dec.codes_parseStartCode :
    Dec.Codes parseStartCode fun v w l => w = startCodeHead ++ fieldBits v ∧ l = [32] := by
  refine Dec.codes_of_one_read Dec.allOrNothing_parseStartCode (fun v w l hs => ?_) (fun c v e h => ?_) (fun v w l hs tail u => ?_)
  · rw [hs.2, hs.1, startCode_bits, toBits_length]
  · unfold parseStartCode at h
    split at h
    · rename_i x d hx
      split at h
      · rename_i hx1
        cases h
        obtain ⟨w, l, ⟨hlt, rfl, rfl⟩, hr, hu⟩ := (Dec.codes_takeBits 32).written _ _ _ hx
        have hval : 256 + (BitVec.ofNat 8 x).toNat = x := by
          rw [BitVec.toNat_ofNat]
          omega
        exact ⟨toBits 32 x, _, ⟨by rw [startCode_bits, hval], rfl⟩, hr, hu⟩
      · cases h
    · cases h
  · obtain ⟨rfl, rfl⟩ := hs
    have hv := v.isLt
    rw [startCode_bits]
    have hread := ((Dec.codes_takeBits 32).takes (256 + v.toNat) _ _ ⟨by omega, rfl, rfl⟩).whole tail u
    have hval : BitVec.ofNat 8 (256 + v.toNat) = v := by
      apply BitVec.eq_of_toNat_eq
      rw [BitVec.toNat_ofNat]
      omega
    simp only [parseStartCode, hread, hval]
    rw [if_pos (by omega)]

/-- A list is a run of `b`, of the length counted, and a rest. -/
theorem runLength_split (b : Bool) (bs : List Bool) : List.replicate (runLength b bs) b ++ bs.drop (runLength b bs) = bs := by
  induction bs with
  | nil => rfl
  | cons x bs ih =>
    simp only [runLength] at ih
    by_cases hx : x = b
    · simp [runLength, hx, List.replicate_succ, ih]
    · simp [runLength, hx]

theorem runLength_replicate (b : Bool) (n : Nat) (tail : List Bool) : runLength b (List.replicate n b ++ (!b) :: tail) = n := by
  simp [runLength]

/-- The pattern of a resync marker for `f`, with `k` stuffing bits (R115). -/
def resyncBits (k f : Nat) : List Bool := false :: List.replicate k true ++ List.replicate (16 + f) false ++ [true]

theorem Dec.allOrNothing_parseResync : Dec.AllOrNothing parseResync := fun c e c' h => by
  unfold parseResync at h
  dsimp only at h
  split at h
  · cases h
  · cases h
    rfl

/-- A resync marker is one read of the whole pattern (R115, log entry 14). -/
theorem Dec.codes_parseResync :
    Dec.Codes parseResync fun a w l => a.1 ≤ 7 ∧ a.2 ≤ 7 ∧ w = resyncBits a.1 a.2 ∧ l = [(resyncBits a.1 a.2).length] := by
  refine Dec.codes_of_one_read Dec.allOrNothing_parseResync (fun v w l hs => ?_) (fun c v e h => ?_) (fun a w l hs tail u => ?_)
  · obtain ⟨-, -, rfl, rfl⟩ := hs
    rfl
  · unfold parseResync at h
    dsimp only at h
    split at h
    · rename_i hm
      cases h
      generalize hk : runLength true (c.rest.drop 1) = k at hm ⊢
      generalize hz : runLength false (c.rest.drop (1 + k)) = z at hm ⊢
      obtain ⟨hhead, hk7, hz16, hz23, hend⟩ := hm
      have hones := hk ▸ runLength_split true (c.rest.drop 1)
      have hzeros := hz ▸ runLength_split false (c.rest.drop (1 + k))
      obtain ⟨rest, hrest⟩ := List.head?_eq_some_iff.1 hhead
      obtain ⟨tail, htail⟩ := List.head?_eq_some_iff.1 hend
      rw [List.drop_drop, htail] at hzeros
      rw [List.drop_drop, ← hzeros, hrest, List.drop_one, List.tail_cons] at hones
      have hwhole : c.rest = resyncBits k (z - 16) ++ tail := by
        rw [hrest, ← hones, resyncBits, show 16 + (z - 16) = z by omega]
        simp
      have hlen : (resyncBits k (z - 16)).length = 1 + k + z + 1 := by
        simp [resyncBits]
        omega
      refine ⟨_, _, ⟨hk7, by dsimp only; omega, rfl, rfl⟩, ?_, congrArg (c.used + ·) hlen.symm⟩
      show c.rest = _ ++ c.rest.drop _
      rw [hwhole, ← hlen, List.drop_left]
    · cases h
  · obtain ⟨k, f⟩ := a
    obtain ⟨hk, hf, rfl, rfl⟩ := hs
    dsimp only at hk hf ⊢
    have hones : runLength true (List.drop 1 (resyncBits k f ++ tail)) = k := by
      have h := runLength_replicate true k (List.replicate (15 + f) false ++ true :: tail)
      rwa [show (List.drop 1 (resyncBits k f ++ tail)) = _ by
        simp [resyncBits, show 16 + f = (15 + f) + 1 by omega, List.replicate_succ]; rfl]
    have hzeros : List.drop (1 + k) (resyncBits k f ++ tail) = List.replicate (16 + f) false ++ true :: tail := by
      rw [Nat.add_comm]
      simp [resyncBits]
    have hrun : runLength false (List.drop (1 + k) (resyncBits k f ++ tail)) = 16 + f := by
      rw [hzeros]
      exact runLength_replicate false _ tail
    have hone : List.drop (1 + k + (16 + f)) (resyncBits k f ++ tail) = true :: tail := by
      rw [← List.drop_drop, hzeros]
      exact List.drop_left' (List.length_replicate ..)
    have hlen : 1 + k + (16 + f) + 1 = (resyncBits k f).length := by
      simp [resyncBits]
      omega
    simp only [parseResync, hones, hrun, hone, Cursor.skip, hlen, Nat.add_sub_cancel_left, List.drop_left]
    rw [if_pos ⟨rfl, hk, by omega, by omega, rfl⟩]

end Sys2Proof.Machine
end

section
/-! PROOFS. The instructions of each table, and the decoder as the inverse of the encoder (spec/30_encoding.md R102, R103). -/

namespace Sys2Proof.Machine

/-! ## The writing of an instruction -/

/-- `i` is a well-formed instruction of table `t`, encoded as `w` and read in reads of the lengths `l`. -/
def Written (t : Table) (i : Instr) (w : List Bool) (l : List Nat) : Prop :=
  i.inTable t = true ∧ i.wf = true ∧ encode i = w ∧ readsOf i = l

theorem Written.of_mcbpcI : ∀ r ∈ mcbpcITable, Written .mcbpcI r.ctor r.code [r.code.length] := by unfold Written; decide
theorem Written.of_mcbpcP : ∀ r ∈ mcbpcPTable, Written .mcbpcP r.ctor r.code [r.code.length] := by unfold Written; decide
theorem Written.of_cbpy : ∀ r ∈ cbpyTable, Written .cbpy r.ctor r.code [r.code.length] := by unfold Written; decide
theorem Written.of_modb : ∀ r ∈ modbTable, Written .modb r.ctor r.code [r.code.length] := by unfold Written; decide
theorem Written.of_bmbtype : ∀ r ∈ bmbtypeTable, Written .bmbtype r.ctor r.code [r.code.length] := by unfold Written; decide
theorem Written.of_dbquant : ∀ r ∈ dbquantTable, Written .dbquant r.ctor r.code [r.code.length] := by unfold Written; decide
theorem Written.of_dquant : ∀ r ∈ dquantTable, Written .dquant r.ctor r.code [r.code.length] := by unfold Written; decide

theorem Written.of_acRow (t : AcSel) : ∀ r ∈ t.rows, Written (acTable t) r.ctor r.code [r.code.length] := by
  unfold Written
  cases t with
  | intra => exact (by decide : ∀ r ∈ acIntraTable, r.ctor.inTable .acIntra = true ∧ r.ctor.wf = true ∧ encode r.ctor = r.code
      ∧ readsOf r.ctor = [r.code.length])
  | inter => exact (by decide : ∀ r ∈ acInterTable, r.ctor.inTable .acInter = true ∧ r.ctor.wf = true ∧ encode r.ctor = r.code
      ∧ readsOf r.ctor = [r.code.length])

theorem Written.of_acForm (t : AcSel) (a : AcForm) (h : AcForm.rowIn t a) :
    Written (acTable t) (a.instr t) (AcForm.bits a) (AcForm.reads a) := by
  have hcode : ∀ r ∈ t.rows, (t.row r.num).code = r.code := fun r hr => congrArg AcRow.code (acRowFacts t r hr).2.1
  cases a with
  | row r => cases t <;> exact Written.of_acRow _ r h
  | esc1 r s =>
    have hbits := congrArg (fun c => escapeCode ++ [false] ++ c ++ [s]) (hcode r h)
    have hreads := congrArg (fun c => [7, 1, c.length, 1]) (hcode r h)
    cases t <;> exact ⟨rfl, rfl, hbits, hreads⟩
  | esc2 r s =>
    have hbits := congrArg (fun c => escapeCode ++ [true, false] ++ c ++ [s]) (hcode r h)
    have hreads := congrArg (fun c => [7, 1, 1, c.length, 1]) (hcode r h)
    cases t <;> exact ⟨rfl, rfl, hbits, hreads⟩
  | esc3 last run m1 level m2 => cases t <;> exact ⟨rfl, rfl, rfl, rfl⟩

/-- How a magnitude that is not 0 is written: codeword, sign and residual (R106). -/
theorem mvdRow_written : ∀ r ∈ mvdTable, r.mag ≠ 0 → ∀ (f : Nat) (s : Bool) (res : Nat), (r.ctor f s res).inTable (.mvd f) = true
    ∧ (r.ctor f s res).wf = mvdWf f res ∧ encode (r.ctor f s res) = r.code ++ s :: toBits (f - 1) res
    ∧ readsOf (r.ctor f s res) = [r.code.length, 1, f - 1] := by
  intro r hr h0 f s res
  have htable : (Table.mvd f == Table.mvd f) = true := beq_self_eq_true _
  simp only [mvdTable, List.mem_cons, List.not_mem_nil, or_false] at hr
  rcases hr with rfl | hr
  · exact absurd rfl h0
  · repeat' (first | (rcases hr with hr | hr) | subst hr)
    all_goals exact ⟨htable, rfl, rfl, rfl⟩

theorem Written.of_mvdRow {f : Nat} (h1 : 1 ≤ f) (h7 : f ≤ 7) : ∀ r ∈ mvdTable, r.mag ≠ 0 → ∀ (s : Bool) (res : Nat),
    res < 2 ^ (f - 1) → Written (.mvd f) (r.ctor f s res) (r.code ++ s :: toBits (f - 1) res) [r.code.length, 1, f - 1] := by
  intro r hr h0 s res hres
  obtain ⟨htable, hwf, hcode, hreads⟩ := mvdRow_written r hr h0 f s res
  exact ⟨htable, by simp [hwf, mvdWf, h1, h7, hres], hcode, hreads⟩

/-- The two DC tables with their rows (R200, R201). -/
inductive DcRows : Table → List DcRow → Prop where
  | luma : DcRows .dcszL dcszLTable
  | chroma : DcRows .dcszC dcszCTable

/-- A size with a marker bit (R107). -/
theorem Written.of_dcMarked {t : Table} {l : List DcRow} (hl : DcRows t l) : ∀ r ∈ l, r.size > 8 → ∀ (v : Nat) (m : Bool),
    v < 2 ^ r.size → Written t (r.ctor v m) (r.code ++ toBits r.size v ++ [m]) [r.code.length, r.size, 1] := by
  intro r hr h8 v m hv
  have hbits (c : List Bool) := congrArg (fun b => c ++ b ++ [m]) (fieldBits_ofNat hv)
  cases hl <;> simp only [dcszLTable, dcszCTable, List.mem_cons, List.not_mem_nil, or_false] at hr
  all_goals
    repeat' (first | (rcases hr with hr | hr) | subst hr)
    all_goals first
      | exact absurd h8 (by decide)
      | exact ⟨rfl, rfl, hbits _, rfl⟩

/-- A size without a marker bit (R107). -/
theorem Written.of_dcPlain {t : Table} {l : List DcRow} (hl : DcRows t l) : ∀ r ∈ l, ¬r.size > 8 → ∀ v : Nat,
    v < 2 ^ r.size → Written t (r.ctor v true) (r.code ++ toBits r.size v) (r.code.length :: valueReads r.size) := by
  intro r hr h8 v hv
  have hbits (c : List Bool) := congrArg (fun b => c ++ b) (fieldBits_ofNat hv)
  cases hl <;> simp only [dcszLTable, dcszCTable, List.mem_cons, List.not_mem_nil, or_false] at hr
  all_goals
    repeat' (first | (rcases hr with hr | hr) | subst hr)
    all_goals first
      | exact absurd (by decide) h8
      | exact ⟨rfl, rfl, hbits _, rfl⟩
      | exact ⟨rfl, rfl, rfl, rfl⟩

theorem Written.of_dcCode {t : Table} {l : List DcRow} (hl : DcRows t l) (a : DcRow × Nat × Bool) (w : List Bool) (n : List Nat)
    (h : DcCode l a w n) : Written t (a.1.ctor a.2.1 a.2.2) w n := by
  obtain ⟨hr, hv, h⟩ := h
  split at h
  · rename_i h8
    obtain ⟨rfl, rfl⟩ := h
    exact Written.of_dcMarked hl _ hr h8 _ _ hv
  · rename_i h8
    obtain ⟨hm, rfl, rfl⟩ := h
    rw [hm]
    exact Written.of_dcPlain hl _ hr h8 _ hv

/-- Magnitude 0 has neither a sign nor a residual (R174). -/
theorem Written.of_mvdZero : ∀ r ∈ mvdTable, r.mag = 0 → ∀ (f : Nat) (s : Bool) (res : Nat),
    Written (.mvd f) (r.ctor f s res) r.code [r.code.length] := by
  intro r hr h0 f s res
  simp only [mvdTable, List.mem_cons, List.not_mem_nil, or_false] at hr
  rcases hr with rfl | hr
  · exact ⟨rfl, rfl, rfl, rfl⟩
  · repeat' (first | (rcases hr with hr | hr) | subst hr)
    all_goals cases h0

theorem Written.of_mvdCode {f : Nat} (hf : 1 ≤ f ∧ f ≤ 7) (a : MvdRow × Bool × Nat) (w : List Bool) (l : List Nat)
    (h : MvdCode f a w l) : Written (.mvd f) (a.1.ctor f a.2.1 a.2.2) w l := by
  obtain ⟨hr, h⟩ := h
  split at h
  · rename_i h0
    obtain ⟨-, rfl, rfl⟩ := h
    exact Written.of_mvdZero _ hr h0 _ _ _
  · rename_i h0
    obtain ⟨hres, rfl, rfl⟩ := h
    exact Written.of_mvdRow hf.1 hf.2 _ hr h0 _ _ hres

theorem Written.of_traj (len v : Nat) (hle : len ≤ 12) (hv : v < 2 ^ len) :
    Written .traj (trajInstr len v) (List.replicate len false ++ true :: toBits len v) (List.replicate (len + 1) 1 ++ valueReads len) := by
  have hbits := congrArg (List.replicate len false ++ true :: ·) (fieldBits_ofNat hv)
  interval_cases len
  · exact ⟨rfl, rfl, rfl, rfl⟩
  all_goals exact ⟨rfl, rfl, hbits, rfl⟩

/-! ## The instructions of a table -/

/-- The instructions of the tables, each from its row and its fields. -/
inductive CodewordOf : Table → Instr → Prop where
  | mcbpcI {i : Instr} (h : ∃ r ∈ mcbpcITable, r.ctor = i) : CodewordOf .mcbpcI i
  | mcbpcP {i : Instr} (h : ∃ r ∈ mcbpcPTable, r.ctor = i) : CodewordOf .mcbpcP i
  | cbpy {i : Instr} (h : ∃ r ∈ cbpyTable, r.ctor = i) : CodewordOf .cbpy i
  | modb {i : Instr} (h : ∃ r ∈ modbTable, r.ctor = i) : CodewordOf .modb i
  | bmbtype {i : Instr} (h : ∃ r ∈ bmbtypeTable, r.ctor = i) : CodewordOf .bmbtype i
  | dbquant {i : Instr} (h : ∃ r ∈ dbquantTable, r.ctor = i) : CodewordOf .dbquant i
  | dquant {i : Instr} (h : ∃ r ∈ dquantTable, r.ctor = i) : CodewordOf .dquant i
  | mvd0 (f : Nat) : CodewordOf (.mvd f) .mvd_0
  | mvd {f : Nat} {s : Bool} {res : Nat} {i : Instr} (h : ∃ r ∈ mvdTable, r.mag ≠ 0 ∧ r.ctor f s res = i)
      (hw : i.wf = mvdWf f res) : CodewordOf (.mvd f) i
  | dcszL {i : Instr} {v : Nat} {m : Bool}
      (h : ∃ r ∈ dcszLTable, v < 2 ^ r.size ∧ (r.size > 8 ∨ m = true) ∧ r.ctor v m = i) : CodewordOf .dcszL i
  | dcszC {i : Instr} {v : Nat} {m : Bool}
      (h : ∃ r ∈ dcszCTable, v < 2 ^ r.size ∧ (r.size > 8 ∨ m = true) ∧ r.ctor v m = i) : CodewordOf .dcszC i
  | acIntraRow {i : Instr} (h : ∃ r ∈ acIntraTable, r.ctor = i) : CodewordOf .acIntra i
  | acInterRow {i : Instr} (h : ∃ r ∈ acInterTable, r.ctor = i) : CodewordOf .acInter i
  | acIntraEscape (a : AcForm) (h : AcForm.rowIn .intra a) : CodewordOf .acIntra (a.instr .intra)
  | acInterEscape (a : AcForm) (h : AcForm.rowIn .inter a) : CodewordOf .acInter (a.instr .inter)
  | notCoded (b : Bool) : CodewordOf .notCoded (.notCoded b)
  | acPred (b : Bool) : CodewordOf .acPred (.acPred b)
  | mcsel (b : Bool) : CodewordOf .mcsel (.mcsel b)
  | cbpb (v : BitVec 6) : CodewordOf .cbpb (.cbpb v)
  | traj {i : Instr} {len v : Nat} (hle : len ≤ 12) (hv : v < 2 ^ len) (h : trajInstr len v = i) : CodewordOf .traj i
  | sc (c : BitVec 8) : CodewordOf .sc (.sc c)
  | resync (k f : Fin 8) : CodewordOf .resync (.resync k f)

/-- The row of number `n` carries that number. -/
theorem AcSel.row_num (t : AcSel) (n : Fin 102) : (t.row n).num = n := by
  cases t with
  | intra => exact (by decide : ∀ n, (AcSel.intra.row n).num = n) n
  | inter => exact (by decide : ∀ n, (AcSel.inter.row n).num = n) n

/-- A field of `n` bits is made from a number below `2 ^ n`. -/
theorem exists_ofNat {n : Nat} (v : BitVec n) : ∃ x, x < 2 ^ n ∧ BitVec.ofNat n x = v := ⟨v.toNat, v.isLt, by simp⟩

theorem CodewordOf.of_inTable {t : Table} {i : Instr} (h : i.inTable t = true) : CodewordOf t i := by
  cases i
  case mvd_0 =>
    cases t with
    | mvd f => exact .mvd0 f
    | _ => cases h
  all_goals first
    | cases h
    | obtain rfl := eq_of_beq h
  all_goals first
    | exact .mcbpcI (by decide)
    | exact .mcbpcP (by decide)
    | exact .cbpy (by decide)
    | exact .modb (by decide)
    | exact .bmbtype (by decide)
    | exact .dbquant (by decide)
    | exact .dquant (by decide)
    | exact .acIntraRow (by decide)
    | exact .acInterRow (by decide)
    | exact .notCoded _
    | exact .acPred _
    | exact .mcsel _
    | exact .cbpb _
    | exact .sc _
    | exact .resync _ _
    | exact .mvd (by repeat' (first | exact List.exists_mem_cons_of _ ⟨nofun, rfl⟩ | apply List.exists_mem_cons_of_exists)) rfl
    | rename_i v
      obtain ⟨x, hx, rfl⟩ := exists_ofNat v
      first
        | exact .traj (by decide) hx rfl
        | exact .dcszL (m := true) (by repeat' (first | exact List.exists_mem_cons_of _ ⟨hx, .inr rfl, rfl⟩ | apply List.exists_mem_cons_of_exists))
        | exact .dcszC (m := true) (by repeat' (first | exact List.exists_mem_cons_of _ ⟨hx, .inr rfl, rfl⟩ | apply List.exists_mem_cons_of_exists))
    | rename_i v m
      obtain ⟨x, hx, rfl⟩ := exists_ofNat v
      first
        | exact .dcszL (m := m) (by repeat' (first | exact List.exists_mem_cons_of _ ⟨hx, .inl (by decide), rfl⟩ | apply List.exists_mem_cons_of_exists))
        | exact .dcszC (m := m) (by repeat' (first | exact List.exists_mem_cons_of _ ⟨hx, .inl (by decide), rfl⟩ | apply List.exists_mem_cons_of_exists))
    | skip
  case dcszL_0 => exact .dcszL (v := 0) (m := true) (List.exists_mem_cons_of _ ⟨by decide, .inr rfl, rfl⟩)
  case dcszC_0 => exact .dcszC (v := 0) (m := true) (List.exists_mem_cons_of _ ⟨by decide, .inr rfl, rfl⟩)
  case traj_0 => exact .traj (v := 0) (by decide) (by decide : 0 < 2 ^ 0) rfl
  case acIntra_esc1 n s =>
    simpa only [AcForm.instr, AcSel.row_num] using CodewordOf.acIntraEscape (.esc1 (AcSel.intra.row n) s) (AcSel.row_mem .intra n)
  case acIntra_esc2 n s =>
    simpa only [AcForm.instr, AcSel.row_num] using CodewordOf.acIntraEscape (.esc2 (AcSel.intra.row n) s) (AcSel.row_mem .intra n)
  case acInter_esc1 n s =>
    simpa only [AcForm.instr, AcSel.row_num] using CodewordOf.acInterEscape (.esc1 (AcSel.inter.row n) s) (AcSel.row_mem .inter n)
  case acInter_esc2 n s =>
    simpa only [AcForm.instr, AcSel.row_num] using CodewordOf.acInterEscape (.esc2 (AcSel.inter.row n) s) (AcSel.row_mem .inter n)
  case acIntra_esc3 => exact .acIntraEscape (.esc3 _ _ _ _ _) trivial
  case acInter_esc3 => exact .acInterEscape (.esc3 _ _ _ _ _) trivial

end Sys2Proof.Machine
end

section
/-! PROOFS. The decoder as the inverse of the encoder (spec/30_encoding.md section 1). -/

namespace Sys2Proof.Machine

/-- A parse whose values are the writings of the instructions `g a` reads the table that holds just these. -/
theorem Dec.codes_instr {α : Type} {d : Dec α} {S : α → List Bool → List Nat → Prop} {g : α → Instr} {t : Table}
    (hd : Dec.Codes d S) (hwritten : ∀ a w l, S a w l → Written t (g a) w l)
    (hall : ∀ i, CodewordOf t i → i.wf = true → ∃ a w l, S a w l ∧ g a = i) :
    Dec.Codes (do return g (← d)) (Written t) := by
  refine (hd.map g).congr fun i w l => ⟨?_, ?_⟩
  · rintro ⟨a, hs, rfl⟩
    exact hwritten a w l hs
  · rintro ⟨htable, hwf, rfl, rfl⟩
    obtain ⟨a, w, l, hs, rfl⟩ := hall i (.of_inTable htable) hwf
    obtain ⟨-, -, rfl, rfl⟩ := hwritten a w l hs
    exact ⟨a, hs, rfl⟩

/-- The same for a parse of one codeword. -/
theorem Dec.codes_vlcInstr {α : Type} {code : α → List Bool} {rows : List α} {g : α → Instr} {t : Table}
    (hfree : PrefixFree code rows) (hwritten : ∀ r ∈ rows, Written t (g r) (code r) [(code r).length])
    (hall : ∀ i, CodewordOf t i → ∃ r ∈ rows, g r = i) : Dec.Codes (do return g (← vlc code rows)) (Written t) := by
  refine Dec.codes_instr (Dec.codes_vlc hfree) ?_ fun i hi _ => ?_
  · rintro r _ _ ⟨hr, rfl, rfl⟩
    exact hwritten r hr
  · obtain ⟨r, hr, hi⟩ := hall i hi
    exact ⟨r, _, _, ⟨hr, rfl, rfl⟩, hi⟩

/-- The same for a parse of one bit. -/
theorem Dec.codes_bitInstr {g : Bool → Instr} {t : Table} (hwritten : ∀ b, Written t (g b) [b] [1])
    (hall : ∀ i, CodewordOf t i → ∃ b, g b = i) : Dec.Codes (do return g (← takeBit)) (Written t) := by
  refine Dec.codes_instr Dec.codes_takeBit ?_ fun i hi _ => ?_
  · rintro b _ _ ⟨rfl, rfl⟩
    exact hwritten b
  · obtain ⟨b, hb⟩ := hall i hi
    exact ⟨b, _, _, ⟨rfl, rfl⟩, hb⟩

theorem Dec.codes_dcInstr {t : Table} {rows : List DcRow} (hrows : DcRows t rows) (hfree : PrefixFree DcRow.code rows)
    (hall : ∀ i, CodewordOf t i → ∃ v m, ∃ r ∈ rows, v < 2 ^ r.size ∧ (r.size > 8 ∨ m = true) ∧ r.ctor v m = i) :
    Dec.Codes (do
      let (r, v, m) ← parseDc rows
      return r.ctor v m) (Written t) := by
  refine Dec.codes_instr (Dec.codes_parseDc hfree) (Written.of_dcCode hrows) fun i hi _ => ?_
  obtain ⟨v, m, r, hr, hv, hm, hi⟩ := hall i hi
  by_cases h8 : r.size > 8
  · exact ⟨(r, v, m), _, _, ⟨hr, hv, by dsimp only; rw [if_pos h8]; exact ⟨rfl, rfl⟩⟩, hi⟩
  · exact ⟨(r, v, m), _, _, ⟨hr, hv, by dsimp only; rw [if_neg h8]; exact ⟨hm.resolve_left h8, rfl, rfl⟩⟩, hi⟩

theorem Dec.codes_acInstr (t : AcSel) (hall : ∀ i, CodewordOf (acTable t) i → ∃ a, AcForm.rowIn t a ∧ a.instr t = i) :
    Dec.Codes (do return (← parseAc t).instr t) (Written (acTable t)) := by
  refine Dec.codes_instr (Dec.codes_parseAc t) ?_ fun i hi _ => ?_
  · rintro a _ _ ⟨hr, rfl, rfl⟩
    exact Written.of_acForm t a hr
  · obtain ⟨a, ha, hi⟩ := hall i hi
    exact ⟨a, _, _, ⟨ha, rfl, rfl⟩, hi⟩

theorem Dec.codes_mvdInstr {f : Nat} (hf : 1 ≤ f ∧ f ≤ 7) :
    Dec.Codes (do
      let (r, s, res) ← parseMvd f
      return r.ctor f s res) (Written (.mvd f)) := by
  refine Dec.codes_instr (Dec.codes_parseMvd f) (Written.of_mvdCode hf) fun i hi hwf => ?_
  cases hi with
  | mvd0 =>
    refine ⟨(⟨[true], 0, fun _ _ _ => .mvd_0⟩, false, 0), [true], [1], ⟨List.mem_cons_self, ?_⟩, rfl⟩
    exact ⟨rfl, rfl, rfl⟩
  | @mvd _ s res _ h hw =>
    obtain ⟨r, hr, h0, hi⟩ := h
    rw [hw, mvdWf] at hwf
    refine ⟨(r, s, res), r.code ++ s :: toBits (f - 1) res, [r.code.length, 1, f - 1], ⟨hr, ?_⟩, hi⟩
    dsimp only
    rw [if_neg h0]
    exact ⟨by simp_all, rfl, rfl⟩

theorem low3_val (k : Fin 8) : low3 k = k := Fin.ext (Nat.mod_eq_of_lt k.isLt)

/-- A resync marker with `k` stuffing bits, for `f` (R115). -/
theorem Written.of_resync (k f : Nat) (hk : k ≤ 7) (hf : f ≤ 7) :
    Written .resync (.resync (low3 k) (low3 f)) (resyncBits k f) [(resyncBits k f).length] := by
  have hk : (low3 k).val = k := Nat.mod_eq_of_lt (by omega)
  have hf : (low3 f).val = f := Nat.mod_eq_of_lt (by omega)
  have hcode : encode (.resync (low3 k) (low3 f)) = resyncBits k f := by simp only [encode, resyncBits, hk, hf]
  exact ⟨rfl, rfl, hcode, hcode ▸ rfl⟩

/-- The decoder takes the encodings of the instructions its table can hold, and no other bits (R103, R120). -/
theorem Dec.codes_parseInstr {t : Table} (hf : ∀ f, t = .mvd f → 1 ≤ f ∧ f ≤ 7) : Dec.Codes (parseInstr t) (Written t) := by
  cases t with
  | mcbpcI => exact Dec.codes_vlcInstr mcbpcITable_prefixFree Written.of_mcbpcI fun | _, .mcbpcI h => h
  | mcbpcP => exact Dec.codes_vlcInstr mcbpcPTable_prefixFree Written.of_mcbpcP fun | _, .mcbpcP h => h
  | cbpy => exact Dec.codes_vlcInstr cbpyTable_prefixFree Written.of_cbpy fun | _, .cbpy h => h
  | mvd f => exact Dec.codes_mvdInstr (hf f rfl)
  | dcszL => exact Dec.codes_dcInstr .luma dcszLTable_prefixFree fun | _, .dcszL h => ⟨_, _, h⟩
  | dcszC => exact Dec.codes_dcInstr .chroma dcszCTable_prefixFree fun | _, .dcszC h => ⟨_, _, h⟩
  | acIntra =>
    refine Dec.codes_acInstr .intra fun i hi => ?_
    cases hi with
    | acIntraRow h =>
      obtain ⟨r, hr, hi⟩ := h
      exact ⟨.row r, hr, hi⟩
    | acIntraEscape a ha => exact ⟨a, ha, rfl⟩
  | acInter =>
    refine Dec.codes_acInstr .inter fun i hi => ?_
    cases hi with
    | acInterRow h =>
      obtain ⟨r, hr, hi⟩ := h
      exact ⟨.row r, hr, hi⟩
    | acInterEscape a ha => exact ⟨a, ha, rfl⟩
  | modb => exact Dec.codes_vlcInstr modbTable_prefixFree Written.of_modb fun | _, .modb h => h
  | bmbtype => exact Dec.codes_vlcInstr bmbtypeTable_prefixFree Written.of_bmbtype fun | _, .bmbtype h => h
  | dbquant => exact Dec.codes_vlcInstr dbquantTable_prefixFree Written.of_dbquant fun | _, .dbquant h => h
  | notCoded => exact Dec.codes_bitInstr (fun _ => ⟨rfl, rfl, rfl, rfl⟩) fun | _, .notCoded b => ⟨b, rfl⟩
  | acPred => exact Dec.codes_bitInstr (fun _ => ⟨rfl, rfl, rfl, rfl⟩) fun | _, .acPred b => ⟨b, rfl⟩
  | mcsel => exact Dec.codes_bitInstr (fun _ => ⟨rfl, rfl, rfl, rfl⟩) fun | _, .mcsel b => ⟨b, rfl⟩
  | dquant => exact Dec.codes_vlcInstr dquantTable_prefixFree Written.of_dquant fun | _, .dquant h => h
  | cbpb =>
    refine Dec.codes_instr (Dec.codes_takeBits 6) ?_ fun | _, .cbpb v, _ => ⟨v.toNat, _, _, ⟨v.isLt, rfl, rfl⟩, by simp⟩
    rintro v _ _ ⟨hv, rfl, rfl⟩
    exact ⟨rfl, rfl, fieldBits_ofNat hv, rfl⟩
  | traj =>
    refine Dec.codes_instr Dec.codes_parseTraj ?_ fun | _, .traj hle hv h, _ => ⟨(_, _), _, _, ⟨hle, hv, rfl, rfl⟩, h⟩
    rintro ⟨len, v⟩ _ _ ⟨hle, hv, rfl, rfl⟩
    exact Written.of_traj len v hle hv
  | sc =>
    refine Dec.codes_instr Dec.codes_parseStartCode ?_ fun | _, .sc c, _ => ⟨c, _, _, ⟨rfl, rfl⟩, rfl⟩
    rintro c _ _ ⟨rfl, rfl⟩
    exact ⟨rfl, rfl, rfl, rfl⟩
  | resync =>
    refine Dec.codes_instr Dec.codes_parseResync ?_ fun
      | _, .resync k f, _ => ⟨(k, f), _, _, ⟨Nat.le_of_lt_succ k.isLt, Nat.le_of_lt_succ f.isLt, rfl, rfl⟩, by simp [low3_val]⟩
    rintro ⟨k, f⟩ _ _ ⟨hk, hf, rfl, rfl⟩
    exact Written.of_resync k f hk hf

/-- An accepted instruction is written at the head of the bits. -/
theorem decode_ok {t : Table} {bits : List Bool} {i : Instr} {n : Nat} (hf : ∀ f, t = .mvd f → 1 ≤ f ∧ f ≤ 7)
    (h : decode t bits = .ok i n) : ∃ l tail, Written t i (encode i) l ∧ bits = encode i ++ tail ∧ n = (encode i).length := by
  unfold decode at h
  split at h
  · rename_i c hparse
    cases h
    obtain ⟨_, l, hw, hbits, hlen⟩ := (Dec.codes_parseInstr hf).written _ _ _ hparse
    obtain ⟨-, -, rfl, -⟩ := id hw
    exact ⟨l, c.rest, hw, hbits, by simpa using hlen⟩
  · cases h

/-- Settles O53: an accepted instruction is one its table can hold, and its encoding is what was read. -/
theorem decodedBitsAreTheEncoding : Obligations.DecodedBitsAreTheEncoding := by
  intro t bits i n hf h _
  obtain ⟨l, tail, ⟨htable, hwf, -, -⟩, rfl, rfl⟩ := decode_ok hf h
  exact ⟨hwf, htable, by simp, by simp⟩

end Sys2Proof.Machine
end

section
/-! PROOFS. The meanings of the table rows, each once for its whole table (spec/41_vlc_mb_header.md, spec/42_vlc_coefficients.md,
spec/47_motion_compensation.md R360). -/

namespace Sys2Proof.Machine

theorem exec_mcbpcI : ∀ r ∈ mcbpcITable, ∀ s, exec r.ctor s = runCode r.code.length (fun s => s.setMcbpc r.sym) .none s := by
  intro r hr
  simp only [mcbpcITable, List.mem_cons, List.not_mem_nil, or_false] at hr
  repeat' (first | (rcases hr with hr | hr) | subst hr)
  all_goals exact fun _ => rfl

theorem exec_mcbpcP : ∀ r ∈ mcbpcPTable, ∀ s, exec r.ctor s = runCode r.code.length (fun s => s.setMcbpc r.sym) .none s := by
  intro r hr
  simp only [mcbpcPTable, List.mem_cons, List.not_mem_nil, or_false] at hr
  repeat' (first | (rcases hr with hr | hr) | subst hr)
  all_goals exact fun _ => rfl

theorem exec_cbpy : ∀ r ∈ cbpyTable, ∀ s, exec r.ctor s = runCode r.code.length (fun s => s.setCbpy r.intra) .none s := by
  intro r hr
  simp only [cbpyTable, List.mem_cons, List.not_mem_nil, or_false] at hr
  repeat' (first | (rcases hr with hr | hr) | subst hr)
  all_goals exact fun _ => rfl

theorem exec_modb : ∀ r ∈ modbTable, ∀ s, exec r.ctor s = runCode r.code.length (fun s => s.setModb r.sym) .none s := by
  intro r hr
  simp only [modbTable, List.mem_cons, List.not_mem_nil, or_false] at hr
  repeat' (first | (rcases hr with hr | hr) | subst hr)
  all_goals exact fun _ => rfl

theorem exec_bmbtype : ∀ r ∈ bmbtypeTable, ∀ s, exec r.ctor s = runCode r.code.length (fun s => s.setBtype r.btype) .none s := by
  intro r hr
  simp only [bmbtypeTable, List.mem_cons, List.not_mem_nil, or_false] at hr
  repeat' (first | (rcases hr with hr | hr) | subst hr)
  all_goals exact fun _ => rfl

theorem exec_dquant : ∀ r ∈ dquantTable, ∀ s, exec r.ctor s = runCode r.code.length (fun s => s.offsetQp r.delta) .none s := by
  intro r hr
  simp only [dquantTable, List.mem_cons, List.not_mem_nil, or_false] at hr
  repeat' (first | (rcases hr with hr | hr) | subst hr)
  all_goals exact fun _ => rfl

theorem exec_dbquant : ∀ r ∈ dbquantTable, ∀ s, exec r.ctor s = runCode r.code.length (fun s => s.offsetQp r.delta) .none s := by
  intro r hr
  simp only [dbquantTable, List.mem_cons, List.not_mem_nil, or_false] at hr
  repeat' (first | (rcases hr with hr | hr) | subst hr)
  all_goals exact fun _ => rfl

theorem exec_mvd (f : Nat) (neg : Bool) (res : Nat) : ∀ r ∈ mvdTable, r.mag ≠ 0 → ∀ s,
    exec (r.ctor f neg res) s = runReads [r.code.length, 1, f - 1] (fun s => s) (.int (mvDelta r.mag f neg res)) s := by
  intro r hr h0
  simp only [mvdTable, List.mem_cons, List.not_mem_nil, or_false] at hr
  rcases hr with rfl | hr
  · exact absurd rfl h0
  · repeat' (first | (rcases hr with hr | hr) | subst hr)
    all_goals exact fun _ => rfl

/-- A size row: the value code of R107, and for size 0 the codeword alone. -/
theorem exec_dc (v : Nat) (m : Bool) : ∀ r ∈ dcszLTable ++ dcszCTable,
    (r.size = 0 → ∀ s, exec (r.ctor v m) s = runCode r.code.length (fun s => s) (.int 0) s)
    ∧ (r.size ≠ 0 → ∀ s, exec (r.ctor v m) s
        = runReads (readsOf (r.ctor v m)) (fun s => s) (.int (signedField r.size (v % 2 ^ r.size))) s) := by
  intro r hr
  simp only [dcszLTable, dcszCTable, List.cons_append, List.nil_append, List.mem_cons, List.not_mem_nil, or_false] at hr
  repeat' (first | (rcases hr with hr | hr) | subst hr)
  all_goals first
    | exact ⟨fun _ _ => rfl, fun h => absurd rfl h⟩
    | exact ⟨fun h => absurd h (Nat.succ_ne_zero _), fun _ _ => rfl⟩

/-- A trajectory component, its value coded as in R107 (R109, R361). -/
theorem exec_traj {len : Nat} (h0 : len ≠ 0) (hle : len ≤ 12) (v : Nat) (s : State) :
    exec (trajInstr len v) s = runReads (readsOf (trajInstr len v)) (fun s => s) (.int (signedField len (v % 2 ^ len))) s := by
  interval_cases len
  · exact absurd rfl h0
  all_goals rfl

/-- The event of an escape (R213, R214, R217). -/
def AcForm.event (t : AcSel) (a : AcForm) : Event :=
  match a with
  | .row r => ⟨r.last, r.run, r.level⟩
  | .esc1 r s => esc1Event t (t.row r.num) s
  | .esc2 r s => esc2Event t (t.row r.num) s
  | .esc3 last run _ level _ => esc3Event last run level

theorem exec_escape (t : AcSel) (a : AcForm) (h : ∀ r, a ≠ .row r) (s : State) :
    exec (a.instr t) s = runReads (readsOf (a.instr t)) (fun st => st.setEv (AcForm.event t a)) .none s := by
  cases a with
  | row r => exact absurd rfl (h r)
  | _ => cases t <;> rfl

end Sys2Proof.Machine
end

section
/-! PROOFS. Codewords that stop before their end, alone and in a fetch (spec/40_bitreader.md R140, spec/60_exceptions.md
R470). -/

namespace Sys2Proof.Machine

/-! ## An instruction alone -/

/-- Where the window ends before the last bit of `i`, `BP` stands after the reads that fit (R470). -/
def StopsShort (i : Instr) : Prop :=
  ∀ s : State, 8 * s.bslen < s.bp + (encode i).length → exec i s = .next { s with
    bp := s.bp + wholeReads (readsOf i) (8 * s.bslen - s.bp), status := .failed .invalidData, result := .none }

/-- One read takes nothing where it does not fit. -/
theorem wholeReads_single_of_short {a b p : Nat} (h : b < p + a) : wholeReads [a] (b - p) = 0 := by
  obtain h0 | h0 := Nat.eq_zero_or_pos a
  · rw [wholeReads]
    split <;> simp [h0, wholeReads]
  · exact wholeReads_single_lt (by omega)

theorem StopsShort.of_runCode {t : Table} {i : Instr} {w : List Bool} {g : State → State} {r : Result}
    (hw : Written t i w [w.length]) (hx : ∀ s, exec i s = runCode w.length g r s) : StopsShort i := fun s hs => by
  obtain ⟨-, -, hcode, hreads⟩ := hw
  rw [hcode] at hs
  rw [hx, runCode_short _ _ _ _ hs, hreads, wholeReads_single_of_short hs]
  rfl

theorem StopsShort.of_runReads {i : Instr} {g : State → State} {r : Result} (hx : ∀ s, exec i s = runReads (readsOf i) g r s)
    (hsum : (readsOf i).sum = (encode i).length) : StopsShort i := fun s hs => by
  rw [hx, runReads_short _ _ _ _ (by omega)]

/-- A row of an AC table, whose codeword is all its encoding (R212). -/
theorem StopsShort.of_acRow {t : AcSel} {r : AcRow} (hr : r ∈ t.rows) : StopsShort r.ctor := fun s hs => by
  obtain ⟨hx, -, -⟩ := acRowFacts t r hr
  obtain ⟨-, -, hcode, hreads⟩ := Written.of_acRow t r hr
  rw [hcode] at hs
  rw [hx, runAcRow_short _ _ _ _ _ hs, hreads, wholeReads_single_of_short hs]
  rfl

theorem stopsShort_mvd (f : Nat) (neg : Bool) (res : Nat) : ∀ r ∈ mvdTable, r.mag ≠ 0 → StopsShort (r.ctor f neg res) := by
  intro r hr h0
  obtain ⟨-, -, hcode, hreads⟩ := mvdRow_written r hr h0 f neg res
  refine .of_runReads (by rw [hreads]; exact exec_mvd f neg res r hr h0) ?_
  rw [hreads, hcode]
  simp
  omega

/-- The reads of a codeword take all its bits. -/
theorem Written.sum_reads {t : Table} {i : Instr} {w : List Bool} {l : List Nat} (hf : ∀ f, t = .mvd f → 1 ≤ f ∧ f ≤ 7)
    (h : Written t i w l) : (readsOf i).sum = (encode i).length := by
  obtain ⟨-, -, rfl, rfl⟩ := id h
  exact ((Dec.codes_parseInstr hf).takes i _ _ h).sum

/-- A size row, with the marker that its size asks for (R107). -/
theorem Written.of_dcRow {t : Table} {l : List DcRow} (hl : DcRows t l) {r : DcRow} (hr : r ∈ l) {v : Nat} {m : Bool}
    (hv : v < 2 ^ r.size) (hm : r.size > 8 ∨ m = true) : ∃ w n, Written t (r.ctor v m) (r.code ++ w) (r.code.length :: n) := by
  by_cases h8 : r.size > 8
  · refine ⟨toBits r.size v ++ [m], [r.size, 1], ?_⟩
    rw [← List.append_assoc]
    exact Written.of_dcMarked hl r hr h8 v m hv
  · obtain rfl := hm.resolve_left h8
    exact ⟨_, _, Written.of_dcPlain hl r hr h8 v hv⟩

theorem stopsShort_dc {t : Table} {l : List DcRow} (hl : DcRows t l) {r : DcRow} (hr : r ∈ l) {v : Nat} {m : Bool}
    (hv : v < 2 ^ r.size) (hm : r.size > 8 ∨ m = true) : StopsShort (r.ctor v m) := by
  have hmem : r ∈ dcszLTable ++ dcszCTable := by
    cases hl with
    | luma => exact List.mem_append_left _ hr
    | chroma => exact List.mem_append_right _ hr
  obtain ⟨hzero, hpos⟩ := exec_dc v m r hmem
  by_cases h0 : r.size = 0
  · obtain rfl := hm.resolve_left (by omega)
    have hw := Written.of_dcPlain hl r hr (by omega) v hv
    rw [h0, toBits, List.append_nil] at hw
    exact .of_runCode hw (hzero h0)
  · obtain ⟨w, n, hw⟩ := Written.of_dcRow hl hr hv hm
    exact .of_runReads (hpos h0) (hw.sum_reads fun _ ht => by cases hl <;> cases ht)

theorem stopsShort_traj (len v : Nat) (hle : len ≤ 12) (hv : v < 2 ^ len) : StopsShort (trajInstr len v) := by
  by_cases h0 : len = 0
  · subst h0
    exact .of_runCode (Written.of_traj 0 v hle hv) (g := fun s => s) (r := .int 0) fun _ => rfl
  · exact .of_runReads (exec_traj h0 hle v) ((Written.of_traj len v hle hv).sum_reads fun _ h => by cases h)

theorem stopsShort_acForm (t : AcSel) (a : AcForm) (h : AcForm.rowIn t a) : StopsShort (a.instr t) := by
  by_cases hrow : ∃ r, a = .row r
  · obtain ⟨r, rfl⟩ := hrow
    cases t <;> exact .of_acRow h
  · exact .of_runReads (exec_escape t a fun r hr => hrow ⟨r, hr⟩) ((Written.of_acForm t a h).sum_reads fun _ ht => by cases t <;> cases ht)

/-- Every instruction of a table but `SC` and `RESYNC`, whose meaning alone is another (log entry 14). -/
theorem CodewordOf.stopsShort {t : Table} {i : Instr} (h : CodewordOf t i) (hsc : t ≠ .sc) (hresync : t ≠ .resync) :
    StopsShort i := by
  cases h with
  | mcbpcI h => obtain ⟨r, hr, rfl⟩ := h; exact .of_runCode (Written.of_mcbpcI r hr) (exec_mcbpcI r hr)
  | mcbpcP h => obtain ⟨r, hr, rfl⟩ := h; exact .of_runCode (Written.of_mcbpcP r hr) (exec_mcbpcP r hr)
  | cbpy h => obtain ⟨r, hr, rfl⟩ := h; exact .of_runCode (Written.of_cbpy r hr) (exec_cbpy r hr)
  | modb h => obtain ⟨r, hr, rfl⟩ := h; exact .of_runCode (Written.of_modb r hr) (exec_modb r hr)
  | bmbtype h => obtain ⟨r, hr, rfl⟩ := h; exact .of_runCode (Written.of_bmbtype r hr) (exec_bmbtype r hr)
  | dquant h => obtain ⟨r, hr, rfl⟩ := h; exact .of_runCode (Written.of_dquant r hr) (exec_dquant r hr)
  | dbquant h => obtain ⟨r, hr, rfl⟩ := h; exact .of_runCode (Written.of_dbquant r hr) (exec_dbquant r hr)
  | mvd0 f => exact .of_runCode (Written.of_mvdZero _ List.mem_cons_self rfl f false 0) (g := fun s => s) (r := .int 0) fun _ => rfl
  | mvd h _ => obtain ⟨r, hr, h0, rfl⟩ := h; exact stopsShort_mvd _ _ _ r hr h0
  | dcszL h => obtain ⟨r, hr, hv, hm, rfl⟩ := h; exact stopsShort_dc .luma hr hv hm
  | dcszC h => obtain ⟨r, hr, hv, hm, rfl⟩ := h; exact stopsShort_dc .chroma hr hv hm
  | acIntraRow h => obtain ⟨r, hr, rfl⟩ := h; exact .of_acRow (t := .intra) hr
  | acInterRow h => obtain ⟨r, hr, rfl⟩ := h; exact .of_acRow (t := .inter) hr
  | acIntraEscape a ha => exact stopsShort_acForm .intra a ha
  | acInterEscape a ha => exact stopsShort_acForm .inter a ha
  | notCoded b => exact .of_runCode (t := .notCoded) (w := [b]) ⟨rfl, rfl, rfl, rfl⟩ (g := fun s => s.setNotCoded b) (r := .none) fun _ => rfl
  | acPred b => exact .of_runCode (t := .acPred) (w := [b]) ⟨rfl, rfl, rfl, rfl⟩ (g := fun s => s.setAcPred b) (r := .none) fun _ => rfl
  | mcsel b => exact .of_runCode (t := .mcsel) (w := [b]) ⟨rfl, rfl, rfl, rfl⟩ (g := fun s => s.setMcsel b) (r := .none) fun _ => rfl
  | cbpb v => exact .of_runCode (t := .cbpb) (w := fieldBits v) ⟨rfl, rfl, rfl, rfl⟩ (g := fun s => s.setCbp v) (r := .none) fun _ => rfl
  | traj hle hv h => exact h ▸ stopsShort_traj _ _ hle hv
  | sc => exact absurd rfl hsc
  | resync => exact absurd rfl hresync

/-- A row of an AC table whose sign bit the window does not hold (R212). -/
theorem acRow_signMissing {t : AcSel} {r : AcRow} (hr : r ∈ t.rows) {s : State} (hs : s.bp + (encode r.ctor).length = 8 * s.bslen) :
    exec r.ctor s = .next { s with bp := s.bp + (encode r.ctor).length, status := .failed .invalidData, result := .none } := by
  obtain ⟨hx, -, -⟩ := acRowFacts t r hr
  obtain ⟨-, -, hcode, -⟩ := Written.of_acRow t r hr
  rw [hcode] at hs ⊢
  rw [hx, runAcRow_exact _ _ _ _ _ hs]

/-- What an AC table holds besides the escapes are its rows. -/
theorem CodewordOf.acRow {t : Table} {i : Instr} (h : CodewordOf t i) (ht : t = .acIntra ∨ t = .acInter) (he : isEscape i = false) :
    ∃ sel : AcSel, ∃ r ∈ sel.rows, r.ctor = i := by
  cases h with
  | acIntraRow h => exact ⟨.intra, h⟩
  | acInterRow h => exact ⟨.inter, h⟩
  | acIntraEscape a ha =>
    cases a with
    | row r => exact ⟨.intra, r, ha, rfl⟩
    | _ => cases he
  | acInterEscape a ha =>
    cases a with
    | row r => exact ⟨.inter, r, ha, rfl⟩
    | _ => cases he
  | _ => simp at ht

end Sys2Proof.Machine
end

section
/-! PROOFS. A fetch whose bits are no instruction (spec/30_encoding.md R104, R120, spec/60_exceptions.md R463, R470). -/

namespace Sys2Proof.Machine

/-! ## The first read decides -/

section
variable {α β : Type}

/-- Where the parse `x` fails, `d` fails at the same place: `x` is the first part of `d`. -/
def Dec.FailsWith (d : Dec β) (x : Dec α) : Prop := ∀ c e c', x c = .error e c' → d c = .error e c'

theorem Dec.FailsWith.refl (x : Dec α) : Dec.FailsWith x x := fun _ _ _ h => h

theorem Dec.FailsWith.bind {γ : Type} {d : Dec β} {x : Dec α} (h : Dec.FailsWith d x) (f : β → Dec γ) :
    Dec.FailsWith (d >>= f) x := fun c e c' hx => Dec.bind_apply_error (h c e c' hx)

/-- A first read that takes nothing where it fails, and begins a value of `S` where it does not. -/
theorem Dec.starts_of_first {d : Dec β} {x : Dec α} {S : β → List Bool → List Nat → Prop} (hd : Dec.FailsWith d x)
    (hx : Dec.AllOrNothing x)
    (hfirst : ∀ c a e, x c = .ok a e → ∃ v w l, S v w l ∧ w.take (l.headD 0) <+: c.rest) : Dec.Starts d S := fun c => by
  cases hc : x c with
  | ok a e => exact .inl (hfirst c a e hc)
  | error e c' => exact .inr ⟨e, by rw [hd c e c' hc, hx c e c' hc]⟩

/-- A first read of a codeword, each row of the table the beginning of a value. -/
theorem Dec.starts_vlc {d : Dec β} {code : α → List Bool} {rows : List α} {S : β → List Bool → List Nat → Prop}
    (hd : Dec.FailsWith d (vlc code rows)) (hrow : ∀ r ∈ rows, ∃ v w l, S v (code r ++ w) ((code r).length :: l)) :
    Dec.Starts d S := by
  refine Dec.starts_of_first hd (Dec.allOrNothing_vlc code rows) fun c r e h => ?_
  obtain ⟨_, _, ⟨hr, rfl, rfl⟩, hrest, -⟩ := Dec.written_vlc h
  obtain ⟨v, w, l, hs⟩ := hrow r hr
  exact ⟨v, _, _, hs, by rw [List.headD_cons, List.take_left, hrest]; exact List.prefix_append _ _⟩

/-- A first read of `n` bits, each number the beginning of a value. -/
theorem Dec.starts_takeBits {d : Dec β} {n : Nat} {S : β → List Bool → List Nat → Prop} (hd : Dec.FailsWith d (takeBits n))
    (hvalue : ∀ x < 2 ^ n, ∃ v w l, S v (toBits n x ++ w) (n :: l)) : Dec.Starts d S := by
  refine Dec.starts_of_first hd (Dec.allOrNothing_takeBits n) fun c x e h => ?_
  obtain ⟨_, _, ⟨hx, rfl, rfl⟩, hrest, -⟩ := (Dec.codes_takeBits n).written c x e h
  obtain ⟨v, w, l, hs⟩ := hvalue x hx
  exact ⟨v, _, _, hs, by rw [List.headD_cons, List.take_left' (toBits_length n x), hrest]; exact List.prefix_append _ _⟩

/-- A first read of one bit. -/
theorem Dec.starts_takeBit {d : Dec β} {S : β → List Bool → List Nat → Prop} (hd : Dec.FailsWith d takeBit)
    (hvalue : ∀ b, ∃ v w l, S v (b :: w) (1 :: l)) : Dec.Starts d S := by
  have hbit : Dec.FailsWith d (takeBits 1) := fun c e c' h => hd c e c' ((Dec.FailsWith.refl _).bind _ c e c' h)
  refine Dec.starts_takeBits hbit fun x _ => ?_
  obtain ⟨v, w, l, hs⟩ := hvalue (x.testBit 0)
  exact ⟨v, w, l, hs⟩

/-- A parse that is one read. -/
theorem Dec.starts_of_one_read {d : Dec β} {x : Dec α} {S : β → List Bool → List Nat → Prop} (hd : Dec.FailsWith d x)
    (hx : Dec.AllOrNothing x) {T : α → List Bool → List Nat → Prop} (hT : Dec.Codes x T)
    (hvalue : ∀ a w l, T a w l → ∃ v, S v w l) : Dec.Starts d S := by
  refine Dec.starts_of_first hd hx fun c a e h => ?_
  obtain ⟨w, l, ht, hrest, -⟩ := hT.written c a e h
  obtain ⟨v, hs⟩ := hvalue a w l ht
  exact ⟨v, w, l, hs, (List.take_prefix _ w).trans ⟨_, hrest.symm⟩⟩

end

/-- A row that is one read of a codeword begins an instruction. -/
theorem Written.begins {t : Table} {i : Instr} {w : List Bool} (h : Written t i w [w.length]) :
    ∃ v u l, Written t v (w ++ u) (w.length :: l) := ⟨i, [], [], by rwa [List.append_nil]⟩

/-- Each row of an AC table and its escape begin an instruction (R212). -/
theorem Written.begins_ac (t : AcSel) : ∀ o ∈ none :: t.rows.map some,
    ∃ v w l, Written (acTable t) v (acCode o ++ w) ((acCode o).length :: l) := by
  intro o ho
  cases o with
  | some r => exact (Written.of_acRow t r (by simpa using ho)).begins
  | none =>
    have hw := Written.of_acForm t (.esc3 false 0#6 true 1#12 true) trivial
    exact ⟨_, _, _, hw⟩

/-- Each size row begins an instruction (R107). -/
theorem Written.begins_dc {t : Table} {l : List DcRow} (hl : DcRows t l) : ∀ r ∈ l,
    ∃ v w n, Written t v (r.code ++ w) (r.code.length :: n) := fun _ hr =>
  ⟨_, Written.of_dcRow hl hr (v := 0) (m := true) (Nat.two_pow_pos _) (.inr rfl)⟩

/-- Each magnitude begins an instruction (R106). -/
theorem Written.begins_mvd {f : Nat} (hf : 1 ≤ f ∧ f ≤ 7) : ∀ r ∈ mvdTable,
    ∃ v w l, Written (.mvd f) v (r.code ++ w) (r.code.length :: l) := by
  intro r hr
  by_cases h0 : r.mag = 0
  · exact (Written.of_mvdZero r hr h0 f false 0).begins
  · exact ⟨_, _, _, Written.of_mvdRow hf.1 hf.2 r hr h0 false 0 (Nat.two_pow_pos _)⟩

/-- Each bit begins a trajectory component (R109). -/
theorem Written.begins_traj (b : Bool) : ∃ v w l, Written .traj v (b :: w) (1 :: l) := by
  cases b with
  | true => exact ⟨_, _, _, Written.of_traj 0 0 (by decide) (by decide)⟩
  | false => exact ⟨_, _, _, Written.of_traj 1 0 (by decide) (by decide)⟩

/-- Where the first read of a fetch is none of a codeword of its table, nothing is taken (R104, R120). -/
theorem Dec.starts_parseInstr {t : Table} (hf : ∀ f, t = .mvd f → 1 ≤ f ∧ f ≤ 7) : Dec.Starts (parseInstr t) (Written t) := by
  have hvlc {α : Type} {code : α → List Bool} {rows : List α} {g : α → Instr}
      (h : ∀ r ∈ rows, Written t (g r) (code r) [(code r).length]) : Dec.Starts (do return g (← vlc code rows)) (Written t) :=
    Dec.starts_vlc ((Dec.FailsWith.refl _).bind _) fun r hr => (h r hr).begins
  have hbit {g : Bool → Instr} (h : ∀ b, Written t (g b) [b] [1]) : Dec.Starts (do return g (← takeBit)) (Written t) :=
    Dec.starts_takeBit ((Dec.FailsWith.refl _).bind _) fun b => (h b).begins
  cases t with
  | mcbpcI => exact hvlc Written.of_mcbpcI
  | mcbpcP => exact hvlc Written.of_mcbpcP
  | cbpy => exact hvlc Written.of_cbpy
  | modb => exact hvlc Written.of_modb
  | bmbtype => exact hvlc Written.of_bmbtype
  | dbquant => exact hvlc Written.of_dbquant
  | dquant => exact hvlc Written.of_dquant
  | notCoded => exact hbit fun _ => ⟨rfl, rfl, rfl, rfl⟩
  | acPred => exact hbit fun _ => ⟨rfl, rfl, rfl, rfl⟩
  | mcsel => exact hbit fun _ => ⟨rfl, rfl, rfl, rfl⟩
  | mvd f => exact Dec.starts_vlc (((Dec.FailsWith.refl _).bind _).bind _) (Written.begins_mvd (hf f rfl))
  | dcszL => exact Dec.starts_vlc (((Dec.FailsWith.refl _).bind _).bind _) (Written.begins_dc .luma)
  | dcszC => exact Dec.starts_vlc (((Dec.FailsWith.refl _).bind _).bind _) (Written.begins_dc .chroma)
  | acIntra => exact Dec.starts_vlc (((Dec.FailsWith.refl _).bind _).bind _) (Written.begins_ac .intra)
  | acInter => exact Dec.starts_vlc (((Dec.FailsWith.refl _).bind _).bind _) (Written.begins_ac .inter)
  | cbpb =>
    refine Dec.starts_takeBits ((Dec.FailsWith.refl _).bind _) fun x hx => ⟨.cbpb (BitVec.ofNat 6 x), [], [], ?_⟩
    rw [List.append_nil]
    exact ⟨rfl, rfl, fieldBits_ofNat hx, rfl⟩
  | traj => exact Dec.starts_takeBit ((((Dec.FailsWith.refl _).bind _).bind _).bind _) Written.begins_traj
  | sc =>
    refine Dec.starts_of_one_read ((Dec.FailsWith.refl _).bind _) Dec.allOrNothing_parseStartCode Dec.codes_parseStartCode ?_
    rintro c _ _ ⟨rfl, rfl⟩
    exact ⟨.sc c, rfl, rfl, rfl, rfl⟩
  | resync =>
    refine Dec.starts_of_one_read ((Dec.FailsWith.refl _).bind _) Dec.allOrNothing_parseResync Dec.codes_parseResync ?_
    rintro ⟨k, f⟩ _ _ ⟨hk, hf, rfl, rfl⟩
    exact ⟨_, Written.of_resync k f hk hf⟩

/-! ## Prefixes and escapes that never end -/

/-- Thirteen zeros are no length code; the thirteenth is taken too (R109, R463 cause 13). -/
theorem parsePrefix_zeros (fuel len : Nat) (h : fuel + len = 13) (hle : len ≤ 12) (tail : List Bool) (u : Nat) :
    parsePrefix fuel len ⟨List.replicate fuel false ++ tail, u⟩ = .error .runTooLong ⟨tail, u + fuel⟩ := by
  induction fuel generalizing len u with
  | zero => omega
  | succ fuel ih =>
    have hbit := (Dec.codes_takeBit.takes false _ _ ⟨rfl, rfl⟩).whole (List.replicate fuel false ++ tail) u
    rw [List.replicate_succ, List.cons_append]
    refine (Dec.bind_apply_ok hbit).trans ?_
    by_cases hlast : len + 1 > 12
    · obtain rfl : fuel = 0 := by omega
      simp [hlast]
      rfl
    · simp only [hlast, if_false, Bool.false_eq_true]
      rw [ih (len + 1) (by omega) (by omega)]
      simp [Nat.add_comm, Nat.add_left_comm]

/-- What the inner codeword's read does not find is not there (R213). -/
theorem parseInner_error {t : AcSel} {c : Cursor} (hesc : ¬escapeCode <+: c.rest) (hrow : ∀ r ∈ t.rows, ¬r.code <+: c.rest) :
    ∃ e, parseInner t c = .error e c := by
  cases h : vlc acCode (none :: t.rows.map some) c with
  | error e c' => exact ⟨e, by rw [parseInner, Dec.bind_apply_error h, Dec.allOrNothing_vlc _ _ c e c' h]⟩
  | ok o d =>
    obtain ⟨_, _, ⟨ho, rfl, -⟩, hrest, -⟩ := Dec.written_vlc h
    cases o with
    | none => exact absurd ⟨_, hrest.symm⟩ hesc
    | some r => exact absurd ⟨_, hrest.symm⟩ (hrow r (by simpa using ho))

/-- An escape inside an escape is taken (R215). -/
theorem parseInner_escape (t : AcSel) (tail : List Bool) (u : Nat) :
    parseInner t ⟨escapeCode ++ tail, u⟩ = .error .escapeInEscape ⟨tail, u + 7⟩ :=
  Dec.bind_apply_ok (((Dec.codes_vlc (acTable_prefixFree t)).takes none _ _ ⟨List.mem_cons_self, rfl, rfl⟩).whole tail u)

/-- The first escape fails where its inner codeword does (R213). -/
theorem parseAc_esc1 {t : AcSel} {tail : List Bool} {e : Reject} {c : Cursor} (h : parseInner t ⟨tail, 8⟩ = .error e c) :
    parseAc t ⟨escapeCode ++ [false] ++ tail, 0⟩ = .error e c := by
  have hesc := ((Dec.codes_vlc (acTable_prefixFree t)).takes none _ _ ⟨List.mem_cons_self, rfl, rfl⟩).whole (false :: tail) 0
  have hbit := (Dec.codes_takeBit.takes false _ _ ⟨rfl, rfl⟩).whole tail 7
  rw [List.append_assoc]
  refine (Dec.bind_apply_ok hesc).trans ((Dec.bind_apply_ok hbit).trans ?_)
  exact Dec.bind_apply_error h

/-- The second escape fails where its inner codeword does (R214). -/
theorem parseAc_esc2 {t : AcSel} {tail : List Bool} {e : Reject} {c : Cursor} (h : parseInner t ⟨tail, 9⟩ = .error e c) :
    parseAc t ⟨escapeCode ++ [true, false] ++ tail, 0⟩ = .error e c := by
  have hesc := ((Dec.codes_vlc (acTable_prefixFree t)).takes none _ _ ⟨List.mem_cons_self, rfl, rfl⟩).whole (true :: false :: tail) 0
  have hbit1 := (Dec.codes_takeBit.takes true _ _ ⟨rfl, rfl⟩).whole (false :: tail) 7
  have hbit2 := (Dec.codes_takeBit.takes false _ _ ⟨rfl, rfl⟩).whole tail 8
  rw [List.append_assoc]
  refine (Dec.bind_apply_ok hesc).trans ((Dec.bind_apply_ok hbit1).trans ((Dec.bind_apply_ok hbit2).trans ?_))
  exact Dec.bind_apply_error h

/-! ## The stops of a fetch -/

/-- A fetch whose parse fails takes the bits that the parse took. -/
theorem State.fetchFails_of_parse {s : State} {t : Table} {rest : List Request} (hq : s.inq = .fetch t :: rest) {e : Reject}
    {c : Cursor} (h : parseInstr t ⟨s.ahead, 0⟩ = .error e c) : s.FetchFails c.used := by
  rw [State.FetchFails, step_fetch_reject (e := e) (used := c.used) hq (by rw [decode, h]), hq]
  rfl

theorem State.fetchFails_of_parseAc {s : State} {t : AcSel} {rest : List Request} (hq : s.inq = .fetch (acTable t) :: rest)
    {e : Reject} {c : Cursor} (h : parseAc t ⟨s.ahead, 0⟩ = .error e c) : s.FetchFails c.used := by
  cases t <;> exact State.fetchFails_of_parse hq (Dec.bind_apply_error h)

/-- An instruction of the table that is cut off stops after the reads that fit. -/
theorem State.fetchFails_of_cut {s : State} {t : Table} {rest : List Request} (hq : s.inq = .fetch t :: rest)
    (hf : ∀ f, t = .mvd f → 1 ≤ f ∧ f ≤ 7) {i : Instr} {m : Nat} (htable : i.inTable t = true) (hwf : i.wf = true)
    (hm : m < (encode i).length) (hahead : s.ahead = (encode i).take m) : s.FetchFails (wholeReads (readsOf i) m) := by
  obtain ⟨e, tail, h⟩ := ((Dec.codes_parseInstr hf).takes i _ _ ⟨htable, hwf, rfl, rfl⟩).cut m 0 hm
  rw [← hahead] at h
  simpa using State.fetchFails_of_parse hq h

/-- Where no codeword of the first read stands at `BP`, it stays. -/
theorem State.fetchFails_of_noCodeword {s : State} {t : Table} {rest : List Request} (hq : s.inq = .fetch t :: rest)
    (hf : ∀ f, t = .mvd f → 1 ≤ f ∧ f ≤ 7)
    (hno : ∀ i : Instr, i.inTable t = true → i.wf = true → ¬(encode i).take ((readsOf i).headD 0) <+: s.ahead) :
    s.FetchFails 0 := by
  obtain ⟨i, _, _, ⟨htable, hwf, rfl, rfl⟩, hw⟩ | ⟨e, h⟩ := Dec.starts_parseInstr hf ⟨s.ahead, 0⟩
  · exact absurd hw (hno i htable hwf)
  · exact State.fetchFails_of_parse hq h

/-- Settles O8. -/
theorem cutOffCodewordStopsAfterItsLastRead : Obligations.CutOffCodewordStopsAfterItsLastRead := by
  refine ⟨fun t i s hsc hresync htable _ => ⟨?alone, ?signMissing⟩, fun t rest s hq hf => ⟨?cut, ?noCodeword, ?zeros, ?escapes⟩⟩
  case alone =>
    intro n hshort hn
    rw [(CodewordOf.of_inTable htable).stopsShort hsc hresync s hshort, (readsTaken_iff _ _ _).1 hn]
  case signMissing =>
    intro ht he hs
    obtain ⟨sel, r, hr, rfl⟩ := (CodewordOf.of_inTable htable).acRow ht he
    exact acRow_signMissing hr hs
  case cut =>
    intro i m n htable hwf _ hm hahead hn
    rw [(readsTaken_iff _ _ _).1 hn]
    exact State.fetchFails_of_cut hq hf htable hwf hm hahead
  case noCodeword => exact State.fetchFails_of_noCodeword hq hf
  case zeros =>
    rintro rfl ⟨tail, htail⟩
    have h := parsePrefix_zeros 13 0 rfl (by decide) tail 0
    rw [htail] at h
    exact State.fetchFails_of_parse hq (Dec.bind_apply_error (Dec.bind_apply_error h))
  case escapes =>
    rintro sel rfl
    refine ⟨?inEsc1, ?inEsc2, fun tail hesc hrow => ⟨?afterEsc1, ?afterEsc2⟩⟩
    case inEsc1 =>
      rintro ⟨tail, htail⟩
      have h := parseAc_esc1 (parseInner_escape sel tail 8)
      rw [← List.append_assoc, htail] at h
      exact State.fetchFails_of_parseAc hq h
    case inEsc2 =>
      rintro ⟨tail, htail⟩
      have h := parseAc_esc2 (parseInner_escape sel tail 9)
      rw [← List.append_assoc, htail] at h
      exact State.fetchFails_of_parseAc hq h
    case afterEsc1 =>
      intro hahead
      obtain ⟨e, h⟩ := parseInner_error (c := ⟨tail, 8⟩) hesc hrow
      exact State.fetchFails_of_parseAc hq (hahead ▸ parseAc_esc1 h)
    case afterEsc2 =>
      intro hahead
      obtain ⟨e, h⟩ := parseInner_error (c := ⟨tail, 9⟩) hesc hrow
      exact State.fetchFails_of_parseAc hq (hahead ▸ parseAc_esc2 h)

end Sys2Proof.Machine
end

section
/-! PROOFS. Codewords that return a value or set a header register (spec/30_encoding.md R101, R105 to R109,
spec/41_vlc_mb_header.md, spec/42_vlc_coefficients.md section 1). -/

namespace Sys2Proof.Machine

theorem Completes.of_runCode {i : Instr} {n : Nat} {g : State → State} {r : Result} (hx : ∀ s, exec i s = runCode n g r s) :
    Completes i n g r := fun s hs => by
  rw [hx, runCode_fits _ _ _ _ hs]

theorem Completes.of_runReads {i : Instr} {l : List Nat} {n : Nat} {g : State → State} {r : Result}
    (hx : ∀ s, exec i s = runReads l g r s) (hl : l.sum = n) : Completes i n g r := fun s hs => by
  subst hl
  rw [hx, runReads_fits _ _ _ _ hs]

/-! ## Motion-vector deltas -/

/-- A magnitude that is not 0, in R106's words. -/
theorem mvDelta_of_pos {mag : Nat} (h : 0 < mag) (f : Nat) (neg : Bool) (res : Nat) :
    mvDelta mag f neg res = if neg then -(((mag - 1) * 2 ^ (f - 1) + res + 1 : Nat) : Int)
      else (((mag - 1) * 2 ^ (f - 1) + res + 1 : Nat) : Int) := by
  rw [mvDelta, if_neg (by omega), signed]

/-- Codeword, sign and residual of a delta, and the delta of R106. -/
theorem Completes.of_mvd {i : Instr} {mag n f : Nat} {neg : Bool} {res : Nat} (h1 : 1 ≤ f) (hmag : 0 < mag)
    (hx : ∀ s, exec i s = runReads [n, 1, f - 1] (fun s => s) (.int (mvDelta mag f neg res)) s) :
    Completes i (n + f) (fun s => s)
      (.int (if neg then -(((mag - 1) * 2 ^ (f - 1) + res + 1 : Nat) : Int) else (((mag - 1) * 2 ^ (f - 1) + res + 1 : Nat) : Int))) := by
  rw [← mvDelta_of_pos hmag]
  exact .of_runReads hx (by simp; omega)

/-- Settles O2, row by row. -/
theorem mvdCodewords : Obligations.MvdCodewords := by
  refine ⟨.of_runCode fun _ => rfl, fun f neg res h1 _ _ p hp => ?_⟩
  simp only [List.mem_cons, List.not_mem_nil, or_false] at hp
  repeat' (first | (rcases hp with hp | hp) | subst hp)
  all_goals exact .of_mvd h1 (Nat.succ_pos _) fun _ => rfl

/-! ## Values whose first bit is the sign -/

/-- A value field of `n` bits is the value of R107. -/
theorem Completes.of_field {i : Instr} {l : List Nat} {k n : Nat} (v : BitVec n)
    (hx : ∀ s, exec i s = runReads l (fun s => s) (.int (signedField n v.toNat)) s) (hl : l.sum = k) :
    Completes i k (fun s => s) (.int (fieldValue n v.toNat)) := by
  rw [← signedField_eq n v.toNat v.isLt]
  exact .of_runReads hx hl

/-- `DCVAL` is its operands' value (log entry 15). -/
theorem answers_dcval {n : Fin 13} {v : Nat} (h : v < 2 ^ n.val) {s : State} (ho : s.opened = true) :
    Answers (.dcval n v) s (.int (fieldValue n.val v)) := by
  rw [← signedField_eq n.val v h]
  exact runCommand_opened _ s ho

/-- Settles O3. -/
theorem intraDcAndTrajectoryCodewords : Obligations.IntraDcAndTrajectoryCodewords := by
  refine ⟨⟨?_, ?_, ?_, ?_, ?_, ?_, ?_, ?_, ?_, ?_, ?_, ?_, ?_, ?_, ?_, ?_, ?_, ?_, ?_, ?_, ?_, ?_, ?_, ?_, ?_, ?_⟩,
    ⟨?_, ?_, ?_, ?_, ?_, ?_, ?_, ?_, ?_, ?_, ?_, ?_, ?_⟩, ?dcval⟩
  case dcval => exact fun _ _ _ ho hv => answers_dcval hv ho
  all_goals first
    | exact .of_runCode fun _ => rfl
    | exact fun v => .of_field v (fun _ => rfl) rfl

/-! ## Header fields and quantizer codes -/

/-- A change of the quantizer, clamped as R172 and R183 say. -/
theorem State.offsetQp_eq (s : State) (d : Int) : s.offsetQp d = { s with qp := (within 1 31 ((s.qp : Int) + d)).toNat } := by
  rw [← adjustQuant_eq]
  rfl

theorem Completes.of_offsetQp {i : Instr} {n : Nat} {d : Int} (hx : ∀ s, exec i s = runCode n (fun s => s.offsetQp d) .none s) :
    Completes i n (fun s => { s with qp := (within 1 31 ((s.qp : Int) + d)).toNat }) .none := by
  simpa only [State.offsetQp_eq] using Completes.of_runCode hx

/-- Settles O6. -/
theorem headerFieldsAndQuantizerCodes : Obligations.HeaderFieldsAndQuantizerCodes := by
  refine ⟨fun b => ⟨?_, .of_runCode fun _ => rfl, .of_runCode fun _ => rfl⟩, .of_runCode fun _ => rfl, .of_runCode fun _ => rfl,
    .of_runCode fun _ => rfl, fun p hp => ?_, fun v => .of_runCode fun _ => rfl, fun p hp => ?_⟩
  · cases b <;> exact .of_runCode fun _ => rfl
  · simp only [List.mem_cons, List.not_mem_nil, or_false] at hp
    rcases hp with rfl | rfl | rfl | rfl
    all_goals exact .of_runCode fun _ => rfl
  · simp only [List.mem_cons, List.not_mem_nil, or_false] at hp
    rcases hp with rfl | rfl | rfl | rfl | rfl | rfl | rfl
    all_goals exact .of_offsetQp fun _ => rfl

end Sys2Proof.Machine
end

section
/-! PROOFS. The codewords of a macroblock's header inside the macroblock layer (spec/30_encoding.md R110, R111,
spec/41_vlc_mb_header.md). The layer keeps `MB.cbp` until CBPY, where a codeword given alone writes its part at once; so each
step is stated from the state with another `MB.cbp`. -/

namespace Sys2Proof.Machine

/-! ## Reads from a state with the same bits ahead -/

/-- What follows two first parts that answer the same answers the same. -/
theorem bind_apply_congr {α β : Type} {x y : Act α} {s t : State} (f : α → Act β) (h : x s = y t) : (x >>= f) s = (y >>= f) t := by
  show EStateM.bind x f s = EStateM.bind y f t
  simp only [EStateM.bind, h]

/-- A parse sees the window and `BP` alone. -/
theorem parse_congr {α : Type} {d : Dec α} {s t : State} {v : α} {n : Nat} (h : parse d s = .ok v (s.advance n))
    (ha : t.ahead = s.ahead) : parse d t = .ok v (t.advance n) := by
  rw [parse_apply] at h ⊢
  rw [ha]
  split at h
  · rename_i c hd
    have hbp := congrArg State.bp (EStateM.Result.ok.inj h).2
    have hn : c.used = n := Nat.add_left_cancel hbp
    rw [(EStateM.Result.ok.inj h).1, hn]
  · cases h

/-- A bit read depends on the window and `BP` alone. -/
theorem readBit_congr {s t : State} {b : Bool} (h : readBit s = .ok b (s.advance 1)) (hbs : t.bs = s.bs)
    (hlen : t.bslen = s.bslen) (hbp : t.bp = s.bp) : readBit t = .ok b (t.advance 1) := by
  have hfits := readBit_fits h
  unfold readBit at h ⊢
  rw [bind_apply_ok _ _ s (s.advance 1) _ (by rw [readBits_apply, if_pos hfits])] at h
  rw [bind_apply_ok _ _ t (t.advance 1) _ (by rw [readBits_apply, if_pos (by omega)])]
  have hbits : t.bits t.bp 1 = s.bits s.bp 1 := by rw [State.bits, State.bits, State.bitList_congr hbs, hbp]
  rw [hbits, ← (EStateM.Result.ok.inj h).1]
  rfl

/-- A codeword that is found stands in the window. -/
theorem parse_vlc_fits {α : Type} {code : α → List Bool} {l : List α} {s t : State} {r : α} (h : parse (vlc code l) s = .ok r t) :
    r ∈ l ∧ t = s.advance (code r).length ∧ (code r).length ≤ 8 * s.bslen - s.bp := by
  rw [parse_apply] at h
  split at h
  · rename_i c hd
    cases h
    obtain ⟨_, _, ⟨hr, rfl, -⟩, hrest, hused⟩ := Dec.written_vlc hd
    have hlen := congrArg List.length hrest
    simp only [State.ahead, State.bitList_length, List.length_append] at hlen
    exact ⟨hr, by rw [hused, Nat.zero_add], by omega⟩
  · cases h

/-- A codeword that is found is the bits at `BP`. -/
theorem parse_vlc_bits {α : Type} {code : α → List Bool} {l : List α} {s t : State} {r : α} (h : parse (vlc code l) s = .ok r t) :
    s.bitList s.bp (code r).length = code r := by
  rw [parse_apply] at h
  split at h
  · rename_i c hd
    cases h
    obtain ⟨_, _, ⟨-, rfl, -⟩, hrest, -⟩ := Dec.written_vlc hd
    have hlen := congrArg List.length hrest
    simp only [State.ahead, State.bitList_length, List.length_append] at hlen
    have hrest := congrArg (List.take (code r).length) hrest
    rwa [State.ahead, State.bitList_take _ _ _ _ (by omega), List.take_left] at hrest
  · cases h

/-! ## The codewords -/

theorem State.setMcbpc_status (s : State) (m : Mcbpc) : (s.setMcbpc m).status = s.status := by cases m <;> rfl

theorem State.setMcbpc_result (s : State) (m : Mcbpc) : (s.setMcbpc m).result = s.result := by cases m <;> rfl

theorem reads_mcbpcI {s u : State} {i : Instr} (h : s.Reads .mcbpcI i u) : ∃ r ∈ mcbpcITable, i = r.ctor
    ∧ parse (vlc McbpcRow.code mcbpcITable) s = .ok r (s.advance r.code.length) ∧ u = (s.advance r.code.length).setMcbpc r.sym :=
  reads_vlc (t := .mcbpcI) (ctor := McbpcRow.ctor) (g := fun r s => s.setMcbpc r.sym) rfl exec_mcbpcI
    (fun _ _ => State.setMcbpc_status _ _) (fun _ _ => State.setMcbpc_result _ _) h

theorem reads_mcbpcP {s u : State} {i : Instr} (h : s.Reads .mcbpcP i u) : ∃ r ∈ mcbpcPTable, i = r.ctor
    ∧ parse (vlc McbpcRow.code mcbpcPTable) s = .ok r (s.advance r.code.length) ∧ u = (s.advance r.code.length).setMcbpc r.sym :=
  reads_vlc (t := .mcbpcP) (ctor := McbpcRow.ctor) (g := fun r s => s.setMcbpc r.sym) rfl exec_mcbpcP
    (fun _ _ => State.setMcbpc_status _ _) (fun _ _ => State.setMcbpc_result _ _) h

theorem reads_cbpy {s u : State} {i : Instr} (h : s.Reads .cbpy i u) : ∃ r ∈ cbpyTable, i = r.ctor
    ∧ parse (vlc CbpyRow.code cbpyTable) s = .ok r (s.advance r.code.length) ∧ u = (s.advance r.code.length).setCbpy r.intra :=
  reads_vlc (t := .cbpy) (ctor := CbpyRow.ctor) (g := fun r s => s.setCbpy r.intra) rfl exec_cbpy (fun _ _ => rfl) (fun _ _ => rfl) h

theorem reads_dquant {s u : State} {i : Instr} (h : s.Reads .dquant i u) : ∃ r ∈ dquantTable, i = r.ctor
    ∧ parse (vlc QuantRow.code dquantTable) s = .ok r (s.advance r.code.length) ∧ u = (s.advance r.code.length).offsetQp r.delta :=
  reads_vlc (t := .dquant) (ctor := QuantRow.ctor) (g := fun r s => s.offsetQp r.delta) rfl exec_dquant
    (fun _ _ => rfl) (fun _ _ => rfl) h

theorem reads_acPred {s u : State} {i : Instr} (h : s.Reads .acPred i u) :
    ∃ b, i = .acPred b ∧ readBit s = .ok b (s.advance 1) ∧ u = (s.advance 1).setAcPred b :=
  reads_bit (g := fun b s => s.setAcPred b) rfl (fun _ _ => rfl) (fun _ _ => rfl) (fun _ _ => rfl) h

theorem reads_mcsel {s u : State} {i : Instr} (h : s.Reads .mcsel i u) :
    ∃ b, i = .mcsel b ∧ readBit s = .ok b (s.advance 1) ∧ u = (s.advance 1).setMcsel b :=
  reads_bit (g := fun b s => s.setMcsel b) rfl (fun _ _ => rfl) (fun _ _ => rfl) (fun _ _ => rfl) h

theorem reads_notCoded {s u : State} {i : Instr} (h : s.Reads .notCoded i u) :
    ∃ b, i = .notCoded b ∧ readBit s = .ok b (s.advance 1) ∧ u = (s.advance 1).setNotCoded b :=
  reads_bit (g := fun b s => s.setNotCoded b) rfl (fun _ _ => rfl) (fun b _ => by cases b <;> rfl)
    (fun b _ => by cases b <;> rfl) h

/-! ## The parts of the header -/

/-- `t` is `s` but for what the codewords of a header write: `BP`, the `MB` registers and `QP`. -/
def State.SameButHeader (s t : State) : Prop := t = { s with bp := t.bp, mb := t.mb, qp := t.qp }

theorem State.SameButHeader.trans {s t u : State} (h : s.SameButHeader t) (g : t.SameButHeader u) : s.SameButHeader u := by
  unfold State.SameButHeader at *
  rw [g, h]

theorem State.SameButHeader.mbk {s t : State} (h : s.SameButHeader t) : t.mbk = s.mbk := by rw [show t = _ from h]

theorem State.SameButHeader.vop {s t : State} (h : s.SameButHeader t) : t.vop = s.vop := by rw [show t = _ from h]

theorem sameButHeader_of_mcbpcI {s t : State} {i : Instr} (h : s.Reads .mcbpcI i t) : s.SameButHeader t := by
  obtain ⟨r, -, -, -, rfl⟩ := reads_mcbpcI h
  cases r.sym <;> rfl

theorem sameButHeader_of_mcbpcP {s t : State} {i : Instr} (h : s.Reads .mcbpcP i t) : s.SameButHeader t := by
  obtain ⟨r, -, -, -, rfl⟩ := reads_mcbpcP h
  cases r.sym <;> rfl

theorem sameButHeader_of_acPred {s t : State} {i : Instr} (h : s.Reads .acPred i t) : s.SameButHeader t := by
  obtain ⟨b, -, -, rfl⟩ := reads_acPred h
  rfl

theorem sameButHeader_of_cbpy {s t : State} {i : Instr} (h : s.Reads .cbpy i t) : s.SameButHeader t := by
  obtain ⟨r, -, -, -, rfl⟩ := reads_cbpy h
  rfl

theorem State.ReadsAcPred.sameButHeader {s t : State} (h : s.ReadsAcPred t) : s.SameButHeader t := by
  unfold State.ReadsAcPred at h
  split at h
  · obtain ⟨b, h⟩ := h
    exact sameButHeader_of_acPred h
  · rw [h]
    rfl

theorem State.ReadsMcsel.sameButHeader {s t : State} (h : s.ReadsMcsel t) : s.SameButHeader t := by
  unfold State.ReadsMcsel at h
  dsimp only at h
  split at h
  · obtain ⟨b, h⟩ := h
    obtain ⟨b, -, -, rfl⟩ := reads_mcsel h
    rfl
  · rw [h]
    rfl

theorem State.ReadsDquant.sameButHeader {s t : State} (h : s.ReadsDquant t) : s.SameButHeader t := by
  unfold State.ReadsDquant at h
  split at h
  · obtain ⟨i, h⟩ := h
    obtain ⟨r, -, -, -, rfl⟩ := reads_dquant h
    rfl
  · rw [h]
    rfl

theorem cbpcOf_joinCbp : ∀ (y : BitVec 4) (c : BitVec 2), cbpcOf (joinCbp y c) = c := by decide

theorem isIntraMode_iff (m : MbMode) : isIntraMode m = true ↔ m = .intra ∨ m = .intraQ := by cases m <;> simp [isIntraMode]

theorem hasDquant_iff (m : MbMode) : hasDquant m = true ↔ m = .interQ ∨ m = .intraQ := by cases m <;> simp [hasDquant]

theorem hasVectors_iff (m : MbMode) : hasVectors m = true ↔ m = .inter ∨ m = .interQ ∨ m = .inter4V := by
  cases m <;> simp [hasVectors]

/-- The `ac_pred` bit, with any `MB.cbp` before it. -/
theorem readBit_of_acPred {s t : State} {i : Instr} (h : s.Reads .acPred i t) (c : BitVec 6) :
    ∃ b, readBit (s.setCbp c) = .ok b ((s.setCbp c).advance 1) ∧ ((s.setCbp c).advance 1).setAcPred b = t.setCbp c
      ∧ t.mb.cbp = s.mb.cbp := by
  obtain ⟨b, -, hb, rfl⟩ := reads_acPred h
  exact ⟨b, readBit_congr hb rfl rfl rfl, rfl, rfl⟩

theorem readAcPred_of_reads {s t : State} (h : s.ReadsAcPred t) (c : BitVec 6) :
    readAcPred (s.setCbp c) = .ok () (t.setCbp c) ∧ t.mb.cbp = s.mb.cbp := by
  unfold State.ReadsAcPred at h
  unfold readAcPred
  rw [bind_apply_ok _ _ _ _ _ (get_apply _)]
  split at h
  · rename_i hmode
    obtain ⟨b, h⟩ := h
    obtain ⟨b, hb, ht, hcbp⟩ := readBit_of_acPred h c
    have hmode : isIntraMode (s.setCbp c).mb.mode = true := (isIntraMode_iff s.mb.mode).2 hmode
    rw [if_pos hmode, bind_apply_ok _ _ _ _ _ hb, update_apply, ht]
    exact ⟨rfl, hcbp⟩
  · rename_i hmode
    subst h
    have hmode : ¬isIntraMode (s.setCbp c).mb.mode = true := fun hm => hmode ((isIntraMode_iff s.mb.mode).1 hm)
    rw [if_neg hmode]
    exact ⟨rfl, rfl⟩

theorem readMcsel_of_reads {s t : State} (h : s.ReadsMcsel t) (c : BitVec 6) :
    readMcsel (s.setCbp c) = .ok () (t.setCbp c) ∧ t.mb.cbp = s.mb.cbp := by
  unfold State.ReadsMcsel at h
  unfold readMcsel
  rw [bind_apply_ok _ _ _ _ _ (update_apply _ _), bind_apply_ok _ _ _ _ _ (get_apply _)]
  have hcond : (((s.setCbp c).setMcsel false).vop.isSprite && (decide (((s.setCbp c).setMcsel false).mb.mode = .inter)
      || decide (((s.setCbp c).setMcsel false).mb.mode = .interQ))) = true
      ↔ s.vop.isSprite = true ∧ (s.mb.mode = .inter ∨ s.mb.mode = .interQ) := by
    rw [Bool.and_eq_true, Bool.or_eq_true, decide_eq_true_iff, decide_eq_true_iff]
    rfl
  dsimp only at h
  split at h
  · rename_i hsel
    obtain ⟨b, h⟩ := h
    obtain ⟨b, -, hb, rfl⟩ := reads_mcsel h
    have hb : readBit ((s.setCbp c).setMcsel false) = .ok b (((s.setCbp c).setMcsel false).advance 1) := readBit_congr hb rfl rfl rfl
    rw [if_pos (hcond.2 hsel), bind_apply_ok _ _ _ _ _ hb]
    exact ⟨rfl, rfl⟩
  · rename_i hsel
    subst h
    rw [if_neg (fun hm => hsel (hcond.1 hm))]
    exact ⟨rfl, rfl⟩

/-- CBPY joins its pattern with the chroma bits that MCBPC gave. -/
theorem readCbpy_of_reads {s t : State} {i : Instr} (h : s.Reads .cbpy i t) (c : BitVec 6) :
    readCbpy (cbpcOf s.mb.cbp) (s.setCbp c) = .ok () t := by
  obtain ⟨r, -, -, hp, rfl⟩ := reads_cbpy h
  unfold readCbpy
  rw [bind_apply_ok _ _ _ _ _ (parse_congr (t := s.setCbp c) hp (State.ahead_congr rfl rfl rfl))]
  rfl

theorem readDquant_of_reads {s t : State} (h : s.ReadsDquant t) : readDquant s = .ok () t := by
  unfold State.ReadsDquant at h
  unfold readDquant
  rw [bind_apply_ok _ _ _ _ _ (get_apply _)]
  split at h
  · rename_i hmode
    obtain ⟨i, h⟩ := h
    obtain ⟨r, -, -, hp, rfl⟩ := reads_dquant h
    rw [if_pos ((hasDquant_iff s.mb.mode).2 hmode), bind_apply_ok _ _ _ _ _ hp]
    rfl
  · rename_i hmode
    rw [h, if_neg (fun hm => hmode ((hasDquant_iff s.mb.mode).1 hm))]
    rfl

/-- After a codeword that is no stuffing the layer sets the mode, and the codeword given alone `MB.cbp` too. -/
theorem State.setMcbpc_setCbp (s : State) (mode : MbMode) (c : BitVec 2) :
    (s.setMcbpc (.mb mode c)).setCbp s.mb.cbp = s.setMb { s.mb with mode := mode } := rfl

/-! ## Stuffing -/

/-- The one stuffing codeword of `MCBPC_I` is nine bits long. -/
theorem mcbpcI_stuffing : ∀ r ∈ mcbpcITable, (r.sym = .stuffing ↔ r.ctor = .mcbpcI_stuff) ∧ (r.sym = .stuffing → r.code.length = 9) := by
  decide

/-- The one stuffing codeword of `MCBPC_P` is nine bits long. -/
theorem mcbpcP_stuffing : ∀ r ∈ mcbpcPTable, (r.sym = .stuffing ↔ r.ctor = .mcbpcP_stuff) ∧ (r.sym = .stuffing → r.code.length = 9) := by
  decide

/-- A row that is no stuffing gives a mode and a chroma pattern. -/
theorem McbpcRow.sym_of_ne_stuffing {r : McbpcRow} (h : r.sym ≠ .stuffing) : ∃ mode c, r.sym = .mb mode c := by
  cases hs : r.sym with
  | mb mode c => exact ⟨mode, c, rfl⟩
  | stuffing => exact absurd hs h

/-- One turn of the loop over stuffing (R110). -/
theorem readMcbpcI_stuffing {n : Nat} {s : State} {r : McbpcRow} {u : State} (hp : parse (vlc McbpcRow.code mcbpcITable) s = .ok r u)
    (hs : r.sym = .stuffing) : readMcbpcI (n + 1) s = readMcbpcI n u := by
  rw [readMcbpcI, bind_apply_ok _ _ _ _ _ hp, hs]

theorem readMcbpcI_mb {n : Nat} {s : State} {r : McbpcRow} {u : State} {mode : MbMode} {c : BitVec 2}
    (hp : parse (vlc McbpcRow.code mcbpcITable) s = .ok r u) (hs : r.sym = .mb mode c) : readMcbpcI (n + 1) s = .ok (mode, c) u := by
  rw [readMcbpcI, bind_apply_ok _ _ _ _ _ hp, hs]
  rfl

/-- The loop over stuffing takes bits at each turn, so any fuel of more than the bits left gives the same answer. -/
theorem readMcbpcI_fuel (n m : Nat) (s : State) (hn : 0 < n) (hm : 0 < m) (h1 : 8 * s.bslen < s.bp + n) (h2 : 8 * s.bslen < s.bp + m) :
    readMcbpcI n s = readMcbpcI m s := by
  induction n generalizing m s with
  | zero => omega
  | succ n ih =>
    obtain ⟨m, rfl⟩ : ∃ j, m = j + 1 := ⟨m - 1, by omega⟩
    cases hp : parse (vlc McbpcRow.code mcbpcITable) s with
    | error e u => rw [readMcbpcI, readMcbpcI, bind_apply_error _ _ _ _ _ hp, bind_apply_error _ _ _ _ _ hp]
    | ok r u =>
      cases hs : r.sym with
      | mb mode c => rw [readMcbpcI_mb hp hs, readMcbpcI_mb hp hs]
      | stuffing =>
        rw [readMcbpcI_stuffing hp hs, readMcbpcI_stuffing hp hs]
        obtain ⟨hr, rfl, hfits⟩ := parse_vlc_fits hp
        have h9 := (mcbpcI_stuffing r hr).2 hs
        rw [h9] at hfits ⊢
        have hbp : (s.advance 9).bp = s.bp + 9 := rfl
        have hlen : (s.advance 9).bslen = s.bslen := rfl
        exact ih m (s.advance 9) (by omega) (by omega) (by omega) (by omega)

/-- Where stuffing stands at `BP`, the loop over it begins anew behind it. -/
theorem mbI_stuffing {s : State} {r : McbpcRow} {u : State} (k : Nat) (hp : parse (vlc McbpcRow.code mcbpcITable) s = .ok r u)
    (hs : r.sym = .stuffing) : mbI k s = mbI k (s.advance 9) := by
  obtain ⟨hr, rfl, hfits⟩ := parse_vlc_fits hp
  have h9 := (mcbpcI_stuffing r hr).2 hs
  rw [h9] at hp hfits
  have hbp : (s.advance 9).bp = s.bp + 9 := rfl
  have hlen : (s.advance 9).bslen = s.bslen := rfl
  have hturn : readMcbpcI s.fuel s = readMcbpcI (s.advance 9).fuel (s.advance 9) := by
    rw [State.fuel, readMcbpcI_stuffing hp hs, State.fuel]
    exact readMcbpcI_fuel _ _ _ (by omega) (by omega) (by omega) (by omega)
  unfold mbI
  rw [bind_apply_ok _ _ _ _ _ (get_apply s), bind_apply_ok _ _ _ _ _ (get_apply (s.advance 9))]
  exact bind_apply_congr _ hturn

end Sys2Proof.Machine
end

section
/-! PROOFS. The macroblock of an I VOP as the chain of its codewords and blocks (spec/30_encoding.md R110). -/

namespace Sys2Proof.Machine

/-! ## The end of a macroblock -/

/-- What `DECODE_MB k` answers where the macroblock is read with success. -/
theorem exec_decodeMb_ok {k : Nat} {s t : State} (ho : s.opened = true) (hk : k < s.mbCount)
    (h : decodeMb k { s with mbk := k } = .ok () t) : exec (.decodeMb k) s = .next (t.finish .none) := by
  rw [exec_decodeMb k s ho hk, decodeMbCaught, h]

/-- `MBI_WRITE k` outside a B VOP (R324). -/
theorem exec_mbiWrite {k : Nat} {t : State} (ho : t.opened = true) (hk : k < t.mbCount) (hb : t.vop.pictureType ≠ .b) :
    exec (.mbiWrite k) t = .next ((t.mbiWrite k).finish .none) := by
  refine (runOnMacroblock_opened k _ t ho hk).trans ?_
  show Host.Outcome.next (State.finish (if t.vop.pictureType = .b then t else t.mbiWrite k) .none) = _
  rw [if_neg hb]

/-- A macroblock of an I, P or S VOP that is read with success ends with `MBI_WRITE` (R310). -/
theorem exec_decodeMb_of_body {k : Nat} {s t : State} {body : Act Unit} (ho : s.opened = true) (hk : k < s.mbCount)
    (hb : s.vop.pictureType ≠ .b)
    (hd : decodeMb k { s with mbk := k } = (do body; update (fun s => s.mbiWrite k) : Act Unit) { s with mbk := k })
    (hrel : Act.Rel State.SameButMacroblock body) (h : body { s with mbk := k } = .ok () t) :
    exec (.decodeMb k) s = exec (.mbiWrite k) t := by
  have hsame := hrel { s with mbk := k }
  rw [h] at hsame
  have hopened : t.opened = s.opened := by rw [show t = _ from hsame]
  have hvop : t.vop = s.vop := by rw [show t = _ from hsame]
  have hvol : t.vol = s.vol := by rw [show t = _ from hsame]
  have hcount : t.mbCount = s.mbCount := by rw [State.mbCount, State.mbw, State.mbh, hvol]; rfl
  rw [exec_mbiWrite (hopened.trans ho) (by rwa [hcount]) (by rwa [hvop])]
  refine exec_decodeMb_ok ho hk ?_
  rw [hd, bind_apply_ok _ _ _ _ _ h]
  rfl

/-- A macroblock that is decoded from `n` bits on is the macroblock there (R110, R111). -/
theorem exec_decodeMb_advance {k n : Nat} {s : State} (ho : s.opened = true) (hk : k < s.mbCount)
    (h : decodeMb k { s with mbk := k } = decodeMb k (State.advance { s with mbk := k } n)) :
    exec (.decodeMb k) s = exec (.decodeMb k) { s with bp := s.bp + n } := by
  rw [exec_decodeMb k s ho hk, exec_decodeMb k { s with bp := s.bp + n } ho hk, decodeMbCaught, h]
  rfl

theorem decodeMb_i {k : Nat} {s : State} (h : s.vop.pictureType = .i) :
    decodeMb k s = (do mbI k; update (fun s => s.mbiWrite k) : Act Unit) s := by
  rw [decodeMb, bind_apply_ok _ _ _ _ _ (get_apply s), h]

/-! ## The macroblock -/

/-- The six blocks of an intra macroblock, run one after another (R311). -/
theorem runsAll_intraBlocks {k : Nat} {s t : State} (hk : s.mbk = k)
    (h : RunsAll [.intraBlock 0, .intraBlock 1, .intraBlock 2, .intraBlock 3, .intraBlock 4, .intraBlock 5] s t) :
    forEach blocks (fun b => intraBlock k b) s = .ok () t :=
  (runsAll_blocks (c := .intraBlock) (fun _ _ => rfl) intraBlock_coded blocks hk h).1

/-- The codewords of R110 and six blocks, read with success, are `mb_I`. -/
theorem mbI_of_reads {k : Nat} {m a y : Instr} {s s1 s2 s3 s4 t : State} (hk : s.mbk = k) (h1 : s.Reads .mcbpcI m s1)
    (hm : m ≠ .mcbpcI_stuff) (h2 : s1.Reads .acPred a s2) (h3 : s2.Reads .cbpy y s3) (h4 : s3.ReadsDquant s4)
    (hblocks : RunsAll [.intraBlock 0, .intraBlock 1, .intraBlock 2, .intraBlock 3, .intraBlock 4, .intraBlock 5] s4 t) :
    mbI k s = .ok () t := by
  have hsame := (((sameButHeader_of_mcbpcI h1).trans (sameButHeader_of_acPred h2)).trans (sameButHeader_of_cbpy h3)).trans
    h4.sameButHeader
  obtain ⟨r, hr, rfl, hp, rfl⟩ := reads_mcbpcI h1
  obtain ⟨mode, c, hsym⟩ := McbpcRow.sym_of_ne_stuffing fun hs => hm ((mcbpcI_stuffing r hr).1.1 hs)
  obtain ⟨b, hb, hset, hcbp⟩ := readBit_of_acPred h2 s.mb.cbp
  have hy := readCbpy_of_reads h3 s.mb.cbp
  rw [hcbp, hsym] at hy
  have hc : cbpcOf (((s.advance r.code.length).setMcbpc (.mb mode c)).mb.cbp) = c := cbpcOf_joinCbp _ c
  rw [hc] at hy
  rw [hsym] at hb hset
  unfold mbI
  rw [bind_apply_ok _ _ _ _ _ (get_apply s), State.fuel, bind_apply_ok _ _ _ _ _ (readMcbpcI_mb hp hsym)]
  refine (bind_apply_ok _ _ _ _ _ (update_apply _ _)).trans ((bind_apply_ok _ _ _ _ _ hb).trans ?_)
  rw [bind_apply_ok _ _ _ _ _ (update_apply _ _), hset, bind_apply_ok _ _ _ _ _ hy,
    bind_apply_ok _ _ _ _ _ (readDquant_of_reads h4)]
  exact runsAll_intraBlocks (hsame.mbk.trans hk) hblocks

/-- Only the intra modes stand in `MCBPC_I` (R160). -/
theorem mcbpcI_isIntra : ∀ r ∈ mcbpcITable, ∀ mode c, r.sym = .mb mode c → isIntraMode mode = true := by
  intro r hr mode c hs
  simp only [mcbpcITable, List.mem_cons, List.not_mem_nil, or_false] at hr
  repeat' (first | (rcases hr with hr | hr) | subst hr)
  all_goals cases hs
  all_goals rfl

/-- After a codeword of `MCBPC_I` that is no stuffing, the mode is an intra mode up to `apply_dquant`. -/
theorem isIntraMode_of_reads {m a y : Instr} {s s1 s2 s3 : State} (h1 : s.Reads .mcbpcI m s1) (hm : m ≠ .mcbpcI_stuff)
    (h2 : s1.Reads .acPred a s2) (h3 : s2.Reads .cbpy y s3) : isIntraMode s3.mb.mode = true := by
  obtain ⟨r, hr, rfl, -, rfl⟩ := reads_mcbpcI h1
  obtain ⟨mode, c, hsym⟩ := McbpcRow.sym_of_ne_stuffing fun hs => hm ((mcbpcI_stuffing r hr).1.1 hs)
  rw [hsym] at h2
  obtain ⟨b, -, -, rfl⟩ := reads_acPred h2
  obtain ⟨y, -, -, -, rfl⟩ := reads_cbpy h3
  exact mcbpcI_isIntra r hr mode c hsym

theorem decodeMb_stuffingI {k : Nat} {s u : State} {r : McbpcRow} (hi : s.vop.pictureType = .i)
    (hp : parse (vlc McbpcRow.code mcbpcITable) s = .ok r u) (hs : r.sym = .stuffing) : decodeMb k s = decodeMb k (s.advance 9) := by
  rw [decodeMb_i hi, decodeMb_i (s := s.advance 9) hi]
  exact bind_apply_congr _ (mbI_stuffing k hp hs)

/-- Stuffing at `BP` is skipped (R110). -/
theorem exec_decodeMb_stuffingI {k n : Nat} {s : State} (ho : s.opened = true) (hk : k < s.mbCount) (hi : s.vop.pictureType = .i)
    (hd : decode .mcbpcI s.ahead = .ok .mcbpcI_stuff n) : exec (.decodeMb k) s = exec (.decodeMb k) { s with bp := s.bp + 9 } := by
  obtain ⟨c, hc⟩ := parse_of_decode hd
  obtain ⟨r, d, hv, hctor⟩ := (Dec.bind_ok_iff _ _ _ _ _).1 hc
  have hr := (vlc_ok hv).1
  have hs : r.sym = .stuffing := (mcbpcI_stuffing r hr).1.2 (EStateM.Result.ok.inj hctor).1
  have hahead : ({ s with mbk := k } : State).ahead = s.ahead := State.ahead_congr rfl rfl rfl
  have hp : parse (vlc McbpcRow.code mcbpcITable) { s with mbk := k } = .ok r (State.advance { s with mbk := k } d.used) := by
    rw [parse_apply, hahead, hv]
  exact exec_decodeMb_advance ho hk (decodeMb_stuffingI hi hp hs)

/-- Settles O34. -/
theorem intraMacroblockIsItsCodewordsThenItsBlocks : Obligations.IntraMacroblockIsItsCodewordsThenItsBlocks := by
  intro k s ho hk hi
  refine ⟨fun n hd => exec_decodeMb_stuffingI ho hk hi hd,
    fun m a y q s1 s2 s3 s4 b0 b1 b2 b3 b4 b5 h1 hm h2 h3 hq hnq g0 g1 g2 g3 g4 g5 => ?codewords⟩
  case codewords =>
    have hmode := (isIntraMode_iff _).1 (isIntraMode_of_reads h1 hm h2 h3)
    have h4 : s3.ReadsDquant s4 := by
      unfold State.ReadsDquant
      split
      · rename_i hquant
        exact ⟨q, hq (hquant.resolve_left fun h => by simp [h] at hmode)⟩
      · rename_i hquant
        exact hnq fun h => hquant (.inr h)
    have hbody := mbI_of_reads rfl h1 hm h2 h3 h4 ⟨b0, g0, b1, g1, b2, g2, b3, g3, b4, g4, b5, g5, rfl⟩
    exact exec_decodeMb_of_body ho hk (by rw [hi]; decide) (decodeMb_i hi) (mbI_macroblock k) hbody

end Sys2Proof.Machine
end

section
/-! PROOFS. The coded macroblock of a P or S VOP as the chain of its codewords, vectors, prediction and blocks
(spec/30_encoding.md R111, spec/46_macroblock.md R320). -/

namespace Sys2Proof.Machine

/-! ## Stuffing -/

theorem readBit_ok {s u : State} {b : Bool} (h : readBit s = .ok b u) : u = s.advance 1 := by
  have hfits := readBit_fits h
  unfold readBit at h
  rw [bind_apply_ok _ _ s (s.advance 1) _ (by rw [readBits_apply, if_pos hfits])] at h
  exact (EStateM.Result.ok.inj h).2.symm

/-- One turn of the loop over stuffing (R111). -/
theorem readMcbpcP_succ (n : Nat) (s : State) : readMcbpcP (n + 1) s = (do
    let b ← readBit
    if b then pure none
    else
      let r ← parse (vlc McbpcRow.code mcbpcPTable)
      match r.sym with
      | .mb mode cbpc => pure (some (mode, cbpc))
      | .stuffing => readMcbpcP n : Act (Option (MbMode × BitVec 2))) s := rfl

theorem readMcbpcP_stuffing {n : Nat} {s u v : State} {r : McbpcRow} (hb : readBit s = .ok false u)
    (hp : parse (vlc McbpcRow.code mcbpcPTable) u = .ok r v) (hs : r.sym = .stuffing) : readMcbpcP (n + 1) s = readMcbpcP n v := by
  rw [readMcbpcP_succ, bind_apply_ok _ _ _ _ _ hb]
  refine (bind_apply_ok _ _ _ _ _ hp).trans ?_
  rw [hs]

theorem readMcbpcP_mb {n : Nat} {s u v : State} {r : McbpcRow} {mode : MbMode} {c : BitVec 2} (hb : readBit s = .ok false u)
    (hp : parse (vlc McbpcRow.code mcbpcPTable) u = .ok r v) (hs : r.sym = .mb mode c) :
    readMcbpcP (n + 1) s = .ok (some (mode, c)) v := by
  rw [readMcbpcP_succ, bind_apply_ok _ _ _ _ _ hb]
  refine (bind_apply_ok _ _ _ _ _ hp).trans ?_
  rw [hs]
  rfl

/-- Any fuel of more than the bits left gives the same answer. -/
theorem readMcbpcP_fuel (n m : Nat) (s : State) (hn : 0 < n) (hm : 0 < m) (h1 : 8 * s.bslen < s.bp + n) (h2 : 8 * s.bslen < s.bp + m) :
    readMcbpcP n s = readMcbpcP m s := by
  induction n generalizing m s with
  | zero => omega
  | succ n ih =>
    obtain ⟨m, rfl⟩ : ∃ j, m = j + 1 := ⟨m - 1, by omega⟩
    cases hb : readBit s with
    | error e u => rw [readMcbpcP_succ, readMcbpcP_succ, bind_apply_error _ _ _ _ _ hb, bind_apply_error _ _ _ _ _ hb]
    | ok b u =>
      cases b with
      | true => rw [readMcbpcP_succ, readMcbpcP_succ, bind_apply_ok _ _ _ _ _ hb, bind_apply_ok _ _ _ _ _ hb]; rfl
      | false =>
        obtain rfl := readBit_ok hb
        cases hp : parse (vlc McbpcRow.code mcbpcPTable) (s.advance 1) with
        | error e u =>
          rw [readMcbpcP_succ, readMcbpcP_succ, bind_apply_ok _ _ _ _ _ hb, bind_apply_ok _ _ _ _ _ hb]
          exact (bind_apply_error _ _ _ _ _ hp).trans (bind_apply_error _ _ _ _ _ hp).symm
        | ok r u =>
          cases hs : r.sym with
          | mb mode c => rw [readMcbpcP_mb hb hp hs, readMcbpcP_mb hb hp hs]
          | stuffing =>
            rw [readMcbpcP_stuffing hb hp hs, readMcbpcP_stuffing hb hp hs]
            obtain ⟨hr, rfl, hfits⟩ := parse_vlc_fits hp
            rw [(mcbpcP_stuffing r hr).2 hs] at hfits ⊢
            have hbp : (s.advance 1).bp = s.bp + 1 := rfl
            have hbp' : ((s.advance 1).advance 9).bp = s.bp + 1 + 9 := rfl
            have hlen : (s.advance 1).bslen = s.bslen := rfl
            have hlen' : ((s.advance 1).advance 9).bslen = s.bslen := rfl
            exact ih m _ (by omega) (by omega) (by omega) (by omega)

/-- Where `not_coded` 0 and stuffing stand at `BP`, the loop over them begins anew behind them. -/
theorem mbP_stuffing {s u : State} {r : McbpcRow} (k : Nat) (hb : readBit s = .ok false (s.advance 1))
    (hp : parse (vlc McbpcRow.code mcbpcPTable) (s.advance 1) = .ok r u) (hs : r.sym = .stuffing) :
    mbP k s = mbP k (s.advance 10) := by
  obtain ⟨hr, rfl, hfits⟩ := parse_vlc_fits hp
  have h9 := (mcbpcP_stuffing r hr).2 hs
  rw [h9] at hp hfits
  have hbp1 : (s.advance 1).bp = s.bp + 1 := rfl
  have hlen1 : (s.advance 1).bslen = s.bslen := rfl
  have hbp : (s.advance 10).bp = s.bp + 10 := rfl
  have hlen : (s.advance 10).bslen = s.bslen := rfl
  have hturn : readMcbpcP s.fuel s = readMcbpcP (s.advance 10).fuel (s.advance 10) := by
    rw [State.fuel, readMcbpcP_stuffing hb hp hs, State.fuel]
    exact readMcbpcP_fuel _ _ (s.advance 10) (by omega) (by omega) (by omega) (by omega)
  unfold mbP
  rw [bind_apply_ok _ _ _ _ _ (get_apply s), bind_apply_ok _ _ _ _ _ (get_apply (s.advance 10))]
  exact bind_apply_congr _ hturn

theorem decodeMb_p {k : Nat} {s : State} (h : s.vop.pictureType = .p ∨ s.vop.pictureType = .s) :
    decodeMb k s = (do mbP k; update (fun s => s.mbiWrite k) : Act Unit) s := by
  rw [decodeMb, bind_apply_ok _ _ _ _ _ (get_apply s)]
  rcases h with h | h <;> rw [h]

/-! ## The header -/

/-- The codewords of R111, read with success, are the header of `mb_P`. -/
theorem mbP_of_header {k : Nat} {s h v t : State} (hh : s.HeaderOfP h) (hv : pVectors k h = .ok () v) (ht : pBlocks k v = .ok () t) :
    mbP k s = .ok () t := by
  obtain ⟨m, y, s1, s2, s3, s4, s5, hcoded, hmcbpc, hm, hsel, hac, hcbpy, hquant⟩ := hh
  obtain ⟨b, hb, hbit, rfl⟩ := reads_notCoded hcoded
  cases hb
  obtain ⟨r, hr, rfl, hp, rfl⟩ := reads_mcbpcP hmcbpc
  obtain ⟨mode, c, hsym⟩ := McbpcRow.sym_of_ne_stuffing fun hs => hm ((mcbpcP_stuffing r hr).1.1 hs)
  obtain ⟨hsel, hcbp3⟩ := readMcsel_of_reads hsel s.mb.cbp
  obtain ⟨hac, hcbp4⟩ := readAcPred_of_reads hac s.mb.cbp
  have hy := readCbpy_of_reads hcbpy s.mb.cbp
  rw [hcbp4, hcbp3, hsym] at hy
  rw [hsym] at hsel
  have hc : cbpcOf ((((s.advance 1).advance r.code.length).setMcbpc (.mb mode c)).mb.cbp) = c := cbpcOf_joinCbp _ c
  have hy : readCbpy c (s4.setCbp s.mb.cbp) = .ok () s5 := hc ▸ hy
  unfold mbP
  rw [bind_apply_ok _ _ _ _ _ (get_apply s), State.fuel, bind_apply_ok _ _ _ _ _ (readMcbpcP_mb hbit hp hsym)]
  refine (bind_apply_ok _ _ _ _ _ (update_apply _ _)).trans ((bind_apply_ok _ _ _ _ _ hsel).trans ?_)
  rw [bind_apply_ok _ _ _ _ _ hac, bind_apply_ok _ _ _ _ _ hy, bind_apply_ok _ _ _ _ _ (readDquant_of_reads hquant),
    bind_apply_ok _ _ _ _ _ hv, ht]

theorem State.HeaderOfP.sameButHeader {s t : State} (h : s.HeaderOfP t) : s.SameButHeader t := by
  obtain ⟨m, y, s1, s2, s3, s4, s5, hcoded, hmcbpc, -, hsel, hac, hcbpy, hquant⟩ := h
  obtain ⟨b, hb, -, rfl⟩ := reads_notCoded hcoded
  cases hb
  have hcoded : s.SameButHeader ((s.advance 1).setNotCoded false) := rfl
  exact ((((hcoded.trans (sameButHeader_of_mcbpcP hmcbpc)).trans hsel.sameButHeader).trans hac.sameButHeader).trans
    (sameButHeader_of_cbpy hcbpy)).trans hquant.sameButHeader

/-! ## The vectors -/

theorem decodeDelta_coded (f : Nat) : Act.Rel State.SameButCoded (decodeDelta f) :=
  Act.rel_bind State.SameButCoded.trans (parse_coded _) fun _ => Act.rel_pure State.SameButCoded.refl _

theorem decodeMv_coded (k : Nat) (b : Fin 4) : Act.Rel State.SameButCoded (decodeMv k b) := fun s =>
  Act.rel_bind State.SameButCoded.trans (decodeDelta_coded _) (fun _ => Act.rel_bind State.SameButCoded.trans (decodeDelta_coded _)
    fun _ => Act.rel_pure State.SameButCoded.refl _) s

/-- A vector is read by moving `BP` alone. -/
theorem decodeMv_sameButHeader {k : Nat} {b : Fin 4} {s u : State} {v : MV} (h : decodeMv k b s = .ok v u) :
    u.mb = s.mb ∧ u.mbk = s.mbk ∧ u.vop = s.vop := by
  have hs := decodeMv_coded k b s
  rw [h] at hs
  refine ⟨?_, ?_, ?_⟩ <;> rw [show u = _ from hs]

/-- Vectors read one after another are the loop over them (R177). -/
theorem forEach_of_vectorsRead {k : Nat} {l : List (Fin 4)} {s t : State} (h : VectorsRead l k s t) :
    forEach l (fun b => do
      let v ← decodeMv k b
      update (fun s => s.setMv b v)) s = .ok () t ∧ t.mb.mode = s.mb.mode ∧ t.mbk = s.mbk ∧ t.vop = s.vop := by
  induction l generalizing s with
  | nil => exact ⟨by rw [show t = s from h]; rfl, by rw [show t = s from h], by rw [show t = s from h], by rw [show t = s from h]⟩
  | cons b l ih =>
    obtain ⟨v, u, hu, hrest⟩ := h
    obtain ⟨hmb, hmbk, hvop⟩ := decodeMv_sameButHeader hu
    obtain ⟨hloop, hmode', hmbk', hvop'⟩ := ih hrest
    refine ⟨?_, ?_, hmbk'.trans hmbk, hvop'.trans hvop⟩
    · rw [forEach, bind_apply_ok _ _ s (u.setMv b v) () (by rw [bind_apply_ok _ _ _ _ _ hu]; rfl)]
      exact hloop
    · rw [hmode', ← hmb]

/-- The vectors of R111. -/
theorem pVectors_of_vectors {k : Nat} {s t : State} (hm : s.mb.mode = .inter ∨ s.mb.mode = .interQ ∨ s.mb.mode = .inter4V)
    (h : s.VectorsOfP k t) : pVectors k s = .ok () t ∧ t.mb.mode = s.mb.mode ∧ t.mbk = s.mbk ∧ t.vop = s.vop := by
  unfold State.VectorsOfP at h
  unfold pVectors
  rw [bind_apply_ok _ _ _ _ _ (get_apply s)]
  split at h
  · rename_i h4
    rw [if_pos h4]
    exact forEach_of_vectorsRead h
  · rename_i h4
    rw [if_neg h4, if_pos ((hasVectors_iff _).2 hm)]
    split at h
    · rename_i hsel
      subst h
      rw [if_pos hsel]
      exact ⟨rfl, rfl, rfl, rfl⟩
    · rename_i hsel
      obtain ⟨v, u, hu, rfl⟩ := h
      obtain ⟨hmb, hmbk, hvop⟩ := decodeMv_sameButHeader hu
      rw [if_neg hsel, bind_apply_ok _ _ _ _ _ hu]
      exact ⟨rfl, show u.mb.mode = s.mb.mode by rw [hmb], hmbk, hvop⟩

/-- An intra macroblock has no vectors. -/
theorem pVectors_intra {k : Nat} {s : State} (hm : s.mb.mode = .intra ∨ s.mb.mode = .intraQ) : pVectors k s = .ok () s := by
  unfold pVectors
  rw [bind_apply_ok _ _ _ _ _ (get_apply s)]
  rcases hm with hm | hm <;> rw [hm] <;> rfl

/-! ## The prediction and the blocks -/

/-- What the commands of motion compensation answer is the prediction (R320, R326). -/
theorem State.PredictedFrom.eq {s : State} {k : Nat} {src : StoreSel} {mv : Vector MV 4} {four : Prop} [Decidable four] {r : Bool}
    {p : Vector (Vector Byte 64) 6} (h : s.PredictedFrom k src mv four r p) :
    p = s.predictFrom k (s.store src) mv (s.chromaMv (decide four) mv) r := by
  obtain ⟨h0, h1, h2, h3, c, hc4, hc1, h4, h5⟩ := h
  have hc : c = s.chromaMv (decide four) mv := by
    unfold State.chromaMv
    by_cases hf : four
    · rw [if_pos (decide_eq_true hf)]
      exact Result.vector.inj (answers_value (hc4 hf) rfl)
    · rw [if_neg (by rwa [decide_eq_true_iff])]
      exact Result.vector.inj (answers_value (hc1 hf) rfl)
  have h0 := Result.samples.inj (answers_value h0 rfl)
  have h1 := Result.samples.inj (answers_value h1 rfl)
  have h2 := Result.samples.inj (answers_value h2 rfl)
  have h3 := Result.samples.inj (answers_value h3 rfl)
  have h4 := Result.samples.inj (answers_value h4 rfl)
  have h5 := Result.samples.inj (answers_value h5 rfl)
  apply Vector.ext
  intro i hi
  rw [hc] at h4 h5
  interval_cases i
  · exact h0
  · exact h1
  · exact h2
  · exact h3
  · exact h4
  · exact h5

/-- `PRED` of a P or S macroblock (R320). -/
theorem State.predictP_of_predicted {s : State} {k : Nat} {p : Vector (Vector Byte 64) 6}
    (hvop : s.vop.pictureType = .p ∨ s.vop.pictureType = .s)
    (h : s.PredictedFrom k .refNew s.mb.mv (s.mb.mode = .inter4V) s.vop.roundingType p) : s.predictP k = { s with pred := p } := by
  have hr : s.rounding = s.vop.roundingType := by
    unfold State.rounding
    rcases hvop with hvop | hvop <;> rw [hvop]
  rw [h.eq, State.predictP, hr]
  rfl

/-- The six blocks of an inter macroblock, run one after another (R311). -/
theorem runsAll_interBlocks {k : Nat} {s t : State} (hk : s.mbk = k)
    (h : RunsAll [.interBlock 0, .interBlock 1, .interBlock 2, .interBlock 3, .interBlock 4, .interBlock 5] s t) :
    forEach blocks (fun b => interBlock k b) s = .ok () t ∧ s.SameButCoded t :=
  runsAll_blocks (c := .interBlock) (fun _ _ => rfl) interBlock_coded blocks hk h

theorem pBlocks_intra {k : Nat} {s t : State} (hm : s.mb.mode = .intra ∨ s.mb.mode = .intraQ) (hk : s.mbk = k)
    (h : RunsAll [.intraBlock 0, .intraBlock 1, .intraBlock 2, .intraBlock 3, .intraBlock 4, .intraBlock 5] s t) :
    pBlocks k s = .ok () t := by
  unfold pBlocks
  rw [bind_apply_ok _ _ _ _ _ (get_apply s), if_pos ((isIntraMode_iff _).2 hm), runsAll_intraBlocks hk h]

theorem pBlocks_inter {k : Nat} {s t : State} {p : Vector (Vector Byte 64) 6}
    (hm : s.mb.mode = .inter ∨ s.mb.mode = .interQ ∨ s.mb.mode = .inter4V) (hk : s.mbk = k)
    (hvop : s.vop.pictureType = .p ∨ s.vop.pictureType = .s)
    (hp : s.PredictedFrom k .refNew s.mb.mv (s.mb.mode = .inter4V) s.vop.roundingType p)
    (h : RunsAll [.interBlock 0, .interBlock 1, .interBlock 2, .interBlock 3, .interBlock 4, .interBlock 5] { s with pred := p } t) :
    pBlocks k s = .ok () t := by
  have hintra : ¬isIntraMode s.mb.mode = true := by rcases hm with hm | hm | hm <;> rw [hm] <;> decide
  unfold pBlocks
  rw [bind_apply_ok _ _ _ _ _ (get_apply s), if_neg hintra, bind_apply_ok _ _ _ _ _ (update_apply _ _),
    State.predictP_of_predicted hvop hp]
  exact (runsAll_interBlocks (s := { s with pred := p }) hk h).1

/-! ## The macroblock -/

theorem decodeMb_stuffingP {k : Nat} {s u : State} {r : McbpcRow} (hvop : s.vop.pictureType = .p ∨ s.vop.pictureType = .s)
    (hb : readBit s = .ok false (s.advance 1)) (hp : parse (vlc McbpcRow.code mcbpcPTable) (s.advance 1) = .ok r u)
    (hs : r.sym = .stuffing) : decodeMb k s = decodeMb k (s.advance 10) := by
  rw [decodeMb_p hvop, decodeMb_p (s := s.advance 10) hvop]
  exact bind_apply_congr _ (mbP_stuffing k hb hp hs)

/-- `not_coded` 0 and stuffing at `BP` are skipped (R111). -/
theorem exec_decodeMb_stuffingP {k : Nat} {s s1 s2 : State} (ho : s.opened = true) (hk : k < s.mbCount)
    (hvop : s.vop.pictureType = .p ∨ s.vop.pictureType = .s) (h1 : s.Reads .notCoded (.notCoded false) s1)
    (h2 : s1.Reads .mcbpcP .mcbpcP_stuff s2) : exec (.decodeMb k) s = exec (.decodeMb k) { s with bp := s.bp + 10 } := by
  obtain ⟨b, hb, hbit, rfl⟩ := reads_notCoded h1
  cases hb
  obtain ⟨r, hr, hctor, hp, -⟩ := reads_mcbpcP h2
  have hs : r.sym = .stuffing := (mcbpcP_stuffing r hr).1.2 hctor.symm
  refine exec_decodeMb_advance ho hk ?_
  have hbit : readBit { s with mbk := k } = .ok false (State.advance { s with mbk := k } 1) := readBit_congr hbit rfl rfl rfl
  have hp : parse (vlc McbpcRow.code mcbpcPTable) (State.advance { s with mbk := k } 1)
      = .ok r (State.advance (State.advance { s with mbk := k } 1) r.code.length) :=
    parse_congr hp (State.ahead_congr rfl rfl rfl)
  exact decodeMb_stuffingP hvop hbit hp hs

/-- Settles O7. -/
theorem codedMacroblockOfAPOrSVopIsItsSyntax : Obligations.CodedMacroblockOfAPOrSVopIsItsSyntax := by
  intro k s ho hk hvop
  have hb : s.vop.pictureType ≠ .b := by rcases hvop with hvop | hvop <;> rw [hvop] <;> decide
  have hbody {t : State} (h : mbP k { s with mbk := k } = .ok () t) : exec (.decodeMb k) s = exec (.mbiWrite k) t :=
    exec_decodeMb_of_body ho hk hb (decodeMb_p hvop) (mbP_macroblock k) h
  refine ⟨fun s1 s2 => exec_decodeMb_stuffingP ho hk hvop, fun h t hh hm hblocks => ?intra,
    fun h v t p hh hm hv hp hblocks => ?inter⟩
  case intra => exact hbody (mbP_of_header hh (pVectors_intra hm) (pBlocks_intra hm hh.sameButHeader.mbk hblocks))
  case inter =>
    obtain ⟨hvectors, hmode, hmbk, hvop'⟩ := pVectors_of_vectors hm hv
    have hvop : v.vop.pictureType = .p ∨ v.vop.pictureType = .s := by
      rw [hvop', hh.sameButHeader.vop]
      exact hvop
    rw [← hmode] at hm
    exact hbody (mbP_of_header hh hvectors (pBlocks_inter hm (hmbk.trans hh.sameButHeader.mbk) hvop hp hblocks))

end Sys2Proof.Machine
end

section
/-! PROOFS. The macroblock of a B VOP that is not skipped, as the chain of its codewords, vectors, prediction and blocks
(spec/30_encoding.md R112, spec/41_vlc_mb_header.md R185, spec/46_macroblock.md R326). -/

namespace Sys2Proof.Machine

/-! ## The codewords -/

/-- A bit of the window is read as it stands there (R11, R140). -/
theorem readBit_bit {s : State} (h : s.bp + 1 ≤ 8 * s.bslen) : readBit s = .ok (s.bit s.bp) (s.advance 1) := by
  unfold readBit
  rw [bind_apply_ok _ _ s (s.advance 1) _ (by rw [readBits_apply, if_pos h])]
  have hbit : (s.bits s.bp 1 == 1) = s.bit s.bp := by
    rw [State.bits, State.bitList, State.bitList]
    cases s.bit s.bp <;> rfl
  show EStateM.Result.ok (s.bits s.bp 1 == 1) (s.advance 1) = _
  rw [hbit]

theorem reads_modb {s u : State} {i : Instr} (h : s.Reads .modb i u) : ∃ r ∈ modbTable, i = r.ctor
    ∧ parse (vlc ModbRow.code modbTable) s = .ok r (s.advance r.code.length) ∧ u = (s.advance r.code.length).setModb r.sym :=
  reads_vlc (t := .modb) (ctor := ModbRow.ctor) (g := fun r s => s.setModb r.sym) rfl exec_modb
    (fun r _ => by cases r.sym <;> rfl) (fun r _ => by cases r.sym <;> rfl) h

theorem reads_bmbtype {s u : State} {i : Instr} (h : s.Reads .bmbtype i u) : ∃ r ∈ bmbtypeTable, i = r.ctor
    ∧ parse (vlc BmbtypeRow.code bmbtypeTable) s = .ok r (s.advance r.code.length) ∧ u = (s.advance r.code.length).setBtype r.btype :=
  reads_vlc (t := .bmbtype) (ctor := BmbtypeRow.ctor) (g := fun r s => s.setBtype r.btype) rfl exec_bmbtype
    (fun _ _ => rfl) (fun _ _ => rfl) h

theorem reads_dbquant {s u : State} {i : Instr} (h : s.Reads .dbquant i u) : ∃ r ∈ dbquantTable, i = r.ctor
    ∧ parse (vlc QuantRow.code dbquantTable) s = .ok r (s.advance r.code.length) ∧ u = (s.advance r.code.length).offsetQp r.delta :=
  reads_vlc (t := .dbquant) (ctor := QuantRow.ctor) (g := fun r s => s.offsetQp r.delta) rfl
    exec_dbquant (fun _ _ => rfl) (fun _ _ => rfl) h

/-- `cbpb` as the field of six bits that the layer reads (R182). -/
theorem reads_cbpb {s u : State} {i : Instr} (h : s.Reads .cbpb i u) :
    ∃ v, readBits 6 s = .ok v (s.advance 6) ∧ u = (s.advance 6).setCbp (BitVec.ofNat 6 v) := by
  obtain ⟨⟨n, hd⟩, hr⟩ := h
  obtain ⟨c, hc⟩ := parse_of_decode hd
  obtain ⟨v, d, hv, hi⟩ := (Dec.bind_ok_iff _ _ _ _ _).1 hc
  cases hi
  obtain ⟨hfits, hu⟩ := runs_code (n := 6) (g := fun s => s.setCbp (BitVec.ofNat 6 v)) rfl (fun _ => rfl) (fun _ => rfl) hr
  exact ⟨v, by rw [readBits_apply, if_pos hfits, (takeBits_ahead hv).1], hu⟩

/-- MODB `1` is one bit (R180). -/
theorem readBit_of_modb1 {s u : State} (h : s.Reads .modb .modb_1 u) :
    readBit s = .ok true (s.advance 1) ∧ u = (s.advance 1).setModb .directNoneMv := by
  obtain ⟨r, hr, hctor, hp, rfl⟩ := reads_modb h
  have hrow : ∀ r ∈ modbTable, .modb_1 = r.ctor → r.code = [true] ∧ r.sym = .directNoneMv := by decide
  obtain ⟨hcode, hsym⟩ := hrow r hr hctor
  have hbits := parse_vlc_bits hp
  obtain ⟨-, -, hfits⟩ := parse_vlc_fits hp
  rw [hcode] at hbits hfits ⊢
  have hbit : s.bit s.bp = true := (List.cons.inj hbits).1
  simp only [List.length_cons, List.length_nil] at hfits
  exact ⟨by rw [readBit_bit (by omega), hbit], by rw [hsym]; rfl⟩

/-- MODB `01` and `00` are two bits, as the layer reads them (R180). -/
theorem readBit_of_modb2 {s u : State} {i : Instr} {b : Bool} {m : Modb}
    (hrow : ∀ r ∈ modbTable, i = r.ctor → r.code = [false, b] ∧ r.sym = m) (h : s.Reads .modb i u) :
    readBit s = .ok false (s.advance 1) ∧ readBit (s.advance 1) = .ok b ((s.advance 1).advance 1)
      ∧ u = ((s.advance 1).advance 1).setModb m := by
  obtain ⟨r, hr, hctor, hp, rfl⟩ := reads_modb h
  obtain ⟨hcode, hsym⟩ := hrow r hr hctor
  have hbits := parse_vlc_bits hp
  obtain ⟨-, -, hfits⟩ := parse_vlc_fits hp
  rw [hcode] at hbits hfits ⊢
  obtain ⟨hbit1, hbits⟩ := List.cons.inj hbits
  have hbit2 : (s.advance 1).bit (s.advance 1).bp = b := (List.cons.inj hbits).1
  have hbp : (s.advance 1).bp = s.bp + 1 := rfl
  have hlen : (s.advance 1).bslen = s.bslen := rfl
  simp only [List.length_cons, List.length_nil] at hfits
  exact ⟨by rw [readBit_bit (by omega), hbit1], by rw [readBit_bit (by omega), hbit2], by rw [hsym]; rfl⟩

/-! ## The header -/

/-- The codewords of R112, read with success, are the header of `mb_B`. -/
theorem readBHeader_of_header {s t : State} (h : s.HeaderOfB t) : readBHeader s = .ok () t ∧ s.SameButHeader t := by
  unfold readBHeader
  obtain h | ⟨i, s1, hmodb, htype⟩ | ⟨i, j, s1, s2, s3, hmodb, htype, hcbpb, hquant⟩ := h
  · obtain ⟨hbit, rfl⟩ := readBit_of_modb1 h
    rw [bind_apply_ok _ _ _ _ _ hbit]
    exact ⟨rfl, rfl⟩
  · obtain ⟨hbit1, hbit2, rfl⟩ := readBit_of_modb2 (b := true) (m := .typeOnly) (by decide) hmodb
    obtain ⟨r, -, -, hp, rfl⟩ := reads_bmbtype htype
    have hp := parse_congr (t := (s.advance 1).advance 1) hp (State.ahead_congr rfl rfl rfl)
    rw [bind_apply_ok _ _ _ _ _ hbit1]
    refine ⟨(bind_apply_ok _ _ _ _ _ hbit2).trans ((bind_apply_ok _ _ _ _ _ hp).trans ?_), rfl⟩
    show (if r.btype ≠ .direct ∧ BitVec.ofNat 6 0 ≠ 0#6 then _ else _ : Act Unit) _ = _
    rw [if_neg fun h => h.2 rfl]
    rfl
  · obtain ⟨hbit1, hbit2, rfl⟩ := readBit_of_modb2 (b := false) (m := .typeAndCbpb) (by decide) hmodb
    obtain ⟨r, -, -, hp, rfl⟩ := reads_bmbtype htype
    obtain ⟨v, hv, rfl⟩ := reads_cbpb hcbpb
    rw [bind_apply_ok _ _ _ _ _ hbit1]
    refine ⟨(bind_apply_ok _ _ _ _ _ hbit2).trans ((bind_apply_ok _ _ _ _ _ hp).trans
      ((bind_apply_ok _ _ _ _ _ (update_apply _ _)).trans ((bind_apply_ok _ _ _ _ _ hv).trans
        ((bind_apply_ok _ _ _ _ _ (update_apply _ _)).trans ?_)))), ?_⟩
    · split at hquant
      · rename_i hc
        obtain ⟨d, hquant⟩ := hquant
        obtain ⟨q, -, -, hq, rfl⟩ := reads_dbquant hquant
        refine (congrFun (if_pos hc) _).trans ?_
        rw [bind_apply_ok _ _ _ _ _ hq]
        rfl
      · rename_i hc
        subst hquant
        exact congrFun (if_neg hc) _
    · split at hquant
      · obtain ⟨d, hquant⟩ := hquant
        obtain ⟨q, -, -, hq, rfl⟩ := reads_dbquant hquant
        rfl
      · subst hquant
        rfl

/-! ## The vectors -/

/-- A vector read as R185 says is the layer's. -/
theorem decodeVector_of_read {s u : State} {f : Nat} {p v : MV} (h : s.VectorRead f p v u) : decodeVector p f s = .ok v u := by
  obtain ⟨dx, dy, m, hx, hy, rfl⟩ := h
  unfold decodeVector
  rw [bind_apply_ok _ _ _ _ _ hx, bind_apply_ok _ _ _ _ _ hy]
  rfl

theorem forwardVector_of_read {s t : State} (h : s.ForwardRead t) : forwardVector s = .ok () t := by
  obtain ⟨v, u, hv, rfl⟩ := h
  unfold forwardVector
  rw [bind_apply_ok _ _ _ _ _ (get_apply s), bind_apply_ok _ _ _ _ _ (decodeVector_of_read hv)]
  rfl

theorem backwardVector_of_read {s t : State} (h : s.BackwardRead t) : backwardVector s = .ok () t := by
  obtain ⟨v, u, hv, rfl⟩ := h
  unfold backwardVector
  rw [bind_apply_ok _ _ _ _ _ (get_apply s), bind_apply_ok _ _ _ _ _ (decodeVector_of_read hv)]
  rfl

/-- What `DIRECT_MV` leaves (R400). -/
theorem runs_directMv {k : Nat} {d : MV} {s t : State} (h : s.Runs (.directMv k d) t) : t = s.direct k d := by
  obtain ⟨⟨r, hx⟩, hstatus, hresult⟩ := h
  change runOnMacroblock k (Act.of fun s => .ok .none (s.direct k d)) s = _ at hx
  rw [runOnMacroblock] at hx
  split at hx
  · split at hx
    · exact State.eq_of_outputs (Host.Outcome.next.inj hx).symm hstatus hresult
    · cases hx
  · have := congrArg State.status (Host.Outcome.next.inj hx)
    simp [State.raise] at this

/-- The vectors of R185, by the type of the macroblock. -/
theorem bVectors_of_vectors {k : Nat} {s t : State} (h : s.VectorsOfB k t) : bVectors k s = .ok () t := by
  unfold State.VectorsOfB at h
  unfold bVectors
  rw [bind_apply_ok _ _ _ _ _ (get_apply s)]
  cases htype : s.mb.btype with
  | forward =>
    rw [htype] at h
    exact forwardVector_of_read h
  | backward =>
    rw [htype] at h
    exact backwardVector_of_read h
  | interpolate =>
    rw [htype] at h
    obtain ⟨m, hf, hb⟩ := h
    exact (bind_apply_ok _ _ _ _ _ (forwardVector_of_read hf)).trans (backwardVector_of_read hb)
  | direct =>
    rw [htype] at h
    obtain ⟨dx, dy, m, u, hx, hy, hd⟩ := h
    rw [runs_directMv hd]
    exact (bind_apply_ok _ _ _ _ _ hx).trans (bind_apply_ok _ _ _ _ _ hy)
  | directNoneMv =>
    rw [htype] at h
    rw [runs_directMv h]
    rfl

/-! ## The prediction -/

/-- The mean of two predictions, rounded up (R326). -/
theorem average_eq {f b p : Vector Byte 64} (h : ∀ i : Fin 64, p[i].toNat = (f[i].toNat + b[i].toNat + 1) / 2) : p = average f b := by
  apply Vector.ext
  intro i hi
  apply BitVec.eq_of_toNat_eq
  have hf := f[i].isLt
  have hb := b[i].isLt
  have hp := h ⟨i, hi⟩
  simp only [Fin.getElem_fin] at hp
  simp only [average, Vector.getElem_ofFn, BitVec.toNat_ofNat, Fin.getElem_fin]
  omega

/-- `PRED` of a B macroblock (R326). -/
theorem State.predictB_of_predicted {s : State} {k : Nat} {p : Vector (Vector Byte 64) 6} (h : s.PredictedB k p) :
    s.predictB k = { s with pred := p } := by
  have hfour : s.bFourVectors k = decide ((s.mb.btype = .direct ∨ s.mb.btype = .directNoneMv)
      ∧ (s.refmv.getD k MbInfo.reset).mode = .inter4V) := by
    rw [State.bFourVectors, Bool.decide_and, Bool.decide_or]
    rfl
  unfold State.PredictedB at h
  dsimp only at h
  unfold State.predictB
  rw [hfour]
  split at h
  · rename_i htype
    rw [h.eq, htype]
    rfl
  · rename_i hforward
    split at h
    · rename_i htype
      rw [h.eq, htype]
      rfl
    · rename_i hbackward
      obtain ⟨f, b, hf, hb, hmean⟩ := h
      have hp : p = Vector.ofFn (fun j : Fin 6 => average f[j] b[j]) := by
        apply Vector.ext
        intro j hj
        rw [Vector.getElem_ofFn]
        exact average_eq fun i => hmean ⟨j, hj⟩ i
      rw [hp, hf.eq, hb.eq]
      cases htype : s.mb.btype with
      | forward => exact absurd htype hforward
      | backward => exact absurd htype hbackward
      | interpolate | direct | directNoneMv => rfl

/-! ## The macroblock -/

theorem decodeMb_b {k : Nat} {s : State} (h : s.vop.pictureType = .b) : decodeMb k s = mbB k s := by
  rw [decodeMb, bind_apply_ok _ _ _ _ _ (get_apply s), h]

/-- The start of a macroblock row clears the two predictors (R185). -/
theorem State.startRow_eq (s : State) (k : Nat) : s.startRow k = { s with
    pmvF := if k % s.mbw = 0 then MV.zero else s.pmvF
    pmvB := if k % s.mbw = 0 then MV.zero else s.pmvB } := by
  unfold State.startRow State.mbX
  split <;> rfl

/-- `MBK` stays. -/
def State.KeepsMbk (s t : State) : Prop := t.mbk = s.mbk

theorem State.KeepsMbk.refl (s : State) : s.KeepsMbk s := rfl

theorem State.KeepsMbk.trans (s t u : State) (h : s.KeepsMbk t) (g : t.KeepsMbk u) : s.KeepsMbk u := Eq.trans g h

theorem State.SameButCoded.keepsMbk {s t : State} (h : s.SameButCoded t) : s.KeepsMbk t := by rw [State.KeepsMbk, show t = _ from h]

theorem decodeDelta_keepsMbk (f : Nat) : Act.Rel State.KeepsMbk (decodeDelta f) :=
  (decodeDelta_coded f).mono fun _ _ => State.SameButCoded.keepsMbk

theorem decodeVector_keepsMbk (p : MV) (f : Nat) : Act.Rel State.KeepsMbk (decodeVector p f) :=
  Act.rel_bind State.KeepsMbk.trans (decodeDelta_keepsMbk f) fun _ =>
    Act.rel_bind State.KeepsMbk.trans (decodeDelta_keepsMbk f) fun _ => Act.rel_pure State.KeepsMbk.refl _

theorem forwardVector_keepsMbk : Act.Rel State.KeepsMbk forwardVector :=
  Act.rel_bind State.KeepsMbk.trans (Act.rel_get State.KeepsMbk.refl) fun _ =>
    Act.rel_bind State.KeepsMbk.trans (decodeVector_keepsMbk _ _) fun _ => Act.rel_update fun _ => rfl

theorem backwardVector_keepsMbk : Act.Rel State.KeepsMbk backwardVector :=
  Act.rel_bind State.KeepsMbk.trans (Act.rel_get State.KeepsMbk.refl) fun _ =>
    Act.rel_bind State.KeepsMbk.trans (decodeVector_keepsMbk _ _) fun _ => Act.rel_update fun _ => rfl

theorem bVectors_keepsMbk (k : Nat) : Act.Rel State.KeepsMbk (bVectors k) := by
  refine Act.rel_bind State.KeepsMbk.trans (Act.rel_get State.KeepsMbk.refl) fun s => ?_
  split
  · exact forwardVector_keepsMbk
  · exact backwardVector_keepsMbk
  · exact Act.rel_bind State.KeepsMbk.trans forwardVector_keepsMbk fun _ => backwardVector_keepsMbk
  · exact Act.rel_bind State.KeepsMbk.trans (decodeDelta_keepsMbk 1) fun _ =>
      Act.rel_bind State.KeepsMbk.trans (decodeDelta_keepsMbk 1) fun _ => Act.rel_update fun _ => rfl
  · exact Act.rel_update fun _ => rfl

/-- Header, vectors, prediction and six blocks, read with success, are `mb_B` (R112). -/
theorem mbB_of_reads {k : Nat} {s h v t : State} {p : Vector (Vector Byte 64) 6}
    (hnot : (s.refmv.getD k MbInfo.reset).mode ≠ .notCoded) (hk : s.mbk = k)
    (hh : ((s.startRow k).setAcPred false).HeaderOfB h) (hv : h.VectorsOfB k v) (hp : v.PredictedB k p)
    (hblocks : RunsAll [.interBlock 0, .interBlock 1, .interBlock 2, .interBlock 3, .interBlock 4, .interBlock 5] { v with pred := p } t) :
    mbB k s = .ok () t := by
  obtain ⟨hheader, hsame⟩ := readBHeader_of_header hh
  have hvectors := bVectors_of_vectors hv
  have hkeep := bVectors_keepsMbk k h
  rw [hvectors] at hkeep
  have hstart : (s.startRow k).refmv = s.refmv ∧ (s.startRow k).mbk = s.mbk := by
    rw [State.startRow_eq]
    exact ⟨rfl, rfl⟩
  have hmbk : v.mbk = k := Eq.trans hkeep (hsame.mbk.trans (hstart.2.trans hk))
  have hnot : ¬((s.startRow k).refmvAt k).mode = .notCoded := by rwa [State.refmvAt, hstart.1]
  unfold mbB
  rw [bind_apply_ok _ _ _ _ _ (update_apply _ s), bind_apply_ok _ _ _ _ _ (get_apply _), if_neg hnot]
  refine (bind_apply_ok _ _ _ _ _ (update_apply _ _)).trans ((bind_apply_ok _ _ _ _ _ hheader).trans
    ((bind_apply_ok _ _ _ _ _ hvectors).trans ((bind_apply_ok _ _ _ _ _ (update_apply _ _)).trans ?_)))
  rw [State.predictB_of_predicted hp]
  exact (runsAll_interBlocks (s := { v with pred := p }) hmbk hblocks).1

/-- Settles O44. -/
theorem macroblockOfABVopIsItsSyntax : Obligations.MacroblockOfABVopIsItsSyntax := by
  intro k s ho hk hb hnot h v t p hh hv hp hblocks
  refine exec_decodeMb_ok ho hk ?_
  rw [decodeMb_b (s := { s with mbk := k }) hb]
  refine mbB_of_reads hnot rfl ?_ hv hp hblocks
  rw [State.startRow_eq]
  exact hh

end Sys2Proof.Machine
end

section
/-! PROOFS. The skipped macroblock of a B VOP (spec/30_encoding.md R112, spec/41_vlc_mb_header.md R185, spec/46_macroblock.md
R326): a prediction by the zero vector is the reference at the same place, and blocks without coefficients copy it. -/

namespace Sys2Proof.Machine

/-! ## Prediction by the zero vector -/

/-- Inside its plane a reference sample is the one at its coordinates (R341). -/
theorem refSample_inside (p : Memory) {stride rows x y : Nat} (hx : x < stride) (hy : y < rows) :
    refSample p stride rows x y = p.read (y * stride + x) := by
  have hcx : (clamp (x : Int) 0 ((stride : Int) - 1)).toNat = x := by
    unfold clamp
    split_ifs <;> omega
  have hcy : (clamp (y : Int) 0 ((rows : Int) - 1)).toNat = y := by
    unfold clamp
    split_ifs <;> omega
  rw [refSample, hcx, hcy]

/-- A block inside its plane, predicted with no displacement, is the reference block (R342). -/
theorem mcBlock_zero (p : Memory) {stride rows x0 y0 : Nat} (hx : x0 + 8 ≤ stride) (hy : y0 + 8 ≤ rows) (r : Bool) (i : Fin 64) :
    (mcBlock p stride rows x0 y0 0 0 r)[i] = p.read ((y0 + rowOf i) * stride + (x0 + colOf i)) := by
  have hcol : colOf i < 8 := Nat.mod_lt _ (by decide)
  have hrow : rowOf i < 8 := Nat.div_lt_of_lt_mul i.isLt
  rw [← refSample_inside p (show x0 + colOf i < stride by omega) (show y0 + rowOf i < rows by omega)]
  simp [mcBlock, asr]

/-- The chroma vector of zero vectors is zero (R345, R346). -/
theorem State.chromaMv_zero (s : State) (four : Bool) : s.chromaMv four (allFour MV.zero) = MV.zero := by
  have hhalf : s.toHalf 0 = 0 := by
    unfold State.toHalf
    split <;> rfl
  cases four with
  | true =>
    show s.chromaMv4 MV.zero MV.zero MV.zero MV.zero = MV.zero
    simp only [State.chromaMv4, MV.zero, hhalf]
    rfl
  | false =>
    show s.chromaMv1 MV.zero = MV.zero
    simp only [State.chromaMv1, mapMV, MV.zero, hhalf]
    rfl

theorem State.mcLuma_zero (s : State) (ref : FrameStore) (x y : Int) (r : Bool) :
    s.mcLuma ref x y MV.zero r = mcBlock ref.y (s.stride .y) (s.rows .y) x y 0 0 r := by
  unfold State.mcLuma
  split <;> rfl

/-- The prediction of macroblock `k` by zero vectors is the reference at its place (R326). -/
theorem State.predictFrom_zero (s : State) {k : Nat} (hk : k < s.mbCount) (ref : FrameStore) (r : Bool) (b : Fin 6) (i : Fin 64) :
    (s.predictFrom k ref (allFour MV.zero) MV.zero r)[b][i] = (ref.plane (blockPlane b)).read (s.sampleAddr k b i) := by
  have hx := s.block_fits k b hk
  have hy := s.block_fits_rows k b hk
  rw [State.sampleAddr, ← mcBlock_zero _ hx hy r i]
  fin_cases b
  · exact congrArg (·[i]) (s.mcLuma_zero ref _ _ r)
  · exact congrArg (·[i]) (s.mcLuma_zero ref _ _ r)
  · exact congrArg (·[i]) (s.mcLuma_zero ref _ _ r)
  · exact congrArg (·[i]) (s.mcLuma_zero ref _ _ r)
  · rfl
  · rfl

/-! ## Blocks without coefficients -/

/-- The blocks of a list are written, each with its samples of `w` (R315). -/
def State.writeBlocks (s : State) (k : Nat) (w : Vector (Vector Byte 64) 6) (l : List (Fin 6)) : State :=
  l.foldl (fun t b => t.writeBlock k b w[b]) s

theorem State.writeBlocks_cons (s : State) (k : Nat) (w : Vector (Vector Byte 64) 6) (b : Fin 6) (l : List (Fin 6)) :
    s.writeBlocks k w (b :: l) = (s.writeBlock k b w[b]).writeBlocks k w l := rfl

theorem interBlock_uncoded {k : Nat} {b : Fin 6} {s : State} (h : s.mb.cbp = 0#6) :
    interBlock k b s = .ok () (s.writeBlock k b s.pred[b]) := by
  have hflag : ¬codedFlag s.mb.cbp b = true := by simp [codedFlag, h]
  rw [interBlock, bind_apply_ok _ _ _ _ _ (get_apply s), if_neg hflag]
  rfl

/-- Where no block is coded, the blocks are the prediction (R315). -/
theorem forEach_interBlock_uncoded {k : Nat} (l : List (Fin 6)) {s : State} (h : s.mb.cbp = 0#6) :
    forEach l (fun b => interBlock k b) s = .ok () (s.writeBlocks k s.pred l) := by
  induction l generalizing s with
  | nil => rfl
  | cons b l ih =>
    rw [forEach, bind_apply_ok _ _ _ _ _ (interBlock_uncoded h), State.writeBlocks_cons]
    exact ih (s := s.writeBlock k b s.pred[b]) h

/-- Writing blocks changes `CUR` alone. -/
theorem State.writeBlocks_eq (s : State) (k : Nat) (w : Vector (Vector Byte 64) 6) (l : List (Fin 6)) :
    s.writeBlocks k w l = { s with cur := (s.writeBlocks k w l).cur } := by
  induction l generalizing s with
  | nil => rfl
  | cons b l ih =>
    rw [State.writeBlocks_cons, ih]
    rfl

/-- Where the blocks' samples are those of `R`, the samples of the blocks written are, and the others stay. -/
theorem State.writeBlocks_read {k : Nat} {w : Vector (Vector Byte 64) 6} {R : Plane → Nat → Byte} (l : List (Fin 6)) {s : State}
    (hk : k < s.mbCount) (hw : ∀ b (i : Fin 64), w[b][i] = R (blockPlane b) (s.sampleAddr k b i)) (p : Plane) (a : Nat) :
    ((∃ b ∈ l, ∃ i, blockPlane b = p ∧ a = s.sampleAddr k b i) → ((s.writeBlocks k w l).cur.plane p).read a = R p a)
      ∧ ((¬∃ b ∈ l, ∃ i, blockPlane b = p ∧ a = s.sampleAddr k b i) →
        ((s.writeBlocks k w l).cur.plane p).read a = (s.cur.plane p).read a) := by
  induction l generalizing s with
  | nil => exact ⟨fun ⟨_, hb, _⟩ => absurd hb List.not_mem_nil, fun _ => rfl⟩
  | cons b l ih =>
    obtain ⟨hown, hother, -, -⟩ := s.writeBlock_written k b w[b] hk
    obtain ⟨hin, hout⟩ := ih (s := s.writeBlock k b w[b]) hk hw
    rw [State.writeBlocks_cons]
    refine ⟨fun h => ?_, fun h => ?_⟩
    · by_cases hl : ∃ b ∈ l, ∃ i, blockPlane b = p ∧ a = s.sampleAddr k b i
      · exact hin hl
      · obtain ⟨c, hc, i, rfl, rfl⟩ := h
        obtain rfl : c = b := (List.mem_cons.1 hc).resolve_right fun hc => hl ⟨c, hc, i, rfl, rfl⟩
        rw [hout hl, hown, hw]
    · rw [hout fun ⟨c, hc, i, hi⟩ => h ⟨c, List.mem_cons_of_mem _ hc, i, hi⟩]
      exact hother p a fun hp i hi => h ⟨b, List.mem_cons_self, i, hp.symm, hi⟩

theorem State.writeBlocks_valid (s : State) (k : Nat) (w : Vector (Vector Byte 64) 6) (l : List (Fin 6)) :
    (s.writeBlocks k w l).cur.valid = s.cur.valid ∧ (s.writeBlocks k w l).cur.info = s.cur.info := by
  induction l generalizing s with
  | nil => exact ⟨rfl, rfl⟩
  | cons b l ih =>
    obtain ⟨hvalid, hinfo⟩ := ih (s.writeBlock k b w[b])
    exact ⟨hvalid.trans (FrameStore.setPlane_valid _ _ _), hinfo.trans (FrameStore.setPlane_info _ _ _)⟩

/-- All six blocks are the macroblock's own samples. -/
theorem State.ownSample_iff (s : State) (k : Nat) (p : Plane) (a : Nat) :
    s.OwnSample k p a ↔ ∃ b ∈ blocks, ∃ i, blockPlane b = p ∧ a = s.sampleAddr k b i := by
  have hall : ∀ b : Fin 6, b ∈ blocks := by decide
  simp [State.OwnSample, hall]

/-! ## The macroblock -/

/-- The state after a skipped macroblock: the prediction by zero vectors, written (R112, log entry 18). -/
def State.skippedB (s : State) (k : Nat) : State :=
  (s.skipB.predictB k).writeBlocks k (s.skipB.predictB k).pred blocks

theorem mbB_skipped {k : Nat} {s : State} (h : (s.refmv.getD k MbInfo.reset).mode = .notCoded) :
    mbB k s = .ok () ((s.startRow k).skippedB k) := by
  have hskip : ((s.startRow k).refmvAt k).mode = .notCoded := by rwa [State.startRow_eq]
  unfold mbB
  rw [bind_apply_ok _ _ _ _ _ (update_apply _ s), bind_apply_ok _ _ _ _ _ (get_apply _), if_pos hskip]
  refine (bind_apply_ok _ _ _ _ _ (update_apply _ _)).trans ((bind_apply_ok _ _ _ _ _ (update_apply _ _)).trans ?_)
  exact forEach_interBlock_uncoded blocks rfl

theorem State.skippedB_eq (s : State) (k : Nat) : s.skippedB k = { s with
    mb := { s.mb with btype := .forward, mv := Vector.replicate 4 MV.zero, cbp := 0#6, acPred := false }
    pred := (s.skipB.predictB k).pred
    cur := (s.skippedB k).cur } := State.writeBlocks_eq _ k _ blocks

/-- The prediction of a skipped macroblock is `REF_OLD` at its place. -/
theorem State.skipB_pred {k : Nat} {s : State} (hk : k < s.mbCount) (b : Fin 6) (i : Fin 64) :
    (s.skipB.predictB k).pred[b][i] = (s.refOld.plane (blockPlane b)).read (s.sampleAddr k b i) := by
  have hpred : (s.skipB.predictB k).pred
      = s.skipB.predictFrom k s.refOld (allFour MV.zero) (s.skipB.chromaMv (s.skipB.bFourVectors k) (allFour MV.zero)) false := rfl
  rw [hpred, State.chromaMv_zero]
  exact State.predictFrom_zero s.skipB hk s.refOld false b i

/-- A skipped macroblock's own samples are those of `REF_OLD`, and the others stay (R112). -/
theorem State.skippedB_cur {k : Nat} {s : State} (hk : k < s.mbCount) :
    (∀ p a, s.OwnSample k p a → ((s.skippedB k).cur.plane p).read a = (s.refOld.plane p).read a)
      ∧ (∀ p a, ¬s.OwnSample k p a → ((s.skippedB k).cur.plane p).read a = (s.cur.plane p).read a)
      ∧ (s.skippedB k).cur.valid = s.cur.valid ∧ (s.skippedB k).cur.info = s.cur.info := by
  have hread := State.writeBlocks_read (s := s.skipB.predictB k) (R := fun p a => (s.refOld.plane p).read a) blocks hk
    (State.skipB_pred hk)
  refine ⟨fun p a hown => ?_, fun p a hown => ?_, State.writeBlocks_valid _ k _ blocks⟩
  · exact (hread p a).1 ((s.ownSample_iff k p a).1 hown)
  · exact (hread p a).2 fun h => hown ((s.ownSample_iff k p a).2 h)

/-- Settles O32: the samples written are those predicted by zero vectors. -/
theorem decodeMbSkippedInBCopiesForward : Obligations.DecodeMbSkippedInBCopiesForward := by
  intro k s ho hk hb hskip
  have hmb := (decodeMb_b (s := { s with mbk := k }) hb).trans (mbB_skipped hskip)
  have hexec := exec_decodeMb_ok ho hk hmb
  have hcur := State.skippedB_cur (k := k) (s := ({ s with mbk := k } : State).startRow k) (by rw [State.startRow_eq]; exact hk)
  rw [State.skippedB_eq] at hexec
  rw [State.startRow_eq] at hexec hcur
  obtain ⟨hown, hother, hvalid, hinfo⟩ := hcur
  exact ⟨_, _, hexec, hown, hother, hvalid, hinfo⟩

end Sys2Proof.Machine
end

section
/-! PROOFS. The bit reader, the start-code scan and the resync-marker detector (spec/40_bitreader.md), and `SC` and `RESYNC`
given alone (spec/30_encoding.md R114, R115). -/

namespace Sys2Proof.Machine

/-! ## Commands given by their answer -/

/-- In `Opened`, a command whose operation ends well hands back its value in the state the operation leaves. -/
theorem exec_of_opened {i : Instr} {s t : State} {f : State → EStateM.Result Kind State Result} {r : Result}
    (hx : exec i s = runCommand (Act.of f) s) (ho : s.opened = true) (hf : f s = .ok r t) :
    exec i s = .next { t with status := .ok, result := r } := by
  rw [hx, runCommand_of_opened f s ho, hf]
  rfl

/-- `exec_of_opened` for an operation that leaves the state as it is. -/
theorem answers_of_opened {i : Instr} {s : State} {f : State → EStateM.Result Kind State Result} {r : Result}
    (hx : exec i s = runCommand (Act.of f) s) (ho : s.opened = true) (hf : f s = .ok r s) : Answers i s r :=
  exec_of_opened hx ho hf

/-! ## Reads (R140 to R143) -/

section

variable {n : Fin 33} {s : State}

theorem exec_readBits_fits (ho : s.opened = true) (h : s.bp + n.val ≤ 8 * s.bslen) :
    exec (.readBits n) s
      = .next { s with bp := s.bp + n.val, status := .ok, result := .bits (some (s.bits s.bp n.val)) } :=
  exec_of_opened (t := s.advance n.val) rfl ho (if_pos h)

theorem answers_peekBits_fits (ho : s.opened = true) (h : s.bp + n.val ≤ 8 * s.bslen) :
    Answers (.peekBits n) s (.bits (some (s.bits s.bp n.val))) :=
  answers_of_opened rfl ho (if_pos h)

theorem exec_skipBits_fits (ho : s.opened = true) (h : s.bp + n.val ≤ 8 * s.bslen) :
    exec (.skipBits n) s = .next { s with bp := s.bp + n.val, status := .ok, result := .done true } :=
  exec_of_opened (t := s.advance n.val) rfl ho (if_pos h)

theorem answers_readBits_short (ho : s.opened = true) (h : 8 * s.bslen < s.bp + n.val) :
    Answers (.readBits n) s (.bits none) :=
  answers_of_opened rfl ho (if_neg (Nat.not_le.2 h))

theorem answers_peekBits_short (ho : s.opened = true) (h : 8 * s.bslen < s.bp + n.val) :
    Answers (.peekBits n) s (.bits none) :=
  answers_of_opened rfl ho (if_neg (Nat.not_le.2 h))

theorem answers_skipBits_short (ho : s.opened = true) (h : 8 * s.bslen < s.bp + n.val) :
    Answers (.skipBits n) s (.done false) :=
  answers_of_opened rfl ho (if_neg (Nat.not_le.2 h))

theorem answers_byteAligned (ho : s.opened = true) : Answers .byteAligned s (.flag (decide (s.bp % 8 = 0))) :=
  answers_of_opened rfl ho rfl

end

/-- Settles O9, by whether the window holds the `n` bits. -/
theorem bitReaderReadsAllOrNothing : Obligations.BitReaderReadsAllOrNothing := by
  intro n s ho
  refine ⟨fun hfits => ?_, fun hshort => ?_, answers_byteAligned ho⟩
  · exact ⟨exec_readBits_fits ho hfits, answers_peekBits_fits ho hfits, exec_skipBits_fits ho hfits⟩
  · exact ⟨answers_readBits_short ho hshort, answers_peekBits_short ho hshort, answers_skipBits_short ho hshort⟩

/-! ## Start codes (R114, R144, R145) -/

/-- `FindStartCode` answers the offset past the first match (R144). -/
theorem findStartCode_eq_some_iff (data : List Byte) (code : Byte) (v : Nat) :
    findStartCode data code = some v
      ↔ 4 ≤ v ∧ StartCodeIn data (v - 4) code ∧ ∀ a, a < v - 4 → ¬StartCodeIn data a code := by
  simp [findStartCode, scanCode_spec]

/-- `FindStartCodeRange` answers the first match of the range, and which code it is (R145). -/
theorem findStartCodeRange_eq_some_iff (data : List Byte) (lo hi : Byte) (v : Nat) (c : Byte) :
    findStartCodeRange data lo hi = some (v, c)
      ↔ 4 ≤ v ∧ StartCodeIn data (v - 4) c ∧ lo.toNat ≤ c.toNat ∧ c.toNat ≤ hi.toNat
        ∧ ∀ (a : Nat) (d : Byte), a < v - 4 → lo.toNat ≤ d.toNat → d.toNat ≤ hi.toNat → ¬StartCodeIn data a d := by
  simp [findStartCodeRange, scanCode_spec, and_assoc]

/-- Thirty-two bits at a byte boundary are four bytes, big-endian (R72). -/
theorem State.bits_four_bytes (s : State) (a : Nat) :
    s.bits (8 * a) 32 = 2 ^ 24 * (s.bs.read a).toNat + 2 ^ 16 * (s.bs.read (a + 1)).toNat
      + 256 * (s.bs.read (a + 2)).toNat + (s.bs.read (a + 3)).toNat := by
  calc s.bits (8 * a) 32
      = s.bits (8 * a) 16 * 2 ^ 16 + s.bits (8 * (a + 2)) 16 := s.bits_add (8 * a) 16 16
    _ = _ := by
      rw [State.bits_two_bytes, State.bits_two_bytes, show a + 2 + 1 = a + 3 from rfl]
      omega

/-- The number `256 + c` is written in four bytes as `00 00 01 c`. -/
theorem four_bytes_eq_startCode_iff (b0 b1 b2 b3 c : Byte) :
    2 ^ 24 * b0.toNat + 2 ^ 16 * b1.toNat + 256 * b2.toNat + b3.toNat = 256 + c.toNat
      ↔ b0 = 0#8 ∧ b1 = 0#8 ∧ b2 = 1#8 ∧ b3 = c := by
  bv_omega

/-- A start code at `BP` in bytes of the window (R114). -/
theorem State.startCodeAt_iff (s : State) (c : Byte) :
    s.startCodeAt c = true ↔ s.bp % 8 = 0 ∧ s.bp / 8 + 4 ≤ s.bslen ∧ s.bs.read (s.bp / 8) = 0#8
      ∧ s.bs.read (s.bp / 8 + 1) = 0#8 ∧ s.bs.read (s.bp / 8 + 2) = 1#8 ∧ s.bs.read (s.bp / 8 + 3) = c := by
  simp only [State.startCodeAt, Bool.and_eq_true, decide_eq_true_eq, and_assoc]
  refine and_congr_right fun haligned => and_congr (by omega) ?_
  obtain ⟨a, ha⟩ : ∃ a, s.bp = 8 * a := Nat.dvd_of_mod_eq_zero haligned
  have hbyte : s.bp / 8 = a := by omega
  rw [hbyte, ha, State.bits_four_bytes, four_bytes_eq_startCode_iff]

/-- `SC` alone answers the offset past the code where the code stands at `BP` (log entry 14). -/
theorem answers_sc (c : Byte) (s : State) :
    Answers (.sc c) s (.offset (if s.startCodeAt c then some (s.bp / 8 + 4) else none)) := rfl

/-- Settles O11: both scans by what `scanCode` finds, and `SC` by the four bytes at `BP`. -/
theorem startCodeScanFindsTheFirst : Obligations.StartCodeScanFindsTheFirst := by
  refine ⟨?scan, ?range, ?alone⟩
  case scan => exact fun data code s ho => ⟨_, answers_of_opened rfl ho rfl, findStartCode_eq_some_iff data code⟩
  case range =>
    exact fun data lo hi s ho => ⟨_, answers_of_opened rfl ho rfl, findStartCodeRange_eq_some_iff data lo hi⟩
  case alone =>
    intro c s
    simpa only [State.startCodeAt_iff] using answers_sc c s

/-! ## Resync markers (R115, R146) -/

/-- A run of equal bits, counted from 1 as R146 counts it. -/
theorem State.allBits_succ_iff (s : State) (b : Bool) (p n : Nat) :
    s.allBits b (p + 1) n = true ↔ ∀ j, 1 ≤ j → j ≤ n → s.bit (p + j) = b := by
  rw [State.allBits_iff]
  constructor
  · intro h j hj hn
    rw [show p + j = p + 1 + (j - 1) by omega]
    exact h (j - 1) (by omega)
  · intro h j hj
    rw [show p + 1 + j = p + (j + 1) by omega]
    exact h (j + 1) (by omega) (by omega)

/-- The detector finds exactly the marker's pattern (R146). -/
theorem State.resyncDetect_iff (s : State) (p f : Nat) : s.resyncDetect p f = true ↔ s.ResyncAt p f := by
  unfold State.resyncDetect State.ResyncAt
  by_cases hfits : p + 1 + (7 - p % 8) + (16 + f) + 1 ≤ 8 * s.bslen
  · rw [if_neg (Nat.not_lt.2 hfits)]
    simp only [Bool.and_eq_true, beq_iff_eq, State.allBits_succ_iff, hfits, true_and, and_assoc]
  · rw [if_pos (Nat.lt_of_not_le hfits)]
    simp [hfits]

/-- `RESYNC` alone answers whether its own stuffing and the pattern stand at `BP` (log entry 14). -/
theorem answers_resync (k f : Fin 8) (s : State) :
    Answers (.resync k f) s (.flag (decide (k.val = 7 - s.bp % 8) && s.resyncDetect s.bp f.val)) := rfl

/-- Settles O12, by what the detector finds at a position and at `BP`. -/
theorem resyncDetectorMatchesThePattern : Obligations.ResyncDetectorMatchesThePattern := by
  refine ⟨?detect, ?alone⟩
  case detect => exact fun p f s ho => ⟨_, answers_of_opened rfl ho rfl, s.resyncDetect_iff p f.val⟩
  case alone =>
    intro k f s
    refine ⟨_, answers_resync k f s, ?_⟩
    rw [Bool.and_eq_true, decide_eq_true_eq, State.resyncDetect_iff]

end Sys2Proof.Machine
end

section
/-! PROOFS. MCBPC and CBPY: the parts of `MB.cbp` that each writes and keeps (spec/41_vlc_mb_header.md R160 to R162). -/

namespace Sys2Proof.Machine

/-! ## The two parts of the pattern -/

/-- The high four of six bits. -/
theorem cbpyOf_toNat (c : BitVec 6) : (cbpyOf c).toNat = c.toNat / 4 := by
  rw [cbpyOf, BitVec.extractLsb'_toNat, Nat.shiftRight_eq_div_pow]
  omega

/-- The low two of six bits. -/
theorem cbpcOf_toNat (c : BitVec 6) : (cbpcOf c).toNat = c.toNat % 4 := by
  rw [cbpcOf, BitVec.extractLsb'_toNat, Nat.shiftRight_zero]

/-- The luma pattern that a CBPY symbol means in a macroblock of each mode (R162). -/
theorem cbpyValue_toNat (m : MbMode) (c : BitVec 4) :
    (cbpyValue (isIntraMode m) c).toNat = if m = .intra ∨ m = .intraQ then c.toNat else 15 - c.toNat := by
  simp only [cbpyValue, isIntraMode_iff]
  split
  · rfl
  · have hle : c ≤ 15#4 := BitVec.le_def.2 (by simp; omega)
    rw [BitVec.toNat_sub_of_le hle]
    rfl

/-! ## The codewords -/

/-- An MCBPC symbol that is no stuffing writes the mode and the low two bits of the pattern (R160, R161). -/
theorem State.setMcbpc_mb (s : State) (m : MbMode) (c : BitVec 2) :
    s.setMcbpc (.mb m c) = { s with mb := { s.mb with
      mode := m
      cbp := BitVec.ofNat 6 (4 * (s.mb.cbp.toNat / 4) + c.toNat) } } := by
  rw [← cbpyOf_toNat]
  rfl

/-- A CBPY symbol writes the high four bits of the pattern, by the mode (R162). -/
theorem State.setCbpy_eq (s : State) (c : BitVec 4) :
    s.setCbpy c = { s with mb := { s.mb with
      cbp := BitVec.ofNat 6
        (4 * (if s.mb.mode = .intra ∨ s.mb.mode = .intraQ then c.toNat else 15 - c.toNat) + s.mb.cbp.toNat % 4) } } := by
  rw [← cbpcOf_toNat, ← cbpyValue_toNat]
  rfl

theorem Completes.of_mcbpc {i : Instr} {n c : Nat} {m : MbMode} (hc : c < 2 ^ 2)
    (hx : ∀ s, exec i s = runCode n (fun s => s.setMcbpc (.mb m (BitVec.ofNat 2 c))) .none s) :
    Completes i n (fun s => { s with mb := { s.mb with
      mode := m
      cbp := BitVec.ofNat 6 (4 * (s.mb.cbp.toNat / 4) + c) } }) .none := by
  simpa only [State.setMcbpc_mb, BitVec.toNat_ofNat, Nat.mod_eq_of_lt hc] using Completes.of_runCode hx

theorem Completes.of_cbpy {i : Instr} {n c : Nat} (hc : c < 2 ^ 4)
    (hx : ∀ s, exec i s = runCode n (fun s => s.setCbpy (BitVec.ofNat 4 c)) .none s) :
    Completes i n (fun s => { s with mb := { s.mb with
      cbp := BitVec.ofNat 6
        (4 * (if s.mb.mode = .intra ∨ s.mb.mode = .intraQ then c else 15 - c) + s.mb.cbp.toNat % 4) } }) .none := by
  simpa only [State.setCbpy_eq, BitVec.toNat_ofNat, Nat.mod_eq_of_lt hc] using Completes.of_runCode hx

/-- Settles O1, row by row. -/
theorem mcbpcAndCbpyCodewords : Obligations.McbpcAndCbpyCodewords := by
  refine ⟨?mcbpc, .of_runCode fun _ => rfl, .of_runCode fun _ => rfl, ?cbpy⟩
  case mcbpc =>
    intro p hp
    simp only [List.mem_cons, List.not_mem_nil, or_false] at hp
    repeat' (first | (rcases hp with hp | hp) | subst hp)
    all_goals exact .of_mcbpc (by decide) fun _ => rfl
  case cbpy =>
    intro p hp
    simp only [List.mem_cons, List.not_mem_nil, or_false] at hp
    repeat' (first | (rcases hp with hp | hp) | subst hp)
    all_goals exact .of_cbpy (by decide) fun _ => rfl

end Sys2Proof.Machine
end

section
/-! PROOFS. Motion vectors of P and S VOPs: the delta, the median predictor and the wrap (spec/41_vlc_mb_header.md R175 to
R178). -/

namespace Sys2Proof.Machine

/-! ## The delta (R175) -/

/-- An operation that is one parse, and hands back what the instruction of the same parse hands back. -/
theorem State.ReadBy.of_parse {α β : Type} {s : State} {t : Table} {d : Dec α} {f : α → Instr} {g : α → β} {out : β → Result}
    (hinj : ∀ x y, out x = out y → x = y) (hp : parseInstr t = (do return f (← d)))
    (hx : ∀ v c, d ⟨s.ahead, 0⟩ = .ok v c →
      exec (f v) s = .next { s with bp := s.bp + c.used, status := .ok, result := out (g v) }) :
    s.ReadBy t (do return g (← parse d)) out := by
  have hdec := decode_of_read hp s.ahead
  have hparse := parse_apply d s
  cases hd : d ⟨s.ahead, 0⟩ with
  | ok v c =>
    rw [hd] at hdec hparse
    exact readBy_ok (u := s.advance c.used) hinj hdec (by rw [bind_apply_ok _ _ _ _ _ hparse]; rfl) (hx v c hd) rfl rfl
  | error e c =>
    rw [hd] at hdec hparse
    rw [State.ReadBy, hdec]
    exact bind_apply_error _ _ _ _ _ hparse

/-- A magnitude of 0 has one codeword (R174). -/
theorem exec_mvd_zero (f : Nat) (neg : Bool) (res : Nat) : ∀ r ∈ mvdTable, r.mag = 0 → ∀ s,
    exec (r.ctor f neg res) s = runCode r.code.length (fun s => s) (.int (mvDelta r.mag f neg res)) s := by
  intro r hr h0
  simp only [mvdTable, List.mem_cons, List.not_mem_nil, or_false] at hr
  rcases hr with rfl | hr
  · exact fun _ => rfl
  · repeat' (first | (rcases hr with hr | hr) | subst hr)
    all_goals cases h0

theorem mvdRow_code_pos : ∀ r ∈ mvdTable, 0 < r.code.length := by decide

/-- A codeword of a delta, where its bits are ahead, completes with the delta of R106. -/
theorem exec_mvd_of_parse {f : Nat} {s : State} {r : MvdRow} {neg : Bool} {res : Nat} {c : Cursor}
    (h : parseMvd f ⟨s.ahead, 0⟩ = .ok (r, neg, res) c) :
    exec (r.ctor f neg res) s
      = .next { s with bp := s.bp + c.used, status := .ok, result := .int (mvDelta r.mag f neg res) } := by
  obtain ⟨hr, hused, hlen⟩ := parseMvd_ok h
  have hpos := mvdRow_code_pos r hr
  simp only [State.ahead_length] at hlen
  by_cases h0 : r.mag = 0
  · rw [if_pos h0] at hused hlen
    rw [exec_mvd_zero f neg res r hr h0, runCode_fits _ _ _ _ (by omega), hused, Nat.zero_add]
  · rw [if_neg h0] at hused hlen
    have hfits : s.bp + [r.code.length, 1, f - 1].sum ≤ 8 * s.bslen := by
      simp only [List.sum_cons] at hlen ⊢
      omega
    rw [exec_mvd f neg res r hr h0, runReads_fits _ _ _ _ hfits, hused, Nat.zero_add]

theorem readBy_decodeDelta (f : Nat) (s : State) : s.ReadBy (.mvd f) (decodeDelta f) Result.int :=
  .of_parse (d := parseMvd f) (f := fun (r, neg, res) => r.ctor f neg res) (g := fun (r, neg, res) => mvDelta r.mag f neg res)
    (fun _ _ => Result.int.inj) rfl fun _ _ => exec_mvd_of_parse

/-! ## The candidates (R178) -/

/-- The median of R178 is the middle one. -/
theorem median_eq_middle (a b c : Int) : median a b c = middle a b c := by
  unfold median middle
  omega

/-- The predictor from the candidates, `none` one that is not valid: a single valid one itself, else the median with
zero for what is missing. -/
def medianOfValid (a b c : Option MV) : MV :=
  match a, b, c with
  | some a, none, none => a
  | none, some b, none => b
  | none, none, some c => c
  | a, b, c =>
    ⟨middle (a.getD MV.zero).x (b.getD MV.zero).x (c.getD MV.zero).x,
      middle (a.getD MV.zero).y (b.getD MV.zero).y (c.getD MV.zero).y⟩

theorem medianMV_eq (a b c : MV) : medianMV (a, b, c) = ⟨middle a.x b.x c.x, middle a.y b.y c.y⟩ := by
  rw [medianMV, median_eq_middle, median_eq_middle]

/-- Three equal candidates. -/
theorem medianMV_self (a : MV) : medianMV (a, a, a) = a := by
  simp [medianMV, median]

theorem medianMV_fillCandidates (a b c : Option MV) : medianMV (fillCandidates (a, b, c)) = medianOfValid a b c := by
  cases a <;> cases b <;> cases c
  case some.none.none | none.some.none | none.none.some => exact medianMV_self _
  all_goals exact medianMV_eq _ _ _

/-- The `MBI` vector `i` of macroblock `m`, where it lies in the frame. -/
def State.neighbourMv (s : State) (inside : Prop) [Decidable inside] (m : Nat) (i : Fin 4) : Option MV :=
  if inside then some (s.mbi.getD m MbInfo.reset).mv[i] else none

/-- A neighbour by its column and row is the one by its number, where both lie in the frame. -/
theorem State.mbiMv_eq_neighbourMv {s : State} {inside : Bool} {p : Prop} [Decidable p] {x y m : Nat} (i : Fin 4)
    (hin : inside = true ↔ p) (hm : p → y * s.mbw + x = m) : s.mbiMv inside x y i = s.neighbourMv p m i := by
  unfold State.mbiMv State.neighbourMv State.mbiAt
  by_cases h : p
  · rw [if_pos (hin.2 h), if_pos h, hm h]
  · rw [if_neg (mt hin.1 h), if_neg h]

section

variable {s : State} {k : Nat}

theorem State.mbY_mul_add_mbX (s : State) (k : Nat) : s.mbY k * s.mbw + s.mbX k = k := Nat.div_add_mod' k s.mbw

theorem State.mbw_pos_of_lt (hk : k < s.mbCount) : 0 < s.mbw := Nat.pos_of_mul_pos_right (Nat.zero_lt_of_lt hk)

theorem State.leftMv_eq (s : State) (k : Nat) (i : Fin 4) :
    s.mbiMv (decide (1 ≤ s.mbX k)) (s.mbX k - 1) (s.mbY k) i = s.neighbourMv (k % s.mbw ≠ 0) (k - 1) i := by
  have hk := s.mbY_mul_add_mbX k
  have hx : s.mbX k = k % s.mbw := rfl
  exact State.mbiMv_eq_neighbourMv i (by rw [decide_eq_true_iff]; omega) fun h => by omega

/-- A row above is `MBW` macroblocks back. -/
theorem State.rowAbove_add (h : 1 ≤ s.mbY k) : (s.mbY k - 1) * s.mbw + s.mbX k = k - s.mbw := by
  have hk := s.mbY_mul_add_mbX k
  rw [Nat.sub_mul, Nat.one_mul]
  have hrow := Nat.mul_le_mul_right s.mbw h
  omega

theorem State.one_le_mbY_iff (hk : k < s.mbCount) : 1 ≤ s.mbY k ↔ s.mbw ≤ k :=
  (Nat.le_div_iff_mul_le (State.mbw_pos_of_lt hk)).trans (by rw [Nat.one_mul])

theorem State.aboveMv_eq (hk : k < s.mbCount) (i : Fin 4) :
    s.mbiMv (decide (1 ≤ s.mbY k)) (s.mbX k) (s.mbY k - 1) i = s.neighbourMv (s.mbw ≤ k) (k - s.mbw) i :=
  State.mbiMv_eq_neighbourMv i (by rw [decide_eq_true_iff, State.one_le_mbY_iff hk]) fun h =>
    State.rowAbove_add ((State.one_le_mbY_iff hk).2 h)

theorem State.aboveRightMv_eq (hk : k < s.mbCount) (i : Fin 4) :
    s.mbiMv (decide (1 ≤ s.mbY k) && decide (s.mbX k + 1 < s.mbw)) (s.mbX k + 1) (s.mbY k - 1) i
      = s.neighbourMv (s.mbw ≤ k ∧ k % s.mbw + 1 < s.mbw) (k - s.mbw + 1) i :=
  State.mbiMv_eq_neighbourMv i (by rw [Bool.and_eq_true, decide_eq_true_iff, decide_eq_true_iff, State.one_le_mbY_iff hk]; rfl)
    fun h => by rw [← Nat.add_assoc, State.rowAbove_add ((State.one_le_mbY_iff hk).2 h.1)]

/-- The four rows of R178's table. -/
theorem State.mvPredictor_eq (hk : k < s.mbCount) :
    let left := s.neighbourMv (k % s.mbw ≠ 0) (k - 1)
    let above := s.neighbourMv (s.mbw ≤ k) (k - s.mbw)
    let aboveRight := s.neighbourMv (s.mbw ≤ k ∧ k % s.mbw + 1 < s.mbw) (k - s.mbw + 1)
    s.mvPredictor k 0 = medianOfValid (left 1) (above 2) (aboveRight 2)
    ∧ s.mvPredictor k 1 = medianOfValid (some s.mb.mv[0]) (above 3) (aboveRight 2)
    ∧ s.mvPredictor k 2 = medianOfValid (left 3) (some s.mb.mv[0]) (some s.mb.mv[1])
    ∧ s.mvPredictor k 3 = medianOfValid (some s.mb.mv[2]) (some s.mb.mv[0]) (some s.mb.mv[1]) := by
  simp only [← medianMV_fillCandidates, ← State.leftMv_eq, ← State.aboveMv_eq hk, ← State.aboveRightMv_eq hk]
  exact ⟨rfl, rfl, rfl, rfl⟩

end

/-! ## The vector (R177) -/

section

variable {p : MV} {f : Nat} {s t u : State} {dx dy : Int} {e : Kind}

theorem decodeVector_ok (hx : decodeDelta f s = .ok dx t) (hy : decodeDelta f t = .ok dy u) :
    decodeVector p f s = .ok ⟨wrapMv (p.x + dx) f, wrapMv (p.y + dy) f⟩ u := by
  rw [decodeVector, bind_apply_ok _ _ _ _ _ hx, bind_apply_ok _ _ _ _ _ hy]
  rfl

theorem decodeVector_error_x (hx : decodeDelta f s = .error e u) : decodeVector p f s = .error e u :=
  bind_apply_error _ _ _ _ _ hx

theorem decodeVector_error_y (hx : decodeDelta f s = .ok dx t) (hy : decodeDelta f t = .error e u) :
    decodeVector p f s = .error e u := by
  rw [decodeVector, bind_apply_ok _ _ _ _ _ hx, bind_apply_error _ _ _ _ _ hy]

end

/-! ## The wrap (R176) -/

/-- One correction brings a value within twice the range into it. -/
theorem wrapMv_bounds {f : Nat} {v : Int} (hlow : -(2 ^ (f + 5)) ≤ v) (hhigh : v ≤ 2 ^ (f + 5)) :
    -(2 ^ (f + 4)) ≤ wrapMv v f ∧ wrapMv v f ≤ 2 ^ (f + 4) - 1 := by
  have hpos : (0 : Int) < 2 ^ (f + 4) := by positivity
  rw [pow_succ] at hlow hhigh
  rw [wrapMv]
  split
  · omega
  · split <;> omega

/-- A correction is by twice the range. -/
theorem wrapMv_sub_emod (f : Nat) (v : Int) : (wrapMv v f - v) % 2 ^ (f + 5) = 0 := by
  have hrange : (2 : Int) ^ (f + 5) = 2 * 2 ^ (f + 4) := pow_succ' 2 (f + 4)
  apply Int.emod_eq_zero_of_dvd
  rw [hrange, wrapMv]
  split
  · exact ⟨1, by omega⟩
  · split
    · exact ⟨-1, by omega⟩
    · exact ⟨0, by omega⟩

/-- Settles O30: the table of R178 and the median of its candidates, the two deltas in turn, and the wrap. -/
theorem motionVectorPredictorIsTheMedian : Obligations.MotionVectorPredictorIsTheMedian := by
  refine ⟨?predictor, ?vector, ?firstFails, ?secondFails, readBy_decodeDelta, ?wrap⟩
  case predictor => exact fun s k hk => State.mvPredictor_eq hk
  case vector => exact fun k b s t u dx dy hx hy => decodeVector_ok hx hy
  case firstFails => exact fun k b s u e hx => decodeVector_error_x hx
  case secondFails => exact fun k b s t u dx e hx hy => decodeVector_error_y hx hy
  case wrap =>
    intro f v hlow hhigh
    obtain ⟨hmin, hmax⟩ := wrapMv_bounds hlow hhigh
    exact ⟨hmin, hmax, wrapMv_sub_emod f v⟩

end Sys2Proof.Machine
end

section
/-! PROOFS. The codewords of the AC tables: the event of each row and escape (spec/42_vlc_coefficients.md R205 to R217). -/

namespace Sys2Proof.Machine

/-! ## Rows (R206, R207, R212) -/

/-- Where the window holds the sign bit, the row's event stands in `EV`. -/
theorem finishRow_fits {last : Bool} {run level : Nat} {s : State} (h : s.bp + 1 ≤ 8 * s.bslen) :
    finishRow last run level s = .ok () ((s.advance 1).setEv (rowEvent last run level (s.bit s.bp))) :=
  bind_apply_ok _ _ _ _ _ (readBit_bit h)

theorem RowCompletes.of_runAcRow {i : Instr} {n run level : Nat} {last : Bool}
    (hx : ∀ s, exec i s = runAcRow n last run level s) : RowCompletes i n last run level := fun s hs => by
  have hsign : finishRow last run level (s.advance n) = _ := finishRow_fits hs
  rw [hx, runAcRow, if_pos (by omega), bind_apply_ok _ _ _ _ _ hsign]
  rfl

/-- The rows of an AC table as an instruction, the length of its codeword, and its event. -/
def acEntries (t : AcSel) : List (Instr × Nat × Bool × Nat × Nat) :=
  t.rows.map fun r => (r.ctor, r.code.length, r.last, r.run, r.level)

theorem rowCompletes_of_entries {t : AcSel} {l : List (Instr × Nat × Bool × Nat × Nat)} (hl : l ⊆ acEntries t) :
    ∀ p ∈ l, RowCompletes p.1 p.2.1 p.2.2.1 p.2.2.2.1 (p.2.2.2.2 : Nat) := by
  intro p hp
  obtain ⟨r, hr, rfl⟩ := List.mem_map.1 (hl hp)
  obtain ⟨hx, -, -⟩ := acRowFacts t r hr
  exact .of_runAcRow hx

/-- Settles O4: the four lists are the two tables, each cut after its row 50. -/
theorem acTableRowsWriteTheirEvent : Obligations.AcTableRowsWriteTheirEvent :=
  ⟨rowCompletes_of_entries (List.take_subset 51 (acEntries .intra)), rowCompletes_of_entries (List.drop_subset 51 (acEntries .intra)),
    rowCompletes_of_entries (List.take_subset 51 (acEntries .inter)), rowCompletes_of_entries (List.drop_subset 51 (acEntries .inter))⟩

/-! ## Escapes (R213, R214, R217) -/

/-- The largest value of `f` over the elements that `p` keeps, taken in one pass or from the list of these values. -/
theorem foldl_max_eq_largest {α : Type} (p : α → Bool) (f : α → Nat) (l : List α) :
    l.foldl (fun m a => if p a then max m (f a) else m) 0 = largest ((l.filter p).map f) := by
  rw [largest, List.foldl_map, List.foldl_filter]

/-- `LMAX` (R208). -/
theorem lmax_eq_largestLevel (t : AcSel) (last : Bool) (run : Nat) : lmax t last run = largestLevel t last run := by
  rw [largestLevel, ← foldl_max_eq_largest]
  simp only [Bool.and_eq_true, beq_iff_eq]
  rfl

/-- `RMAX` (R209). -/
theorem rmax_eq_largestRun (t : AcSel) (last : Bool) (level : Nat) : rmax t last level = largestRun t last level := by
  rw [largestRun, ← foldl_max_eq_largest]
  simp only [Bool.and_eq_true, beq_iff_eq]
  rfl

theorem Completes.of_runEscape {i : Instr} {l : List Nat} {n : Nat} {e : Event} (hx : ∀ s, exec i s = runEscape l e s)
    (hl : l.sum = n) : Completes i n (fun s => { s with ev := e }) .none :=
  .of_runReads hx hl

/-- The level is enlarged by `LMAX` (R213). -/
theorem Completes.of_esc1 {i : Instr} {t : AcSel} {r : AcRow} {neg : Bool}
    (hx : ∀ s, exec i s = runEscape [7, 1, r.code.length, 1] (esc1Event t r neg) s) :
    Completes i (7 + 1 + r.code.length + 1) (fun s => { s with
      ev := ⟨r.last, r.run, if neg then -((r.level + largestLevel t r.last r.run : Nat) : Int)
        else ((r.level + largestLevel t r.last r.run : Nat) : Int)⟩ }) .none := by
  rw [← lmax_eq_largestLevel]
  exact .of_runEscape hx (by simp only [List.sum_cons, List.sum_nil]; omega)

/-- The run is enlarged by one more than `RMAX` (R214). -/
theorem Completes.of_esc2 {i : Instr} {t : AcSel} {r : AcRow} {neg : Bool}
    (hx : ∀ s, exec i s = runEscape [7, 1, 1, r.code.length, 1] (esc2Event t r neg) s) :
    Completes i (7 + 2 + r.code.length + 1) (fun s => { s with
      ev := ⟨r.last, r.run + largestRun t r.last r.level + 1, if neg then -(r.level : Int) else (r.level : Int)⟩ }) .none := by
  rw [← rmax_eq_largestRun]
  exact .of_runEscape hx (by simp only [List.sum_cons, List.sum_nil]; omega)

/-- Settles O5. -/
theorem acEscapesWriteTheirEvent : Obligations.AcEscapesWriteTheirEvent := by
  refine ⟨fun inner neg => ⟨?intra1, ?intra2⟩, fun last run level _ _ => ?intra3, fun inner neg => ⟨?inter1, ?inter2⟩,
    fun last run level _ _ => ?inter3⟩
  case intra1 | inter1 => exact .of_esc1 fun _ => rfl
  case intra2 | inter2 => exact .of_esc2 fun _ => rfl
  case intra3 | inter3 => exact .of_runEscape (fun _ => rfl) rfl

end Sys2Proof.Machine
end

section
/-! PROOFS. The read of an AC event and the loop over a block's events (spec/42_vlc_coefficients.md R212, R216). -/

namespace Sys2Proof.Machine

/-! ## The read of an event (R212) -/

theorem parse_ok {α : Type} {d : Dec α} {s : State} {v : α} {c : Cursor} (h : d ⟨s.ahead, 0⟩ = .ok v c) :
    parse d s = .ok v (s.advance c.used) := by
  rw [parse_apply, h]

theorem parse_error {α : Type} {d : Dec α} {s : State} {e : Reject} {c : Cursor} (h : d ⟨s.ahead, 0⟩ = .error e c) :
    parse d s = .error .invalidData (s.advance c.used) := by
  rw [parse_apply, h]

theorem acEvent_of_row {t : AcSel} {s : State} {r : AcRow} {c : Cursor} (h : parseAc t ⟨s.ahead, 0⟩ = .ok (.row r) c) :
    acEvent t s = finishRow r.last r.run r.level (s.advance c.used) :=
  bind_apply_ok _ _ _ _ _ (parse_ok h)

theorem acEvent_of_escape {t : AcSel} {s : State} {a : AcForm} {c : Cursor} (h : parseAc t ⟨s.ahead, 0⟩ = .ok a c)
    (ha : ∀ r, a ≠ .row r) : acEvent t s = .ok () ((s.advance c.used).setEv (AcForm.event t a)) := by
  obtain ⟨hrow, -, -⟩ := parseAc_ok h
  refine (bind_apply_ok _ _ _ _ _ (parse_ok h)).trans ?_
  cases a with
  | row r => exact absurd rfl (ha r)
  | esc1 r sign | esc2 r sign =>
    obtain ⟨-, hnum, -⟩ := acRowFacts t r hrow
    rw [AcForm.event, hnum]
    rfl
  | esc3 last run m1 level m2 => rfl

theorem AcForm.len_pos {t : AcSel} {a : AcForm} (h : AcForm.rowIn t a) : 0 < AcForm.len a := by
  cases a with
  | row r =>
    obtain ⟨-, -, hpos⟩ := acRowFacts t r h
    exact hpos
  | esc1 r sign | esc2 r sign => exact Nat.add_pos_left (by decide) _
  | esc3 last run m1 level m2 => exact Nat.succ_pos _

theorem AcForm.sum_reads (a : AcForm) : (AcForm.reads a).sum = AcForm.len a := by
  cases a <;> simp only [AcForm.reads, AcForm.len, List.sum_cons, List.sum_nil] <;> omega

/-- The bits of an instruction found at `BP` stand in the window. -/
theorem parseAc_fits {t : AcSel} {s : State} {a : AcForm} {c : Cursor} (h : parseAc t ⟨s.ahead, 0⟩ = .ok a c) :
    c.used = AcForm.len a ∧ s.bp + AcForm.len a ≤ 8 * s.bslen := by
  obtain ⟨hrow, hused, hlen⟩ := parseAc_ok h
  have hpos := AcForm.len_pos hrow
  simp only [State.ahead_length] at hlen
  exact ⟨by rw [hused, Nat.zero_add], by omega⟩

/-- A row found at `BP` runs as the read of the event does, sign bit and all. -/
theorem exec_row_of_parse {t : AcSel} {s : State} {r : AcRow} {c : Cursor} (h : parseAc t ⟨s.ahead, 0⟩ = .ok (.row r) c) :
    exec r.ctor s = outcomeOf ((do
      acEvent t
      pure Result.none : Act Result) s) := by
  obtain ⟨hrow, -, -⟩ := parseAc_ok h
  obtain ⟨hx, -, -⟩ := acRowFacts t r hrow
  obtain ⟨hused, hfits⟩ : c.used = r.code.length ∧ s.bp + r.code.length ≤ 8 * s.bslen := parseAc_fits h
  rw [hx, runAcRow, if_pos hfits, bind_apply_congr _ (acEvent_of_row h), hused]

/-- An escape found at `BP` runs as the read of the event does. -/
theorem exec_escape_of_parse {t : AcSel} {s : State} {a : AcForm} {c : Cursor} (h : parseAc t ⟨s.ahead, 0⟩ = .ok a c)
    (ha : ∀ r, a ≠ .row r) : exec (a.instr t) s = outcomeOf ((do
      acEvent t
      pure Result.none : Act Result) s) := by
  obtain ⟨hrow, -, -⟩ := parseAc_ok h
  obtain ⟨-, -, -, hreads⟩ := Written.of_acForm t a hrow
  obtain ⟨hused, hfits⟩ := parseAc_fits h
  rw [exec_escape t a ha, hreads, runReads, AcForm.sum_reads, if_pos hfits, bind_apply_ok _ _ _ _ _ (acEvent_of_escape h ha),
    hused]
  rfl

theorem exec_of_parseAc {t : AcSel} {s : State} {a : AcForm} {c : Cursor} (h : parseAc t ⟨s.ahead, 0⟩ = .ok a c) :
    exec (a.instr t) s = outcomeOf ((do
      acEvent t
      pure Result.none : Act Result) s) := by
  cases a with
  | row r => cases t <;> exact exec_row_of_parse (r := r) h
  | _ => exact exec_escape_of_parse h (fun _ hr => by cases hr)

/-- Reading a block hands nothing back. -/
theorem State.SameButRead.outputs {s u : State} (h : s.SameButRead u) : u.status = s.status ∧ u.result = s.result := by
  rw [State.SameButRead] at h
  rw [h]
  exact ⟨rfl, rfl⟩

/-- An operation that hands back nothing and ends as the instruction found at `BP` does is its read. -/
theorem State.ReadBy.of_outcome {s : State} {t : Table} {a : Act Unit} {i : Instr} {n : Nat} (hd : decode t s.ahead = .ok i n)
    (ha : Act.Rel State.SameButRead a) (hx : exec i s = outcomeOf ((do
      a
      pure Result.none : Act Result) s)) : s.ReadBy t a fun _ => .none := by
  have hsame := ha s
  cases hs : a s with
  | ok v u =>
    rw [hs] at hsame
    obtain ⟨hstatus, hresult⟩ := hsame.outputs
    rw [bind_apply_ok _ _ _ _ _ hs] at hx
    exact readBy_ok (fun _ _ _ => rfl) hd hs hx hstatus hresult
  | error e u =>
    rw [hs] at hsame
    obtain ⟨hstatus, hresult⟩ := hsame.outputs
    rw [bind_apply_error _ _ _ _ _ hs] at hx
    exact readBy_error hd hs ⟨hx, hstatus, hresult⟩

theorem readBy_acEvent (t : AcSel) (s : State) : s.ReadBy (acTable t) (acEvent t) fun _ => .none := by
  have hdec := decode_of_read (d := parseAc t) (f := AcForm.instr t) (t := acTable t) (by cases t <;> rfl) s.ahead
  cases h : parseAc t ⟨s.ahead, 0⟩ with
  | ok a c =>
    rw [h] at hdec
    exact .of_outcome hdec (acEvent_read t) (exec_of_parseAc h)
  | error e c =>
    rw [h] at hdec
    rw [State.ReadBy, hdec]
    exact bind_apply_error _ _ _ _ _ (parse_error h)

/-! ## The loop (R216) -/

section

variable {t : AcSel} {scan : Scan} {start : Nat} {s u : State}

/-- An event inside the block is placed; a last one ends the block, and any other goes on behind it. -/
theorem decodeAc_inside (h : acEvent t s = .ok () u) (hp : start + u.ev.run < 64) :
    decodeAc t start scan s = if u.ev.last then .ok () (u.placeLevel scan ⟨start + u.ev.run, hp⟩)
      else decodeAc t (start + u.ev.run + 1) scan (u.placeLevel scan ⟨start + u.ev.run, hp⟩) := by
  rw [decodeAc, acLoop_succ, h]
  dsimp only
  rw [dif_pos hp, decodeAc, acLoop_fuel t scan 64 65 _ _ (by decide) (by decide) (by omega) (by omega)]

/-- An event past the block is an error, and no level is written. -/
theorem decodeAc_outside (h : acEvent t s = .ok () u) (hp : 63 < start + u.ev.run) :
    decodeAc t start scan s = .error .invalidData u := by
  rw [decodeAc, acLoop_succ, h]
  exact dif_neg (by omega)

/-- An event that cannot be read ends the block. -/
theorem decodeAc_unread {e : Kind} (h : acEvent t s = .error e u) : decodeAc t start scan s = .error e u := by
  rw [decodeAc, acLoop_succ, h]

end

/-- Settles O22. -/
theorem acLoopPlacesEventsAndStops : Obligations.AcLoopPlacesEventsAndStops := by
  refine ⟨fun t scan start s u h => ⟨fun hp => ⟨fun hlast => ?last, fun hlast => ?more⟩, decodeAc_outside h⟩,
    fun t scan start s u e => decodeAc_unread, readBy_acEvent⟩
  case last => exact (decodeAc_inside h hp).trans (if_pos hlast)
  case more => exact (decodeAc_inside h hp).trans (if_neg (by simp [hlast]))

end Sys2Proof.Machine
end

section
/-! PROOFS. The dequantizer and the mismatch control (spec/43_dequant.md). -/

namespace Sys2Proof.Machine

/-! ## The algorithms, in the words of the statements (R241, R242, R244, R245) -/

theorem h263Intra_eq (p : Params) (qp : Nat) (v : Int) : h263Intra p qp v = saturated p (2 * qp * v) := by
  rw [h263Intra, sat_eq]
  congr 1
  ring

theorem h263Inter_eq (p : Params) (qp : Nat) (v : Int) :
    h263Inter p qp v = saturated p (2 * qp * v +
      (if 0 < v then (if qp % 2 = 1 then (qp : Int) else qp - 1) else -(if qp % 2 = 1 then (qp : Int) else qp - 1))) := by
  have hprod : v * 2 * qp = 2 * qp * v := by ring
  simp only [h263Inter, sat_eq, hprod, gt_iff_lt, sub_eq_add_neg]
  split <;> rfl

/-- `sgn(p) * (|p| >> 4)` is the quotient toward zero. -/
theorem sign_mul_asr_natAbs (x : Int) : x.sign * asr x.natAbs 4 = x.tdiv 16 := by
  unfold asr
  rcases lt_trichotomy x 0 with hneg | rfl | hpos
  · obtain ⟨y, rfl⟩ : ∃ y, x = -y := ⟨-x, by omega⟩
    rw [Int.sign_eq_neg_one_of_neg hneg, Int.neg_tdiv, Int.tdiv_eq_ediv_of_nonneg (by omega)]
    omega
  · rfl
  · rw [Int.sign_eq_one_of_pos hpos, Int.tdiv_eq_ediv_of_nonneg (by omega)]
    omega

theorem mpegIntra_floor {p : Params} (h : p.mpegIntraShift = .floor) (qp m : Nat) (v : Int) :
    mpegIntra p qp m v = saturated p ((v * qp * m).fdiv 16) := by
  simp only [mpegIntra, h, sat_eq, asr]
  rw [Int.fdiv_eq_ediv_of_nonneg _ (by decide)]
  rfl

theorem mpegIntra_towardZero {p : Params} (h : p.mpegIntraShift = .towardZero) (qp m : Nat) (v : Int) :
    mpegIntra p qp m v = saturated p ((v * qp * m).tdiv 16) := by
  simp only [mpegIntra, h, sat_eq, sign_mul_asr_natAbs]

/-- The limit holds whatever `H263_SATURATE` (R245). -/
theorem mpegInter_eq (qp m : Nat) (v : Int) :
    mpegInter qp m v =
      if 0 < v then min (((2 * (v.natAbs : Int) + 1) * m * qp) / 16) 2047
      else -(min (((2 * (v.natAbs : Int) + 1) * m * qp) / 16) 2048) := rfl

/-! ## One coefficient (R240) -/

theorem State.dequantLevel_h263 {s : State} (hq : s.vol.quantType = .h263) (intra : Bool) (i : Fin 64) :
    s.dequantLevel intra i =
      if s.qf[i] = 0 then 0
      else if intra = true then h263Intra s.params s.qp s.qf[i]
      else h263Inter s.params s.qp s.qf[i] := by
  simp only [State.dequantLevel, hq]

theorem State.dequantLevel_mpeg {s : State} (hq : s.vol.quantType = .mpeg) (intra : Bool) (i : Fin 64) :
    s.dequantLevel intra i =
      if s.qf[i] = 0 then 0
      else if intra = true then mpegIntra s.params s.qp s.qmIntra[i] s.qf[i]
      else mpegInter s.qp s.qmInter[i] s.qf[i] := by
  simp only [State.dequantLevel, hq]

/-! ## Mismatch control (R247) -/

theorem oddParity_iff (f : Vector Int 64) : oddParity f = true ↔ f.toList.sum % 2 = 1 := by
  rw [oddParity, decide_eq_true_iff, List.sum_eq_foldl]

theorem flipBit0_emod_two (x : Int) : flipBit0 x % 2 = (x + 1) % 2 := by
  unfold flipBit0
  split <;> omega

/-- What the mismatch control makes of the coefficients. -/
def oddCoefs (f : Vector Int 64) : Vector Int 64 := if oddParity f then f else f.set 63 (flipBit0 f[63])

theorem oddCoefs_of_odd {f : Vector Int 64} (h : f.toList.sum % 2 = 1) : oddCoefs f = f :=
  if_pos ((oddParity_iff f).2 h)

theorem oddCoefs_of_even {f : Vector Int 64} (h : f.toList.sum % 2 = 0) : oddCoefs f = f.set 63 (flipBit0 f[63]) :=
  if_neg (by rw [oddParity_iff]; omega)

theorem State.mismatch_eq (s : State) : s.mismatch = { s with coef := oddCoefs s.coef } := by
  rw [State.mismatch, oddCoefs]
  split <;> rfl

/-- Flipping the lowest bit of one coefficient changes the parity of the sum. -/
theorem sum_set_flipBit0 (f : Vector Int 64) : (f.set 63 (flipBit0 f[63])).toList.sum % 2 = (f.toList.sum + 1) % 2 := by
  have hsum : (f.set 63 (flipBit0 f[63])).toList.sum = f.toList.sum + (-f[63] + flipBit0 f[63]) := by
    rw [Vector.toList_set, List.sum_set', dif_pos (by simp), Vector.getElem_toList]
  have hflip := flipBit0_emod_two f[63]
  omega

theorem oddCoefs_sum (f : Vector Int 64) : (oddCoefs f).toList.sum % 2 = 1 := by
  obtain heven | hodd := Int.emod_two_eq_zero_or_one f.toList.sum
  · rw [oddCoefs_of_even heven, sum_set_flipBit0]
    omega
  · rw [oddCoefs_of_odd hodd]
    exact hodd

theorem oddCoefs_getElem (f : Vector Int 64) (i : Fin 64) (h : i.val < 63) : (oddCoefs f)[i] = f[i] := by
  unfold oddCoefs
  split
  · rfl
  · exact Vector.getElem_set_ne (by decide) i.isLt (by omega)

theorem oddCoefs_last (f : Vector Int 64) :
    (oddCoefs f)[63] = f[63] ∨ (f[63] % 2 = 0 ∧ (oddCoefs f)[63] = f[63] + 1)
      ∨ (f[63] % 2 = 1 ∧ (oddCoefs f)[63] = f[63] - 1) := by
  unfold oddCoefs
  split
  · exact .inl rfl
  · rw [Vector.getElem_set_self, flipBit0]
    split <;> omega

/-! ## `DEQUANT` and `MISMATCH` (R240, R247) -/

theorem exec_mismatch {s : State} (ho : s.opened = true) :
    exec .mismatch s = .next { s with coef := oddCoefs s.coef, status := .ok, result := .none } := by
  rw [exec_of_opened (i := .mismatch) rfl ho rfl, s.mismatch_eq]

/-- Where the mismatch control does not run. -/
theorem exec_dequant_of_no_mismatch {s : State} {intra : Bool} (ho : s.opened = true)
    (h : s.vol.quantType = .h263 ∨ intra = true) :
    exec (.dequant intra) s = .next { s with
      coef := Vector.ofFn (fun i : Fin 64 =>
        if intra = true ∧ i.val = 0 then s.coef[i] else s.dequantLevel intra i)
      status := .ok
      result := .none } := by
  have hskip : ¬(decide (s.vol.quantType = .mpeg) && !intra) = true := by
    obtain hq | rfl := h <;> simp [*]
  rw [exec_of_opened (i := .dequant intra) rfl ho rfl, State.dequant, if_neg hskip]
  simp only [Bool.and_eq_true, decide_eq_true_eq]

/-- An inter block with MPEG quantization. -/
theorem exec_dequant_mpegInter {s : State} (ho : s.opened = true) (hq : s.vol.quantType = .mpeg) :
    exec (.dequant false) s = .next { s with
      coef := oddCoefs (Vector.ofFn (s.dequantLevel false)), status := .ok, result := .none } := by
  rw [exec_of_opened (i := .dequant false) rfl ho rfl, State.dequant, if_pos (by simp [hq]), State.mismatch_eq]
  simp only [Bool.false_and, Bool.false_eq_true, if_false]

/-- Settles O13: the mismatch control does not run, and each level goes by its H.263 algorithm. -/
theorem dequantH263 : Obligations.DequantH263 := by
  intro intra s ho hq
  rw [exec_dequant_of_no_mismatch ho (.inl hq)]
  simp only [State.dequantLevel_h263 hq, h263Intra_eq, h263Inter_eq]

/-- Settles O14: an intra block by its shift mode, an inter block by its levels and the mismatch control behind them, and
the mismatch control alone by the parity of the sum. -/
theorem dequantMpegWithMismatch : Obligations.DequantMpegWithMismatch := by
  refine ⟨fun s ho hq => ?intra, fun s ho hq => ⟨_, exec_dequant_mpegInter ho hq, oddCoefs_sum _, fun i => ?inter⟩,
    fun s ho => ⟨fun hodd => ?odd, fun heven => ?even⟩⟩
  case intra =>
    rw [exec_dequant_of_no_mismatch ho (.inr rfl)]
    cases hshift : s.params.mpegIntraShift with
    | floor => simp only [State.dequantLevel_mpeg hq, mpegIntra_floor hshift, true_and, if_true]
    | towardZero => simp only [State.dequantLevel_mpeg hq, mpegIntra_towardZero hshift, true_and, if_true]
  case inter =>
    intro m x
    have hx : (Vector.ofFn (s.dequantLevel false))[i] = x := by
      simp only [Fin.getElem_fin, Vector.getElem_ofFn, State.dequantLevel_mpeg hq, mpegInter_eq, Bool.false_eq_true, if_false,
        x, m]
    refine ⟨fun h => (oddCoefs_getElem _ i h).trans hx, fun h => ?_⟩
    obtain rfl : i = 63 := Fin.ext h
    exact hx ▸ oddCoefs_last _
  case odd => exact (exec_mismatch ho).trans (by rw [oddCoefs_of_odd hodd])
  case even =>
    rw [exec_mismatch ho, oddCoefs_of_even heven]
    rfl

end Sys2Proof.Machine
end

section
/-! PROOFS. The inverse transform (spec/44_idct.md). -/

namespace Sys2Proof.Machine

/-! ## The two passes (R260) -/

@[simp] theorem row8_at8 (r c : Fin 8) : row8 (at8 r c) = r := by
  ext
  simp only [row8, at8]
  omega

@[simp] theorem col8_at8 (r c : Fin 8) : col8 (at8 r c) = c := by
  ext
  simp only [col8, at8]
  omega

/-- Every raster index is one of a row and a column. -/
theorem exists_at8 (i : Fin 64) : ∃ r c, at8 r c = i := by
  refine ⟨row8 i, col8 i, Fin.ext ?_⟩
  simp only [at8, row8, col8]
  omega

theorem dot8_eq_sum (n : Fin 8) (g : Fin 8 → Int) :
    dot8 n g = ((List.finRange 8).map (fun k => idctMatrix[k][n] * g k)).sum := by
  simp [dot8, List.finRange_succ, add_assoc]

theorem idctRows_at8 (f : Vector Int 64) (r n : Fin 8) :
    (idctRows f)[at8 r n] = (dot8 n (fun k => f[at8 r k]) + 2 ^ 10) / 2 ^ 11 := by
  simp only [idctRows, Fin.getElem_fin, Vector.getElem_ofFn, Fin.eta, row8_at8, col8_at8]
  rfl

theorem idctCols_at8 (t : Vector Int 64) (n c : Fin 8) :
    (idctCols t)[at8 n c] = (dot8 n (fun k => t[at8 k c]) + 2 ^ 19) / 2 ^ 20 := by
  simp only [idctCols, Fin.getElem_fin, Vector.getElem_ofFn, Fin.eta, row8_at8, col8_at8]
  rfl

/-! ## The block with one coefficient (R263, R264) -/

/-- Every entry of the matrix's first row is `W4`. -/
theorem idctMatrix_zero (n : Fin 8) : idctMatrix[0][n] = 16384 := by
  revert n
  decide

/-- Without AC terms a product is the DC term times `W4`. -/
theorem dot8_of_dc (n : Fin 8) {g : Fin 8 → Int} (h : ∀ k, k ≠ 0 → g k = 0) : dot8 n g = 16384 * g 0 := by
  simp (disch := decide) only [dot8, idctMatrix_zero, h, mul_zero, add_zero]

theorem idctRows_of_dc {f : Vector Int 64} {r : Fin 8} (h : ∀ k, k ≠ 0 → f[at8 r k] = 0) (n : Fin 8) :
    (idctRows f)[at8 r n] = 8 * f[at8 r 0] := by
  rw [idctRows_at8, dot8_of_dc n h]
  omega

theorem idctCols_of_dc {t : Vector Int 64} {c : Fin 8} (h : ∀ k, k ≠ 0 → t[at8 k c] = 0) (n : Fin 8) :
    (idctCols t)[at8 n c] = (t[at8 0 c] + 32) / 64 := by
  rw [idctCols_at8, dot8_of_dc n h]
  omega

/-- Row 0 of the row pass holds `8 * F[0]` and the other rows zero, so every column is a column with its DC term alone. -/
theorem idct_of_dc {f : Vector Int 64} (h : ∀ i : Fin 64, i.val ≠ 0 → f[i] = 0) (i : Fin 64) :
    (idctCols (idctRows f))[i] = (f[0] + 4) / 8 := by
  have hzero (r k : Fin 8) (hrk : r ≠ 0 ∨ k ≠ 0) : f[at8 r k] = 0 := h _ (by simp only [at8]; omega)
  have hrow (r c : Fin 8) : (idctRows f)[at8 r c] = 8 * f[at8 r 0] := idctRows_of_dc (fun k hk => hzero r k (.inr hk)) c
  have hcol (k c : Fin 8) (hk : k ≠ 0) : (idctRows f)[at8 k c] = 0 := by rw [hrow, hzero k 0 (.inl hk), mul_zero]
  obtain ⟨n, c, rfl⟩ := exists_at8 i
  calc (idctCols (idctRows f))[at8 n c]
      = ((idctRows f)[at8 0 c] + 32) / 64 := idctCols_of_dc (fun k => hcol k c) n
    _ = (8 * f[0] + 32) / 64 := by rw [hrow]; rfl
    _ = (f[0] + 4) / 8 := by omega

/-! ## `IDCT` -/

theorem exec_idct {s : State} (ho : s.opened = true) :
    exec .idct s = .next { s with residual := idctCols (idctRows s.coef), status := .ok, result := .none } := by
  rw [exec_of_opened (i := .idct) rfl ho rfl, State.idct]

/-- Settles O15: the operation's value is the two passes, each of which is its matrix product. -/
theorem idctIsTheMatrixProduct : Obligations.IdctIsTheMatrixProduct := by
  intro s ho t
  refine ⟨idctCols (idctRows s.coef), exec_idct ho, fun n c => ?product, idct_of_dc⟩
  case product => simp only [idctCols_at8, idctRows_at8, dot8_eq_sum, t]

end Sys2Proof.Machine
end

section
/-! PROOFS. The predictor cache and intra prediction (spec/45_intra_prediction.md), and the reconstruction of a sample
(spec/46_macroblock.md R322). -/

namespace Sys2Proof.Machine

/-! ## Commands on the macroblock `MBK` (R27) -/

section

variable {i : Instr} {s t : State} {f : State → EStateM.Result Kind State Result} {r : Result}

/-- `exec_of_opened` for a command on a macroblock of the frame. -/
theorem exec_of_opened_onMacroblock (hx : exec i s = runOnMacroblock s.mbk (Act.of f) s) (ho : s.opened = true)
    (hk : s.mbk < s.mbCount) (hf : f s = .ok r t) : exec i s = .next { t with status := .ok, result := r } := by
  rw [hx, runOnMacroblock_opened _ _ s ho hk, Act.of_apply, hf]
  rfl

/-- `exec_of_opened_onMacroblock` for an operation that leaves the state as it is. -/
theorem answers_of_opened_onMacroblock (hx : exec i s = runOnMacroblock s.mbk (Act.of f) s) (ho : s.opened = true)
    (hk : s.mbk < s.mbCount) (hf : f s = .ok r s) : Answers i s r :=
  exec_of_opened_onMacroblock hx ho hk hf

end

/-! ## Slots and neighbours (R30, R283, R284) -/

theorem State.pcIndex_mbX_mbY (s : State) (k b : Nat) : s.pcIndex (s.mbX k) (s.mbY k) b = 6 * k + b := by
  rw [State.pcIndex, State.mbY_mul_add_mbX, Nat.mul_comm]

/-- Block `i` of macroblock `m`, where it lies in the frame and is intra, and the defaults of R284 elsewhere. -/
def State.intraNeighbour (s : State) (inside : Prop) [Decidable inside] (m i : Nat) : Neighbour :=
  let info := s.mbi.getD m MbInfo.reset
  if inside ∧ (info.mode = .intra ∨ info.mode = .intraQ) then ⟨s.pc.getD (6 * m + i) PcSlot.zero, info.quant⟩
  else s.noNeighbour

/-- A neighbour by its column and row is the one by its number, where both lie in the frame. -/
theorem State.outerNeighbour_eq_intraNeighbour {s : State} {inside : Bool} {p : Prop} [Decidable p] {x y m : Nat} (i : Nat)
    (hin : inside = true ↔ p) (hm : p → y * s.mbw + x = m) : s.outerNeighbour inside x y i = s.intraNeighbour p m i := by
  unfold State.outerNeighbour State.intraNeighbour State.pcIndex
  by_cases h : p
  · simp only [hm h, hin.2 h, h, Bool.true_and, true_and, isIntraMode_iff, Nat.mul_comm m 6]
  · simp only [mt hin.1 h, h, Bool.and_eq_true, Bool.false_eq_true, false_and, if_false]

section

variable {s : State} {k : Nat}

theorem State.one_le_mbX_iff (s : State) (k : Nat) : 1 ≤ s.mbX k ↔ k % s.mbw ≠ 0 := Nat.one_le_iff_ne_zero

theorem State.leftNeighbour_eq (s : State) (k i : Nat) :
    s.outerNeighbour (decide (1 ≤ s.mbX k)) (s.mbX k - 1) (s.mbY k) i = s.intraNeighbour (k % s.mbw ≠ 0) (k - 1) i :=
  State.outerNeighbour_eq_intraNeighbour i (by rw [decide_eq_true_iff, State.one_le_mbX_iff]) fun h => by
    rw [← Nat.add_sub_assoc ((s.one_le_mbX_iff k).2 h), State.mbY_mul_add_mbX]

theorem State.aboveNeighbour_eq (hk : k < s.mbCount) (i : Nat) :
    s.outerNeighbour (decide (1 ≤ s.mbY k)) (s.mbX k) (s.mbY k - 1) i = s.intraNeighbour (s.mbw ≤ k) (k - s.mbw) i :=
  State.outerNeighbour_eq_intraNeighbour i (by rw [decide_eq_true_iff, State.one_le_mbY_iff hk]) fun h =>
    State.rowAbove_add ((State.one_le_mbY_iff hk).2 h)

theorem State.aboveLeftNeighbour_eq (hk : k < s.mbCount) (i : Nat) :
    s.outerNeighbour (decide (1 ≤ s.mbX k) && decide (1 ≤ s.mbY k)) (s.mbX k - 1) (s.mbY k - 1) i
      = s.intraNeighbour (k % s.mbw ≠ 0 ∧ s.mbw ≤ k) (k - s.mbw - 1) i :=
  State.outerNeighbour_eq_intraNeighbour i
    (by rw [Bool.and_eq_true, decide_eq_true_iff, decide_eq_true_iff, State.one_le_mbX_iff, State.one_le_mbY_iff hk])
    fun h => by
      rw [← Nat.add_sub_assoc ((s.one_le_mbX_iff k).2 h.1), State.rowAbove_add ((State.one_le_mbY_iff hk).2 h.2)]

theorem State.innerNeighbour_eq (s : State) (k i : Nat) :
    s.innerNeighbour k i = ⟨s.pc.getD (6 * k + i) PcSlot.zero, s.qp⟩ := by
  rw [State.innerNeighbour, State.pcIndex_mbX_mbY]

/-- R283's table, with the neighbours by their numbers. -/
theorem State.intraNeighbours_eq (hk : k < s.mbCount) :
    let own (i : Nat) : Neighbour := ⟨s.pc.getD (6 * k + i) PcSlot.zero, s.qp⟩
    let left := s.intraNeighbour (k % s.mbw ≠ 0) (k - 1)
    let above := s.intraNeighbour (s.mbw ≤ k) (k - s.mbw)
    let aboveLeft := s.intraNeighbour (k % s.mbw ≠ 0 ∧ s.mbw ≤ k) (k - s.mbw - 1)
    s.intraNeighbours k 0 = (left 1, aboveLeft 3, above 2)
    ∧ s.intraNeighbours k 1 = (own 0, above 2, above 3)
    ∧ s.intraNeighbours k 2 = (left 3, left 1, own 0)
    ∧ s.intraNeighbours k 3 = (own 2, own 0, own 1)
    ∧ s.intraNeighbours k 4 = (left 4, aboveLeft 4, above 4)
    ∧ s.intraNeighbours k 5 = (left 5, aboveLeft 5, above 5) := by
  simp only [← State.leftNeighbour_eq, ← State.aboveNeighbour_eq hk, ← State.aboveLeftNeighbour_eq hk,
    ← State.innerNeighbour_eq]
  exact ⟨rfl, rfl, rfl, rfl, rfl, rfl⟩

end

/-- Settles O16: each neighbour by its column and row is the one by its number, and the table is the model's. -/
theorem intraNeighbourTable : Obligations.IntraNeighbourTable := fun _ _ hk => State.intraNeighbours_eq hk

/-! ## `DC_PREDICT` (R285) -/

theorem answers_dcPredict {b : Fin 6} {s : State} (ho : s.opened = true) (hk : s.mbk < s.mbCount) :
    Answers (.dcPredict b) s
      (.prediction (s.dcPredict s.mbk b).dir (s.dcPredict s.mbk b).pr (s.dcPredict s.mbk b).nb.slot) :=
  answers_of_opened_onMacroblock rfl ho hk rfl

section

variable {s : State} {k : Nat} {b : Fin 6} {A B C : Neighbour}

theorem State.dcPredict_vertical (hn : s.intraNeighbours k b = (A, B, C))
    (h : (A.slot.dc - B.slot.dc).natAbs < (B.slot.dc - C.slot.dc).natAbs) :
    s.dcPredict k b = ⟨.vertical, C.slot.dc, C⟩ := by
  simp only [State.dcPredict, hn, if_pos h]

theorem State.dcPredict_horizontal (hn : s.intraNeighbours k b = (A, B, C))
    (h : (B.slot.dc - C.slot.dc).natAbs ≤ (A.slot.dc - B.slot.dc).natAbs) :
    s.dcPredict k b = ⟨.horizontal, A.slot.dc, A⟩ := by
  simp only [State.dcPredict, hn, if_neg (Nat.not_lt.2 h)]

end

/-- Settles O17, by which of the two differences is smaller; a tie is horizontal. -/
theorem dcPredictChoosesDirection : Obligations.DcPredictChoosesDirection := by
  intro b s ho hk n a bb c
  have hanswer := answers_dcPredict (b := b) ho hk
  refine ⟨fun habove => ?_, fun hleft => ?_⟩
  · rwa [State.dcPredict_vertical rfl habove] at hanswer
  · rwa [State.dcPredict_horizontal rfl hleft] at hanswer

/-! ## `DC_RECON` (R282, R286) -/

theorem dcScaler_isDcScale (luma : Bool) (qp : Nat) : IsDcScale luma qp (dcScaler luma qp) := by
  unfold IsDcScale dcScaler
  refine ⟨fun h => if_pos h, fun hluma => ?luma, fun hchroma => ?chroma⟩
  case luma =>
    rw [if_pos hluma]
    split_ifs <;> omega
  case chroma =>
    rw [hchroma, if_neg Bool.false_ne_true]
    split_ifs <;> omega

theorem dcScaler_ne_zero (luma : Bool) (qp : Nat) : dcScaler luma qp ≠ 0 := by
  unfold dcScaler
  split_ifs <;> omega

theorem exec_dcRecon {b : Fin 6} {diff pr : Int} {s : State} (ho : s.opened = true) :
    exec (.dcRecon b diff pr) s = .next { s.dcRecon b diff pr with status := .ok, result := .none } :=
  exec_of_opened rfl ho rfl

/-- Settles O18: the scaler is never zero, so `//` by it is the nearest quotient. -/
theorem dcReconScalesAndClamps : Obligations.DcReconScalesAndClamps := by
  intro b diff pr s ho _ _
  refine ⟨dcScaler (isLuma b) s.qp, roundDiv pr (dcScaler (isLuma b) s.qp), dcScaler_isDcScale _ _,
    roundDiv_nearest _ _ (dcScaler_ne_zero _ _), ?_⟩
  rw [exec_dcRecon ho, State.dcRecon]
  simp only [clampCoef_eq]

/-! ## `AC_PREDICT` (R287) -/

theorem rescale_rescaled (p : Int) (qn : Nat) {qc : Nat} (h : qc ≠ 0) : Rescaled p qn qc (rescale p qn qc) := by
  refine ⟨fun heq => if_pos heq, fun hne => ?_⟩
  rw [rescale, if_neg hne]
  exact roundDiv_nearest _ _ h

section

variable {n : Neighbour} {qp : Nat}

/-- The levels after the first of the first row. -/
theorem acPredictor_vertical (j : Fin 7) :
    acPredictor .vertical n qp ⟨j.val + 1, by omega⟩ = some (rescale n.slot.row[j] n.quant qp) :=
  dif_pos ⟨Nat.succ_pos _, j.isLt⟩

theorem acPredictor_vertical_eq_none {i : Fin 64} (h : i.val = 0 ∨ 8 ≤ i.val) : acPredictor .vertical n qp i = none :=
  dif_neg (by omega)

/-- The levels below the first of the first column. -/
theorem acPredictor_horizontal (j : Fin 7) :
    acPredictor .horizontal n qp ⟨8 * (j.val + 1), by omega⟩ = some (rescale n.slot.col[j] n.quant qp) := by
  have hrow : 8 * (j.val + 1) / 8 - 1 = j.val := by omega
  simp only [acPredictor]
  rw [dif_pos (by omega)]
  simp only [hrow, Fin.getElem_fin]

theorem acPredictor_horizontal_eq_none {i : Fin 64} (h : i.val = 0 ∨ i.val % 8 ≠ 0) :
    acPredictor .horizontal n qp i = none :=
  dif_neg (by omega)

end

section

variable {s : State} {d : Direction} {n : Neighbour} {i : Fin 64}

theorem State.acPredict_eq_self (h : s.mb.acPred = false) : s.acPredict d n = s := by
  rw [State.acPredict, h]
  rfl

theorem State.acPredict_eq (s : State) (d : Direction) (n : Neighbour) :
    s.acPredict d n = { s with qf := (s.acPredict d n).qf } := by
  unfold State.acPredict
  split <;> rfl

theorem State.acPredict_qf_of_some {p : Int} (h : s.mb.acPred = true) (hp : acPredictor d n s.qp i = some p) :
    (s.acPredict d n).qf[i] = within (-2048) 2047 (s.qf[i] + p) := by
  simp only [State.acPredict, h, if_true, State.setQf, Fin.getElem_fin, Vector.getElem_ofFn, Fin.eta, hp, clampCoef_eq]

theorem State.acPredict_qf_of_none (hp : acPredictor d n s.qp i = none) : (s.acPredict d n).qf[i] = s.qf[i] := by
  unfold State.acPredict
  split
  · simp only [State.setQf, Fin.getElem_fin, Vector.getElem_ofFn, Fin.eta, hp]
  · rfl

end

theorem exec_acPredict {b : Fin 6} {s : State} (ho : s.opened = true) (hk : s.mbk < s.mbCount) :
    exec (.acPredict b) s = .next { s.acPredict (s.dcPredict s.mbk b).dir (s.dcPredict s.mbk b).nb with
      status := .ok, result := .none } :=
  exec_of_opened_onMacroblock rfl ho hk rfl

/-- Settles O19, by the direction: what is added at each index is `acPredictor`'s value there. -/
theorem acPredictAddsRowOrColumn : Obligations.AcPredictAddsRowOrColumn := by
  intro b s ho hk hqp
  refine ⟨fun hoff => ?off, fun hon => ?on⟩
  case off => exact (exec_acPredict ho hk).trans (by rw [State.acPredict_eq_self hoff])
  case on =>
    intro p
    have hqp : s.qp ≠ 0 := by omega
    refine ⟨(s.acPredict p.dir p.nb).qf, ?_, fun hdir => ?_, fun hdir => ?_⟩
    · rw [exec_acPredict ho hk, State.acPredict_eq]
    · rw [hdir]
      exact ⟨fun j => ⟨_, rescale_rescaled _ _ hqp, State.acPredict_qf_of_some hon (acPredictor_vertical j)⟩,
        fun i hi => State.acPredict_qf_of_none (acPredictor_vertical_eq_none hi)⟩
    · rw [hdir]
      exact ⟨fun j => ⟨_, rescale_rescaled _ _ hqp, State.acPredict_qf_of_some hon (acPredictor_horizontal j)⟩,
        fun i hi => State.acPredict_qf_of_none (acPredictor_horizontal_eq_none hi)⟩

/-! ## `PC_UPDATE` (R288) -/

/-- The slot of the block in `F` and `QF`: its DC coefficient, and its first row and column of levels (R288). -/
def State.blockSlot (s : State) : PcSlot :=
  ⟨s.coef[0], Vector.ofFn fun j : Fin 7 => s.qf[j.val + 1], Vector.ofFn fun j : Fin 7 => s.qf[8 * (j.val + 1)]⟩

theorem State.blockSlot_row (s : State) (j : Fin 7) : s.blockSlot.row[j] = s.qf[j.val + 1] := Vector.getElem_ofFn _

theorem State.blockSlot_col (s : State) (j : Fin 7) : s.blockSlot.col[j] = s.qf[8 * (j.val + 1)] := Vector.getElem_ofFn _

theorem State.pcUpdate_eq (s : State) (k : Nat) (b : Fin 6) :
    s.pcUpdate k b = { s with pc := s.pc.set (6 * k + b.val) s.blockSlot } := by
  rw [State.pcUpdate, State.pcIndex_mbX_mbY]
  rfl

theorem exec_pcUpdate {b : Fin 6} {s : State} (ho : s.opened = true) (hk : s.mbk < s.mbCount) :
    exec (.pcUpdate b) s = .next { s with
      pc := s.pc.set (6 * s.mbk + b.val) s.blockSlot, status := .ok, result := .none } := by
  rw [exec_of_opened_onMacroblock (i := .pcUpdate b) rfl ho hk rfl, State.pcUpdate_eq]

/-- Settles O20: the slot's index lies in the cache, and a write of a list changes that one element. -/
theorem pcUpdateWritesItsOwnSlot : Obligations.PcUpdateWritesItsOwnSlot := by
  intro b s ho hk hlen
  have hslot : 6 * s.mbk + b.val < s.pc.length := by omega
  exact ⟨_, exec_pcUpdate ho hk,
    ⟨s.blockSlot, List.getElem?_set_self hslot, rfl, fun j => ⟨s.blockSlot_row j, s.blockSlot_col j⟩⟩,
    List.length_set, fun j hj => List.getElem?_set_ne hj.symm⟩

/-! ## `SCAN_SELECT` and `RECON` (R290, R322) -/

theorem State.mbIntra_iff (s : State) :
    s.mbIntra = true ↔ s.vop.pictureType ≠ .b ∧ (s.mb.mode = .intra ∨ s.mb.mode = .intraQ) := by
  rw [State.mbIntra, Bool.and_eq_true, isIntraMode_iff, decide_eq_true_iff, and_comm]

theorem State.scanSelect_eq (s : State) (dir : Direction) :
    s.scanSelect dir =
      if s.vop.pictureType ≠ .b ∧ (s.mb.mode = .intra ∨ s.mb.mode = .intraQ) ∧ s.mb.acPred = true
      then (if dir = .vertical then .altH else .altV) else .zigzag := by
  simp only [State.scanSelect, Bool.and_eq_true, State.mbIntra_iff, and_assoc]
  cases dir <;> rfl

/-- Settles O21: the scan by whether the macroblock counts as intra, the sample by its clamped sum. -/
theorem scanSelectAndRecon : Obligations.ScanSelectAndRecon := by
  refine ⟨fun dir s ho => ?scan, fun p f s ho => ⟨recon p f, answers_of_opened rfl ho rfl, recon_toNat p f⟩⟩
  case scan =>
    rw [← State.scanSelect_eq]
    exact answers_of_opened rfl ho rfl

end Sys2Proof.Machine
end

section
/-! PROOFS. The reconstruction of a block from its bits and its prediction (spec/46_macroblock.md R312 to R315). -/

namespace Sys2Proof.Machine

/-! ## The DC code (R202) -/

section

variable {t : Table} {l : List DcRow}

theorem DcRows.code_pos (hl : DcRows t l) : ∀ r ∈ l, 0 < r.code.length := by
  cases hl <;> decide

theorem DcRows.prefixFree (hl : DcRows t l) : PrefixFree DcRow.code l := by
  cases hl with
  | luma => exact dcszLTable_prefixFree
  | chroma => exact dcszCTable_prefixFree

theorem DcRows.mem_tables (hl : DcRows t l) {r : DcRow} (hr : r ∈ l) : r ∈ dcszLTable ++ dcszCTable := by
  cases hl with
  | luma => exact List.mem_append_left _ hr
  | chroma => exact List.mem_append_right _ hr

/-- A DC code, where its bits are ahead, completes with the differential of R107. -/
theorem exec_dc_of_parse (hl : DcRows t l) {s : State} {r : DcRow} {v : Nat} {m : Bool} {c : Cursor}
    (h : parseDc l ⟨s.ahead, 0⟩ = .ok (r, v, m) c) :
    exec (r.ctor v m) s = .next { s with bp := s.bp + c.used, status := .ok, result := .int (signedField r.size v) } := by
  obtain ⟨w, n, hcode, hrest, hused⟩ := (Dec.codes_parseDc hl.prefixFree).written _ _ _ h
  obtain ⟨hr, hv, hused', hfits⟩ := parseDc_ok h
  obtain ⟨hzero, hpos⟩ := exec_dc v m r (hl.mem_tables hr)
  have hsum := (Written.of_dcCode hl _ w n hcode).sum_reads fun _ ht => by cases hl <;> cases ht
  have hcodePos := hl.code_pos r hr
  obtain ⟨-, -, hencode, -⟩ := Written.of_dcCode hl _ w n hcode
  dsimp only at hsum hencode
  rw [hencode] at hsum
  simp only [State.ahead_length, List.sum_append, List.sum_cons] at hfits
  rw [Nat.zero_add] at hused
  by_cases h0 : r.size = 0
  · have hlen : c.used = r.code.length := by
      rw [hused', h0]
      simp
    rw [hzero h0, runCode_fits _ _ _ _ (by omega), hlen, h0]
    rfl
  · have hlen := congrArg List.length hrest
    simp only [State.ahead_length, List.length_append] at hlen
    have hpart : r.code.length ≤ c.used := by
      rw [hused', Nat.zero_add, List.sum_append, List.sum_cons, Nat.add_assoc]
      exact Nat.le_add_right _ _
    rw [hpos h0, runReads_fits _ _ _ _ (by omega), hsum, hused, Nat.mod_eq_of_lt hv]

end

theorem readBy_dcDiff (b : Fin 6) (s : State) : s.ReadBy (if b.val < 4 then .dcszL else .dcszC) (dcDiff b) Result.int := by
  have hread {t : Table} {l : List DcRow} (hl : DcRows t l)
      (hp : parseInstr t = (do return (fun (r, v, m) => r.ctor v m : DcRow × Nat × Bool → Instr) (← parseDc l))) :
      s.ReadBy t (do return (fun (r, v, _) => signedField r.size v : DcRow × Nat × Bool → Int) (← parse (parseDc l))) Result.int :=
    .of_parse (fun _ _ => Result.int.inj) hp fun _ _ => exec_dc_of_parse hl
  by_cases hb : b.val < 4
  · have htable : dcTable b = dcszLTable := by simp [dcTable, isLuma, hb]
    rw [if_pos hb, dcDiff, htable]
    exact hread .luma rfl
  · have htable : dcTable b = dcszCTable := by simp [dcTable, isLuma, hb]
    rw [if_neg hb, dcDiff, htable]
    exact hread .chroma rfl

/-! ## Flags and samples -/

theorem codedFlag_eq_testBit (cbp : BitVec 6) (b : Fin 6) : codedFlag cbp b = cbp.toNat.testBit (5 - b.val) :=
  (BitVec.testBit_toNat _).symm

/-- `use_dc_vlc` with the threshold as a row of its table (R281); past its end there is none. -/
theorem State.useDcVlc_iff (s : State) :
    s.useDcVlc = true ↔ ∃ thr : Fin 8, thr.val = s.vop.intraDcVlcThr ∧ s.qp < dcThreshold[thr] := by
  rw [State.useDcVlc, decide_eq_true_iff, List.getD_eq_getElem?_getD]
  by_cases h : s.vop.intraDcVlcThr < 8
  · rw [List.getElem?_eq_getElem (by simpa using h), Option.getD_some, Vector.getElem_toList]
    exact ⟨fun hq => ⟨⟨_, h⟩, rfl, hq⟩, fun ⟨thr, hthr, hq⟩ => by simpa [← hthr] using hq⟩
  · rw [List.getElem?_eq_none (by simpa using h), Option.getD_none]
    exact ⟨fun hq => absurd hq (Nat.not_lt_zero _), fun ⟨thr, hthr, _⟩ => absurd thr.isLt (hthr ▸ h)⟩

theorem recon_eq (p : Byte) (f : Int) : recon p f = BitVec.ofInt 8 (within 0 255 (p.toNat + f)) := by
  rw [recon, toSample, clamp_eq _ _ _ (by decide)]

/-! ## What a block's samples are written to -/

/-- Where a sample stands is a matter of the frame's width alone (R71, R312). -/
theorem State.sampleAddr_congr {s t : State} (h : t.vol = s.vol) (k : Nat) (b : Fin 6) (i : Fin 64) :
    t.sampleAddr k b i = s.sampleAddr k b i := by
  have hmbw : t.mbw = s.mbw := by rw [State.mbw, State.mbw, h]
  have hstride : t.stride (blockPlane b) = s.stride (blockPlane b) := by
    unfold State.stride
    rw [hmbw]
  rw [State.sampleAddr, State.sampleAddr, hstride, State.mbX, State.mbX, State.mbY, State.mbY, hmbw]

/-- A block written from a state with the same frame and the same `CUR`. -/
theorem State.BlockWritten.of_same {s t : State} {k : Nat} {b : Fin 6} {v : Vector Byte 64} {cur : FrameStore}
    (hvol : t.vol = s.vol) (hcur : t.cur = s.cur) (h : t.BlockWritten k b v cur) : s.BlockWritten k b v cur := by
  simpa only [State.BlockWritten, State.sampleAddr_congr hvol, hcur] using h

/-! ## Operations on the macroblock `MBK` -/

section

variable {i : Instr} {k : Nat} {a : Act Unit} {s u : State}

theorem exec_onMacroblock_ok (hx : exec i s = runOnMacroblock k (do a; pure .none) s) (ho : s.opened = true)
    (hk : k < s.mbCount) (h : a s = .ok () u) : exec i s = .next { u with status := .ok, result := .none } := by
  rw [hx, runOnMacroblock_opened _ _ s ho hk, bind_apply_ok _ _ _ _ _ h]
  rfl

theorem exec_onMacroblock_error {e : Kind} (hx : exec i s = runOnMacroblock k (do a; pure .none) s) (ho : s.opened = true)
    (hk : k < s.mbCount) (h : a s = .error e u) : exec i s = .next { u with status := .failed e, result := .none } := by
  rw [hx, runOnMacroblock_opened _ _ s ho hk, bind_apply_error _ _ _ _ _ h]
  rfl

end

/-! ## The dequantizer and the inverse transform write `F` and `f` alone -/

theorem State.dequant_eq (s : State) (intra : Bool) : s.dequant intra = { s with coef := (s.dequant intra).coef } := by
  unfold State.dequant
  dsimp only
  split
  · rw [State.mismatch_eq]
  · rfl

theorem State.dequant_idct_eq (s : State) (intra : Bool) : (s.dequant intra).idct
    = { s with coef := (s.dequant intra).idct.coef, residual := (s.dequant intra).idct.residual } := by
  have h : (s.dequant intra).idct = { s.dequant intra with residual := (s.dequant intra).idct.residual } := rfl
  rw [h, State.dequant_eq]

/-! ## `INTER_BLOCK` (R315) -/

section

variable {k : Nat} {b : Fin 6} {s u : State}

theorem interBlock_of_flag_false (h : codedFlag s.mb.cbp b = false) : interBlock k b s = .ok () (s.writeBlock k b s.pred[b]) := by
  rw [interBlock, bind_apply_ok _ _ _ _ _ (get_apply s), if_neg (by rw [h]; exact Bool.false_ne_true)]
  rfl

theorem interBlock_of_flag_true (h : codedFlag s.mb.cbp b = true) : interBlock k b s =
    (do decodeAc .inter 0 .zigzag; update (fun s => ((s.dequant false).idct).writeInter k b) : Act Unit)
      (s.setQf (Vector.replicate 64 0)) := by
  rw [interBlock, bind_apply_ok _ _ _ _ _ (get_apply s), if_pos h]
  exact bind_apply_ok _ _ _ _ _ (update_apply _ s)

/-- What the AC events of a block write, whether or not they raise. -/
theorem decodeAc_read (t : AcSel) (start : Nat) (scan : Scan) : Act.Rel State.SameButRead (decodeAc t start scan) :=
  acLoop_read t scan 65 start

/-- A read of a block that starts from cleared levels leaves all but `BP`, `EV` and `QF` as they were before. -/
theorem Act.Rel.read_of_cleared {α : Type} {a : Act α} (ha : Act.Rel State.SameButRead a) (s : State) :
    s.SameButRead (stateOf (a (s.setQf (Vector.replicate 64 0)))) :=
  State.SameButRead.trans s (s.setQf (Vector.replicate 64 0)) _ rfl (ha _)

theorem State.writeInter_eq (s : State) (k : Nat) (b : Fin 6) : s.writeInter k b = s.writeBlock k b
    (Vector.ofFn fun i : Fin 64 => BitVec.ofInt 8 (within 0 255 ((s.pred[b][i].toNat : Int) + s.residual[i]))) := by
  simp only [State.writeInter, recon_eq]

end

/-- Settles O24: by the coded flag, and for a coded block by how its AC events end. -/
theorem interBlockWritesPredictionAndResidual : Obligations.InterBlockWritesPredictionAndResidual := by
  intro b s ho hk
  refine ⟨fun hflag => ?uncoded, fun u hflag hac => ?coded, fun e u hflag hac => ?raised⟩ <;> rw [← codedFlag_eq_testBit] at hflag
  case uncoded =>
    exact ⟨(s.writeBlock s.mbk b s.pred[b]).cur,
      exec_onMacroblock_ok (i := .interBlock b) rfl ho hk (interBlock_of_flag_false hflag), s.writeBlock_written s.mbk b _ hk⟩
  case coded =>
    intro w
    have hsame := (decodeAc_read .inter 0 .zigzag).read_of_cleared s
    rw [show decodeAc .inter 0 .zigzag (s.setQf (Vector.replicate 64 0)) = _ from hac] at hsame
    have hw : w = { u with coef := w.coef, residual := w.residual } := u.dequant_idct_eq false
    have hrun : interBlock s.mbk b s = .ok () (w.writeInter s.mbk b) := by
      rw [interBlock_of_flag_true hflag]
      exact bind_apply_ok _ _ _ _ _ hac
    have hexec := exec_onMacroblock_ok (i := .interBlock b) rfl ho hk hrun
    clear_value w
    have hu : u = { s with bp := u.bp, ev := u.ev, qf := u.qf } := hsame
    generalize w.coef = coef, w.residual = residual, u.bp = bp, u.ev = ev, u.qf = qf at hw hu ⊢
    subst hu hw
    rw [State.writeInter_eq] at hexec
    exact ⟨_, hexec, (State.writeBlock_written _ s.mbk b _ hk).of_same rfl rfl⟩
  case raised =>
    have hsame := (decodeAc_read .inter 0 .zigzag).read_of_cleared s
    rw [show decodeAc .inter 0 .zigzag (s.setQf (Vector.replicate 64 0)) = _ from hac] at hsame
    have hrun : interBlock s.mbk b s = .error e u := by
      rw [interBlock_of_flag_true hflag]
      exact bind_apply_error _ _ _ _ _ hac
    exact ⟨exec_onMacroblock_error (i := .interBlock b) rfl ho hk hrun, hsame⟩

/-! ## `INTRA_BLOCK` (R314) -/

/-- The AC events of an intra block, where its coded flag asks for them. -/
def acReads (coded : Bool) (start : Nat) (scan : Scan) : Act Unit := if coded then decodeAc .intra start scan else pure ()

/-- The reads of an intra block that its flags ask for, and the differential they give (R314). -/
def intraReads (vlc coded : Bool) (b : Fin 6) (scan : Scan) : Act Int :=
  if vlc then do
    let d ← dcDiff b
    acReads coded 1 scan
    pure d
  else do
    acReads coded 0 scan
    let t ← get
    pure t.qf[0]

/-- The block of macroblock `k` rebuilt from its differential and the levels read (R314). -/
def State.rebuildIntra (s : State) (k : Nat) (b : Fin 6) (p : Prediction) (diff : Int) : State :=
  ((((s.dcRecon b diff p.pr).acPredict p.dir p.nb).pcUpdate k b).dequant true).idct

theorem intraReads_read (vlc coded : Bool) (b : Fin 6) (scan : Scan) : Act.Rel State.SameButRead (intraReads vlc coded b scan) := by
  have hr := State.SameButRead.refl
  have ht := State.SameButRead.trans
  have hac (start : Nat) : Act.Rel State.SameButRead (acReads coded start scan) :=
    Act.rel_ite (decodeAc_read _ _ _) (Act.rel_pure hr _)
  exact Act.rel_ite (Act.rel_bind ht (dcDiff_read b) fun _ => Act.rel_bind ht (hac 1) fun _ => Act.rel_pure hr _)
    (Act.rel_bind ht (hac 0) fun _ => Act.rel_bind ht (Act.rel_get hr) fun _ => Act.rel_pure hr _)

section

variable {vlc coded : Bool} {b : Fin 6} {scan : Scan} {s t u : State} {d : Int} {e : Kind}

theorem intraReads_vlc_uncoded (h : dcDiff b s = .ok d u) : intraReads true false b scan s = .ok d u :=
  bind_apply_ok _ _ _ _ _ h

theorem intraReads_vlc_coded (hd : dcDiff b s = .ok d t) (hac : decodeAc .intra 1 scan t = .ok () u) :
    intraReads true true b scan s = .ok d u :=
  (bind_apply_ok _ _ _ _ _ hd).trans (bind_apply_ok _ _ _ _ _ hac)

theorem intraReads_coded (hac : decodeAc .intra 0 scan s = .ok () u) : intraReads false true b scan s = .ok u.qf[0] u :=
  bind_apply_ok _ _ _ _ _ hac

theorem intraReads_vlc_error (h : dcDiff b s = .error e u) : intraReads true coded b scan s = .error e u :=
  bind_apply_error _ _ _ _ _ h

theorem intraReads_vlc_coded_error (hd : dcDiff b s = .ok d t) (hac : decodeAc .intra 1 scan t = .error e u) :
    intraReads true true b scan s = .error e u :=
  (bind_apply_ok _ _ _ _ _ hd).trans (bind_apply_error _ _ _ _ _ hac)

theorem intraReads_coded_error (hac : decodeAc .intra 0 scan s = .error e u) : intraReads false true b scan s = .error e u :=
  bind_apply_error _ _ _ _ _ hac

end

/-- An intra block is its reads from cleared levels, and what is rebuilt from them. -/
theorem intraBlock_eq (k : Nat) (b : Fin 6) (s : State) : intraBlock k b s = (do
    let d ← intraReads s.useDcVlc (codedFlag s.mb.cbp b) b (s.scanSelect (s.dcPredict k b).dir)
    update (fun u => (u.rebuildIntra k b (s.dcPredict k b) d).writeIntra k b) : Act Unit) (s.setQf (Vector.replicate 64 0)) := by
  rw [intraBlock, bind_apply_ok _ _ _ _ _ (get_apply s)]
  refine (bind_apply_ok _ _ _ _ _ (update_apply _ s)).trans ?_
  cases s.useDcVlc <;> cases codedFlag s.mb.cbp b <;>
    simp only [intraReads, acReads, Bool.false_eq_true, if_true, if_false, bind_assoc, pure_bind] <;> rfl

theorem State.rebuildIntra_block (s : State) (k : Nat) (b : Fin 6) (p : Prediction) (diff : Int) :
    s.SameButBlock (s.rebuildIntra k b p diff) :=
  ((((s.dcRecon_block b diff p.pr).trans (State.acPredict_block _ p.dir p.nb)).trans (State.pcUpdate_block _ k b)).trans
    (State.dequant_block _ true)).trans (State.idct_block _)

/-- Rebuilding a block writes no sample yet. -/
theorem State.rebuildIntra_cur (s : State) (k : Nat) (b : Fin 6) (p : Prediction) (diff : Int) :
    (s.rebuildIntra k b p diff).cur = s.cur := by
  have hac : ((s.dcRecon b diff p.pr).acPredict p.dir p.nb).cur = s.cur := by
    rw [State.acPredict_eq]
    rfl
  rw [State.rebuildIntra, State.dequant_idct_eq]
  exact hac

theorem State.rebuildIntra_eq (s : State) (k : Nat) (b : Fin 6) (p : Prediction) (diff : Int) : s.rebuildIntra k b p diff = { s with
    qf := (s.rebuildIntra k b p diff).qf, coef := (s.rebuildIntra k b p diff).coef
    residual := (s.rebuildIntra k b p diff).residual, pc := (s.rebuildIntra k b p diff).pc } := by
  have hcur := s.rebuildIntra_cur k b p diff
  have hblock : _ = _ := s.rebuildIntra_block k b p diff
  rwa [hcur] at hblock

theorem State.writeIntra_eq (s : State) (k : Nat) (b : Fin 6) : s.writeIntra k b = s.writeBlock k b
    (Vector.ofFn fun i : Fin 64 => BitVec.ofInt 8 (within 0 255 s.residual[i])) := by
  simp [State.writeIntra, recon_eq]

section

variable {b : Fin 6} {s u : State} {vlc coded : Bool}

/-- An intra block whose reads succeed (R314). -/
theorem exec_intraBlock_ok (ho : s.opened = true) (hk : s.mbk < s.mbCount) (hvlc : s.useDcVlc = vlc)
    (hcoded : codedFlag s.mb.cbp b = coded) {d : Int}
    (h : intraReads vlc coded b (s.scanSelect (s.dcPredict s.mbk b).dir) (s.setQf (Vector.replicate 64 0)) = .ok d u) :
    let w := u.rebuildIntra s.mbk b (s.dcPredict s.mbk b) d
    ∃ cur : FrameStore,
      exec (.intraBlock b) s = .next { u with
        qf := w.qf, coef := w.coef, residual := w.residual, pc := w.pc, cur := cur, status := .ok, result := .none }
      ∧ s.BlockWritten s.mbk b (Vector.ofFn fun i : Fin 64 => BitVec.ofInt 8 (within 0 255 w.residual[i])) cur := by
  intro w
  have hu : u = { s with bp := u.bp, ev := u.ev, qf := u.qf } := by
    have hsame := (intraReads_read vlc coded b (s.scanSelect (s.dcPredict s.mbk b).dir)).read_of_cleared s
    rwa [h] at hsame
  have hw : w = { u with qf := w.qf, coef := w.coef, residual := w.residual, pc := w.pc } := u.rebuildIntra_eq ..
  have hrun : intraBlock s.mbk b s = .ok () (w.writeIntra s.mbk b) := by
    rw [intraBlock_eq, hvlc, hcoded]
    exact bind_apply_ok _ _ _ _ _ h
  have hexec := exec_onMacroblock_ok (i := .intraBlock b) rfl ho hk hrun
  clear_value w
  generalize w.coef = coef, w.residual = residual, w.pc = pc, w.qf = levels, u.bp = bp, u.ev = ev, u.qf = qf at hw hu ⊢
  subst hu hw
  rw [State.writeIntra_eq] at hexec
  exact ⟨_, hexec, (State.writeBlock_written _ s.mbk b _ hk).of_same rfl rfl⟩

/-- An intra block whose reads raise (R470). -/
theorem exec_intraBlock_error (ho : s.opened = true) (hk : s.mbk < s.mbCount) (hvlc : s.useDcVlc = vlc)
    (hcoded : codedFlag s.mb.cbp b = coded) {e : Kind}
    (h : intraReads vlc coded b (s.scanSelect (s.dcPredict s.mbk b).dir) (s.setQf (Vector.replicate 64 0)) = .error e u) :
    exec (.intraBlock b) s = .next { u with status := .failed e, result := .none } ∧ u = { s with bp := u.bp, ev := u.ev, qf := u.qf } := by
  have hsame := (intraReads_read vlc coded b (s.scanSelect (s.dcPredict s.mbk b).dir)).read_of_cleared s
  rw [h] at hsame
  have hrun : intraBlock s.mbk b s = .error e u := by
    rw [intraBlock_eq, hvlc, hcoded]
    exact bind_apply_error _ _ _ _ _ h
  exact ⟨exec_onMacroblock_error (i := .intraBlock b) rfl ho hk hrun, hsame⟩

end

/-- Settles O23: by what the flags ask for, and how the reads end. -/
theorem intraBlockReconstructs : Obligations.IntraBlockReconstructs := by
  intro b s ho hk p scan coded vlc cleared rebuilt raised
  have hvlc : vlc ↔ s.useDcVlc = true := s.useDcVlc_iff.symm
  have hcoded : coded ↔ codedFlag s.mb.cbp b = true := by rw [codedFlag_eq_testBit]
  have huncoded : ¬coded → codedFlag s.mb.cbp b = false := fun h => Bool.eq_false_iff.2 (mt hcoded.2 h)
  have hplain : ¬vlc → s.useDcVlc = false := fun h => Bool.eq_false_iff.2 (mt hvlc.2 h)
  refine ⟨readBy_dcDiff b, fun hv hc => ?plain, fun u hv hc hac => ?ac, fun d u hv hc hd => ?dc,
    fun d t u hv hc hd hac => ?dcAc, fun e u hv hc hac => ?acRaises, fun e u hv hd => ?dcRaises,
    fun d e t u hv hc hd hac => ?dcAcRaises⟩
  case plain => exact exec_intraBlock_ok ho hk (hplain hv) (huncoded hc) (u := cleared) rfl
  case ac => exact exec_intraBlock_ok ho hk (hplain hv) (hcoded.1 hc) (intraReads_coded hac)
  case dc => exact exec_intraBlock_ok ho hk (hvlc.1 hv) (huncoded hc) (intraReads_vlc_uncoded hd)
  case dcAc => exact exec_intraBlock_ok ho hk (hvlc.1 hv) (hcoded.1 hc) (intraReads_vlc_coded hd hac)
  case acRaises => exact exec_intraBlock_error ho hk (hplain hv) (hcoded.1 hc) (intraReads_coded_error hac)
  case dcRaises => exact exec_intraBlock_error ho hk (hvlc.1 hv) rfl (intraReads_vlc_error hd)
  case dcAcRaises => exact exec_intraBlock_error ho hk (hvlc.1 hv) (hcoded.1 hc) (intraReads_vlc_coded_error hd hac)

end Sys2Proof.Machine
end

section
/-! PROOFS. The copy of a macroblock, its `MBI` entry, and the macroblock that is not coded (spec/46_macroblock.md R310, R318,
R324). -/

namespace Sys2Proof.Machine

/-! ## `COPY_MB` writes the blocks of a store (R318) -/

/-- The six blocks that stand in a store at the place of macroblock `k`. -/
def State.storeBlocks (s : State) (k : Nat) (ref : FrameStore) : Vector (Vector Byte 64) 6 :=
  Vector.ofFn fun b : Fin 6 => Vector.ofFn fun i => (ref.plane (blockPlane b)).read (s.sampleAddr k b i)

theorem State.storeBlocks_getElem (s : State) (k : Nat) (ref : FrameStore) (b : Fin 6) (i : Fin 64) :
    (s.storeBlocks k ref)[b][i] = (ref.plane (blockPlane b)).read (s.sampleAddr k b i) := by
  simp [State.storeBlocks]

theorem State.copyBlock_eq {s t : State} (h : t.vol = s.vol) (k : Nat) (ref : FrameStore) (b : Fin 6) :
    t.copyBlock k ref b = t.writeBlock k b (s.storeBlocks k ref)[b] := by
  have hblock : (s.storeBlocks k ref)[b] = Vector.ofFn fun i => (ref.plane (blockPlane b)).read (t.sampleAddr k b i) := by
    simp [State.storeBlocks, State.sampleAddr_congr h]
  rw [hblock]
  rfl

theorem State.foldl_copyBlock {s : State} {k : Nat} {ref : FrameStore} {w : Vector (Vector Byte 64) 6}
    (hw : ∀ (t : State) (b : Fin 6), t.vol = s.vol → t.copyBlock k ref b = t.writeBlock k b w[b]) (l : List (Fin 6)) :
    ∀ t : State, t.vol = s.vol → l.foldl (fun t b => t.copyBlock k ref b) t = t.writeBlocks k w l := by
  induction l with
  | nil =>
    intro t _
    rw [List.foldl_nil, State.writeBlocks, List.foldl_nil]
  | cons b l ih =>
    intro t h
    rw [List.foldl_cons, hw t b h, State.writeBlocks_cons]
    exact ih (t.writeBlock k b w[b]) h

theorem State.copyMb_eq (s : State) (k : Nat) (ref : FrameStore) :
    s.copyMb k ref = s.writeBlocks k (s.storeBlocks k ref) blocks :=
  State.foldl_copyBlock (fun _ b h => State.copyBlock_eq h k ref b) blocks s rfl

/-- Copying changes `CUR` alone. -/
theorem State.copyMb_eq_cur (s : State) (k : Nat) (ref : FrameStore) : s.copyMb k ref = { s with cur := (s.copyMb k ref).cur } := by
  rw [State.copyMb_eq]
  exact State.writeBlocks_eq ..

/-- `cur` is `CUR` of `s` with the area of macroblock `k` taken from the store `ref` (R318). -/
def State.AreaCopied (s : State) (k : Nat) (ref cur : FrameStore) : Prop :=
  (∀ (p : Plane) (a : Nat), s.OwnSample k p a → (cur.plane p).read a = (ref.plane p).read a)
    ∧ (∀ (p : Plane) (a : Nat), ¬s.OwnSample k p a → (cur.plane p).read a = (s.cur.plane p).read a)
    ∧ cur.valid = s.cur.valid ∧ cur.info = s.cur.info

theorem State.copyMb_areaCopied {s : State} {k : Nat} (hk : k < s.mbCount) (ref : FrameStore) :
    s.AreaCopied k ref (s.copyMb k ref).cur := by
  have hread := State.writeBlocks_read (R := fun p a => (ref.plane p).read a) blocks hk (s.storeBlocks_getElem k ref)
  rw [State.copyMb_eq]
  refine ⟨fun p a hown => ?_, fun p a hown => ?_, s.writeBlocks_valid k _ blocks⟩
  · exact (hread p a).1 ((s.ownSample_iff k p a).1 hown)
  · exact (hread p a).2 fun h => hown ((s.ownSample_iff k p a).2 h)

/-! ## The area of a macroblock in coordinates (R71, R312) -/

theorem State.ownSample_luma (s : State) (k : Nat) {x y : Nat} (hx : x < 16) (hy : y < 16) :
    s.OwnSample k .y ((16 * (k / s.mbw) + y) * (16 * s.mbw) + (16 * (k % s.mbw) + x)) := by
  have hb : 2 * (y / 8) + x / 8 < 4 := by omega
  have hcol : (2 * (y / 8) + x / 8) % 2 = x / 8 := by omega
  have hrow : (2 * (y / 8) + x / 8) / 2 = y / 8 := by omega
  have hi : (8 * (y % 8) + x % 8) / 8 = y % 8 := by omega
  have hj : (8 * (y % 8) + x % 8) % 8 = x % 8 := by omega
  refine ⟨⟨2 * (y / 8) + x / 8, by omega⟩, ⟨8 * (y % 8) + x % 8, by omega⟩, if_pos hb, ?_⟩
  simp only [State.sampleAddr, blockX, blockY, blockPlane, State.stride, rowOf, colOf, State.mbX, State.mbY, if_pos hb, hcol,
    hrow, hi, hj]
  have hx' : 16 * (k % s.mbw) + 8 * (x / 8) + x % 8 = 16 * (k % s.mbw) + x := by omega
  have hy' : 16 * (k / s.mbw) + 8 * (y / 8) + y % 8 = 16 * (k / s.mbw) + y := by omega
  rw [hx', hy']

/-- A sample of a chroma block. -/
theorem State.ownSample_chroma (s : State) (k : Nat) (c : ChromaSel) {x y : Nat} (hx : x < 8) (hy : y < 8) :
    s.OwnSample k (chromaPlane c) ((8 * (k / s.mbw) + y) * (8 * s.mbw) + (8 * (k % s.mbw) + x)) := by
  have hi : (8 * y + x) / 8 = y := by omega
  have hj : (8 * y + x) % 8 = x := by omega
  refine ⟨match c with | .u => 4 | .v => 5, ⟨8 * y + x, by omega⟩, ?_, ?_⟩
  · cases c <;> rfl
  · cases c <;> simp [State.sampleAddr, blockX, blockY, blockPlane, State.stride, rowOf, colOf, State.mbX, State.mbY, hi, hj]

/-! ## `COPY_MB` and `MBI_WRITE` -/

theorem exec_copyMb {k : Nat} {s : State} (ho : s.opened = true) (hk : k < s.mbCount) (src : StoreSel) :
    exec (.copyMb k src) s = .next { s with cur := (s.copyMb k (s.store src)).cur, status := .ok, result := .none } := by
  refine (runOnMacroblock_opened k _ s ho hk).trans ?_
  show Host.Outcome.next ((s.copyMb k (s.store src)).finish .none) = _
  rw [State.copyMb_eq_cur]
  rfl

/-- The entry that `MBI_WRITE` writes (R324). -/
theorem State.mbiWrite_eq (s : State) (k : Nat) : s.mbiWrite k = { s with mbi := s.mbi.set k ⟨s.mb.mode, s.qp,
    if s.mb.mode = .inter ∨ s.mb.mode = .interQ ∨ s.mb.mode = .inter4V then s.mb.mv else Vector.replicate 4 MV.zero⟩ } := by
  simp only [State.mbiWrite, hasVectors_iff]
  rfl

theorem answers_mbiWrite_b {k : Nat} {s : State} (ho : s.opened = true) (hk : k < s.mbCount) (hb : s.vop.pictureType = .b) :
    Answers (.mbiWrite k) s .none := by
  refine (runOnMacroblock_opened k _ s ho hk).trans ?_
  show Host.Outcome.next (State.finish (if s.vop.pictureType = .b then s else s.mbiWrite k) .none) = _
  rw [if_pos hb]
  rfl

/-- Settles O25: the copy is of the macroblock's own samples, and these are the areas named by their coordinates. -/
theorem copyMbAndMbiWrite : Obligations.CopyMbAndMbiWrite := by
  intro k s ho hk
  refine ⟨fun src => ?copy, fun hb => ?write, answers_mbiWrite_b ho hk⟩
  case copy =>
    obtain ⟨hown, hother, hvalid, hinfo⟩ := State.copyMb_areaCopied hk (s.store src)
    refine ⟨_, exec_copyMb ho hk src, fun x y hx hy => ?_, fun x y hx hy => ⟨?_, ?_⟩, hother, hvalid, hinfo⟩
    · exact hown .y _ (s.ownSample_luma k hx hy)
    · exact hown .u _ (s.ownSample_chroma k .u hx hy)
    · exact hown .v _ (s.ownSample_chroma k .v hx hy)
  case write =>
    rw [exec_mbiWrite ho hk hb, State.mbiWrite_eq]
    rfl

/-! ## The macroblock that is not coded (R111, R170, R318) -/

theorem mbP_notCoded {k : Nat} {s u : State} (hb : readBit s = .ok true u) :
    let v := u.setMb { u.mb with mode := .notCoded, acPred := false }
    mbP k s = .ok () { v with cur := (v.copyMb k u.refNew).cur } := by
  have hread : readMcbpcP s.fuel s = .ok none u := by
    rw [State.fuel, readMcbpcP_succ, bind_apply_ok _ _ _ _ _ hb]
    rfl
  dsimp only
  rw [mbP, bind_apply_ok _ _ _ _ _ (get_apply s), bind_apply_ok _ _ _ _ _ hread, ← State.copyMb_eq_cur]
  rfl

/-- Settles O31: the bit, the copy, and `MBI_WRITE` of a mode without vectors. -/
theorem decodeMbNotCodedCopies : Obligations.DecodeMbNotCodedCopies := by
  intro k s ho hk hvop hfits hbit
  have hb : s.vop.pictureType ≠ .b := by rcases hvop with hvop | hvop <;> rw [hvop] <;> decide
  have hread : readBit { s with mbk := k } = .ok true { s with mbk := k, bp := s.bp + 1 } := by
    rw [readBit_bit (s := { s with mbk := k }) hfits]
    exact congrArg (EStateM.Result.ok · _) hbit
  have hbody := mbP_notCoded (k := k) hread
  obtain ⟨hown, hother, hvalid, hinfo⟩ := State.copyMb_areaCopied
    (s := { s with bp := s.bp + 1, mbk := k, mb := { s.mb with mode := .notCoded, acPred := false } }) hk s.refNew
  refine ⟨_, ?_, hown, hother, hvalid, hinfo⟩
  rw [exec_decodeMb_of_body ho hk hb (decodeMb_p hvop) (mbP_macroblock k) hbody, exec_mbiWrite (by exact ho) (by exact hk) (by exact hb),
    State.mbiWrite_eq]
  rfl

end Sys2Proof.Machine
end

section
/-! PROOFS. What the decode of a macroblock leaves to the others (spec/46_macroblock.md R328, spec/45_intra_prediction.md R288),
and the one kind it raises (spec/60_exceptions.md R463): said of each operation of the macroblock layer in turn. -/

namespace Sys2Proof.Machine

/-! ## What an operation on a macroblock keeps -/

/-- `t` is `s` but for registers that hold nothing of a macroblock decoded before: `BP`, levels and coefficients, `MB`, `MBK`,
`QP`, `PRED`, the vector predictors of a B VOP, `FAIL`, and what a command hands back. -/
def State.SameButRegisters (s t : State) : Prop :=
  t = { s with
    bp := t.bp, ev := t.ev, qf := t.qf, coef := t.coef, residual := t.residual, mb := t.mb, mbk := t.mbk, qp := t.qp
    pred := t.pred, pmvF := t.pmvF, pmvB := t.pmvB, fail := t.fail, status := t.status, result := t.result }

/-- From `s` to `t` nothing of another macroblock than `k` is written. -/
structure State.OthersKept (k : Nat) (s t : State) : Prop where
  vol : t.vol = s.vol
  entries : ∀ j : Nat, j ≠ k → t.mbi[j]? = s.mbi[j]?
  count : t.mbi.length = s.mbi.length
  valid : t.cur.valid = s.cur.valid
  info : t.cur.info = s.cur.info
  samples : k < s.mbCount → ∀ (p : Plane) (a : Nat), ¬s.OwnSample k p a → (t.cur.plane p).read a = (s.cur.plane p).read a
  slots : ∀ j : Nat, j / 6 ≠ k → t.pc[j]? = s.pc[j]?

theorem State.dequant_idct_registers (s : State) (intra : Bool) : s.SameButRegisters (s.dequant intra).idct := by
  have h := s.dequant_idct_eq intra
  generalize (s.dequant intra).idct = t at h ⊢
  generalize t.coef = coef, t.residual = residual at h
  subst h
  rfl

theorem State.mbCount_congr {s t : State} (h : t.vol = s.vol) : t.mbCount = s.mbCount := by
  rw [State.mbCount, State.mbCount, State.mbw, State.mbw, State.mbh, State.mbh, h]

theorem State.ownSample_congr {s t : State} (h : t.vol = s.vol) (k : Nat) (p : Plane) (a : Nat) :
    t.OwnSample k p a ↔ s.OwnSample k p a := by
  unfold State.OwnSample
  simp only [State.sampleAddr_congr h]

namespace State.OthersKept

variable {k : Nat} {s t u : State}

theorem refl (s : State) : s.OthersKept k s := ⟨rfl, fun _ _ => rfl, rfl, rfl, rfl, fun _ _ _ _ => rfl, fun _ _ => rfl⟩

theorem trans (s t u : State) (h : s.OthersKept k t) (g : t.OthersKept k u) : s.OthersKept k u where
  vol := g.vol.trans h.vol
  entries j hj := (g.entries j hj).trans (h.entries j hj)
  count := g.count.trans h.count
  valid := g.valid.trans h.valid
  info := g.info.trans h.info
  samples hk p a hown :=
    (g.samples (by rwa [State.mbCount_congr h.vol]) p a (by rwa [State.ownSample_congr h.vol])).trans (h.samples hk p a hown)
  slots j hj := (g.slots j hj).trans (h.slots j hj)

theorem of_registers (h : s.SameButRegisters t) : s.OthersKept k t := by
  rw [show t = _ from h]
  exact ⟨rfl, fun _ _ => rfl, rfl, rfl, rfl, fun _ _ _ _ => rfl, fun _ _ => rfl⟩

/-- A block of the macroblock lies in its area (R312). -/
theorem writeBlock (s : State) (b : Fin 6) (v : Vector Byte 64) : s.OthersKept k (s.writeBlock k b v) where
  vol := rfl
  entries _ _ := rfl
  count := rfl
  valid := FrameStore.setPlane_valid _ _ _
  info := FrameStore.setPlane_info _ _ _
  samples hk p a hown := by
    obtain ⟨-, hother, -, -⟩ := s.writeBlock_written k b v hk
    exact hother p a fun hp i ha => hown ⟨b, i, hp.symm, ha⟩
  slots _ _ := rfl

theorem copyMb (s : State) (ref : FrameStore) : s.OthersKept k (s.copyMb k ref) := by
  rw [State.copyMb_eq]
  generalize s.storeBlocks k ref = w
  generalize blocks = l
  induction l generalizing s with
  | nil => exact refl s
  | cons b l ih => exact trans _ _ _ (writeBlock s b w[b]) (ih _)

theorem setMbi (s : State) (e : MbInfo) : s.OthersKept k { s with mbi := s.mbi.set k e } :=
  ⟨rfl, fun _ hj => List.getElem?_set_ne hj.symm, List.length_set, rfl, rfl, fun _ _ _ _ => rfl, fun _ _ => rfl⟩

theorem degrade (s : State) : s.OthersKept k (s.degrade k) := by
  unfold State.degrade
  dsimp only
  split
  · exact copyMb s _
  · exact trans _ _ _ (copyMb s s.refNew) (setMbi _ _)

/-- An entry of `MBI` written for macroblock `k` is the one entry in which the file differs from before. -/
theorem set_mbi (h : s.OthersKept k t) (e : MbInfo) : t.mbi.set k e = s.mbi.set k e := by
  refine List.ext_getElem? fun j => ?_
  by_cases hj : k = j
  · rw [List.getElem?_set, List.getElem?_set, h.count, if_pos hj, if_pos hj]
  · rw [List.getElem?_set_ne hj, List.getElem?_set_ne hj, h.entries j (Ne.symm hj)]

/-- The slots of macroblock `k` are `6k` to `6k + 5` (R283). -/
theorem pcUpdate (s : State) (b : Fin 6) : s.OthersKept k (s.pcUpdate k b) := by
  rw [State.pcUpdate_eq]
  refine ⟨rfl, fun _ _ => rfl, rfl, rfl, rfl, fun _ _ _ _ => rfl, fun j hj => List.getElem?_set_ne ?_⟩
  omega

/-- Once its bits are read, an intra block writes levels, coefficients, its own slot and its own samples (R314). -/
theorem rebuildIntra (s : State) (b : Fin 6) (p : Prediction) (diff : Int) :
    s.OthersKept k ((s.rebuildIntra k b p diff).writeIntra k b) := by
  have hpredict : s.SameButRegisters ((s.dcRecon b diff p.pr).acPredict p.dir p.nb) := by
    rw [State.acPredict_eq]
    rfl
  refine trans _ _ _ (of_registers hpredict) (trans _ _ _ (pcUpdate _ b) ?_)
  exact trans _ _ _ (of_registers (State.dequant_idct_registers _ true)) (writeBlock _ b _)

end State.OthersKept

/-! ## Operations confined to a macroblock -/

/-- The operation keeps what belongs to other macroblocks, whether or not it raises, and raises `InvalidData` alone. -/
def Act.Confined {α : Type} (k : Nat) (a : Act α) : Prop :=
  Act.Rel (State.OthersKept k) a ∧ ∀ (s t : State) (e : Kind), a s = .error e t → e = .invalidData

namespace Act.Confined

variable {α β : Type} {k : Nat}

theorem pure (a : α) : Act.Confined k (Pure.pure a : Act α) := ⟨Act.rel_pure .refl a, fun _ _ _ h => nomatch h⟩

theorem get : Act.Confined k (MonadState.get : Act State) := ⟨Act.rel_get .refl, fun _ _ _ h => nomatch h⟩

theorem raise : Act.Confined k (raiseKind .invalidData : Act α) :=
  ⟨Act.rel_raise .refl _, fun _ _ _ h => (EStateM.Result.error.inj h).1.symm⟩

theorem update {g : State → State} (hg : ∀ s, State.OthersKept k s (g s)) : Act.Confined k (update g) :=
  ⟨Act.rel_update hg, fun _ _ _ h => nomatch h⟩

theorem registers {g : State → State} (hg : ∀ s : State, s.SameButRegisters (g s) := by intro; rfl) :
    Act.Confined k (Machine.update g) := update fun s => .of_registers (hg s)

theorem bind {x : Act α} {f : α → Act β} (hx : Act.Confined k x) (hf : ∀ a, Act.Confined k (f a)) : Act.Confined k (x >>= f) := by
  refine ⟨Act.rel_bind .trans hx.1 fun a => (hf a).1, fun s t e h => ?_⟩
  cases hs : x s with
  | ok a u => exact (hf a).2 u t e ((bind_apply_ok x f s u a hs).symm.trans h)
  | error e' u =>
    obtain ⟨rfl, -⟩ := EStateM.Result.error.inj ((bind_apply_error x f s u e' hs).symm.trans h)
    exact hx.2 s u e' hs

theorem ite {c : Prop} [Decidable c] {x y : Act α} (hx : Act.Confined k x) (hy : Act.Confined k y) :
    Act.Confined k (if c then x else y) := by
  split
  · exact hx
  · exact hy

theorem forEach (l : List α) {f : α → Act Unit} (hf : ∀ a, Act.Confined k (f a)) : Act.Confined k (forEach l f) := by
  induction l with
  | nil => exact pure ()
  | cons a l ih => exact bind (hf a) fun _ => ih

theorem parse (d : Dec α) : Act.Confined k (parse d) := by
  refine ⟨fun s => ?_, fun s t e h => ?_⟩
  · rw [parse_apply]
    split <;> exact .of_registers rfl
  · rw [parse_apply] at h
    split at h
    · cases h
    · exact (EStateM.Result.error.inj h).1.symm

theorem readBits (n : Nat) : Act.Confined k (readBits n) := by
  refine ⟨Act.rel_readBits .refl n fun _ _ => .of_registers rfl, fun s t e h => ?_⟩
  rw [readBits_apply] at h
  split at h
  · cases h
  · exact (EStateM.Result.error.inj h).1.symm

theorem readBit : Act.Confined k readBit := bind (readBits 1) fun _ => pure _

/-! ## Blocks (R212, R216, R314, R315) -/

theorem acEvent (t : AcSel) : Act.Confined k (acEvent t) := by
  refine bind (parse _) fun form => ?_
  cases form with
  | row r => exact bind readBit fun _ => registers
  | esc1 r sign => exact registers
  | esc2 r sign => exact registers
  | esc3 last run _ level _ => exact registers

theorem decodeAc (t : AcSel) (start : Nat) (scan : Scan) : Act.Confined k (decodeAc t start scan) := by
  unfold Machine.decodeAc
  generalize 65 = n
  induction n generalizing start with
  | zero => exact raise
  | succ n ih =>
    refine bind (acEvent t) fun _ => bind get fun s => ?_
    dsimp only
    split
    · exact bind registers fun _ => ite (pure _) (ih _)
    · exact raise

theorem intraBlock (b : Fin 6) : Act.Confined k (intraBlock k b) := by
  have acReads (coded : Bool) (start : Nat) (scan : Scan) : Act.Confined k (acReads coded start scan) := ite (decodeAc _ _ _) (pure _)
  have reads (vlc coded : Bool) (scan : Scan) : Act.Confined k (intraReads vlc coded b scan) :=
    ite (bind (bind (parse _) fun _ => pure _) fun _ => bind (acReads _ _ _) fun _ => pure _)
      (bind (acReads _ _ _) fun _ => bind get fun _ => pure _)
  have block (s : State) : Act.Confined k (do
      let d ← intraReads s.useDcVlc (codedFlag s.mb.cbp b) b (s.scanSelect (s.dcPredict k b).dir)
      Machine.update (fun u => (u.rebuildIntra k b (s.dcPredict k b) d).writeIntra k b) : Act Unit) :=
    bind (reads _ _ _) fun d => update fun u => .rebuildIntra u b _ d
  refine ⟨fun s => ?_, fun s t e h => ?_⟩
  · rw [intraBlock_eq]
    exact .trans _ (s.setQf (Vector.replicate 64 0)) _ (.of_registers rfl) ((block s).1 _)
  · rw [intraBlock_eq] at h
    exact (block s).2 _ _ _ h

theorem interBlock (b : Fin 6) : Act.Confined k (interBlock k b) := by
  refine bind get fun s => ite ?_ (update fun u => .writeBlock u b _)
  refine bind registers fun _ => bind (decodeAc _ _ _) fun _ => update fun u => ?_
  exact .trans _ _ _ (.of_registers (u.dequant_idct_registers false)) (.writeBlock _ b _)

/-! ## The header (R110 to R112) -/

theorem readMcbpcI (n : Nat) : Act.Confined k (readMcbpcI n) := by
  induction n with
  | zero => exact raise
  | succ n ih =>
    refine bind (parse _) fun r => ?_
    split
    · exact pure _
    · exact ih

theorem readMcbpcP (n : Nat) : Act.Confined k (readMcbpcP n) := by
  induction n with
  | zero => exact raise
  | succ n ih =>
    refine bind readBit fun b => ite (pure _) (bind (parse _) fun r => ?_)
    split
    · exact pure _
    · exact ih

theorem readCbpy (c : BitVec 2) : Act.Confined k (readCbpy c) := bind (parse _) fun _ => registers

theorem readDquant : Act.Confined k readDquant := bind get fun _ => ite (bind (parse _) fun _ => registers) (pure _)

theorem readMcsel : Act.Confined k readMcsel :=
  bind registers fun _ => bind get fun _ => ite (bind readBit fun _ => registers) (pure _)

theorem readAcPred : Act.Confined k readAcPred := bind get fun _ => ite (bind readBit fun _ => registers) registers

theorem readBHeader : Act.Confined k readBHeader := by
  refine bind readBit fun direct => ite registers (bind readBit fun noCbp => bind (parse _) fun t => bind registers fun _ => ?_)
  have rest (cbp : Nat) : Act.Confined k (do
      Machine.update (fun s => s.setCbp (BitVec.ofNat 6 cbp))
      if t.btype ≠ .direct ∧ BitVec.ofNat 6 cbp ≠ 0#6 then
        let d ← Machine.parse (vlc QuantRow.code dbquantTable)
        Machine.update (fun s => s.offsetQp d.delta)
      else Pure.pure ()) := bind registers fun _ => ite (bind (parse _) fun _ => registers) (pure _)
  split
  · exact bind (pure _) rest
  · exact bind (readBits 6) rest

/-! ## The vectors (R175 to R178, R185) -/

theorem decodeVector (p : MV) (f : Nat) : Act.Confined k (decodeVector p f) :=
  have delta (f : Nat) : Act.Confined k (decodeDelta f) := bind (parse _) fun _ => pure _
  bind (delta f) fun _ => bind (delta f) fun _ => pure _

theorem decodeMv (b : Fin 4) : Act.Confined k (decodeMv k b) :=
  ⟨fun s => (decodeVector (k := k) _ _).1 s, fun s => (decodeVector (k := k) _ _).2 s⟩

theorem pVectors : Act.Confined k (pVectors k) :=
  bind get fun _ => ite (forEach _ fun b => bind (decodeMv b) fun _ => registers)
    (ite (ite registers (bind (decodeMv 0) fun _ => registers)) (pure _))

theorem bVectors : Act.Confined k (bVectors k) := by
  have forward : Act.Confined k forwardVector := bind get fun _ => bind (decodeVector _ _) fun _ => registers
  have backward : Act.Confined k backwardVector := bind get fun _ => bind (decodeVector _ _) fun _ => registers
  have delta (f : Nat) : Act.Confined k (decodeDelta f) := bind (parse _) fun _ => pure _
  refine bind get fun s => ?_
  split
  · exact forward
  · exact backward
  · exact bind forward fun _ => backward
  · exact bind (delta 1) fun _ => bind (delta 1) fun _ => registers
  · exact registers

/-! ## The macroblock (R110 to R112) -/

theorem mbI : Act.Confined k (mbI k) :=
  bind get fun _ => bind (readMcbpcI _) fun _ => bind registers fun _ => bind readBit fun _ => bind registers fun _ =>
    bind (readCbpy _) fun _ => bind readDquant fun _ => forEach _ intraBlock

theorem pBlocks : Act.Confined k (pBlocks k) :=
  bind get fun _ => ite (forEach _ intraBlock) (bind registers fun _ => forEach _ interBlock)

theorem mbP : Act.Confined k (mbP k) := by
  refine bind get fun s => bind (readMcbpcP _) fun p => ?_
  split
  · exact update fun u => .trans _ (u.setMb { u.mb with mode := .notCoded, acPred := false }) _ (.of_registers rfl) (.copyMb _ _)
  · exact bind registers fun _ => bind readMcsel fun _ => bind readAcPred fun _ => bind (readCbpy _) fun _ =>
      bind readDquant fun _ => bind pVectors fun _ => pBlocks

theorem mbB : Act.Confined k (mbB k) := by
  have startRow (s : State) : s.SameButRegisters (s.startRow k) := by
    unfold State.startRow
    split <;> rfl
  have rest : Act.Confined k (do
      Machine.update (fun s => s.predictB k)
      Machine.forEach blocks (fun b => Machine.interBlock k b)) := bind registers fun _ => forEach _ interBlock
  refine bind (registers startRow) fun _ => bind get fun s => ?_
  split
  · exact bind registers fun _ => rest
  · exact bind registers fun _ => bind readBHeader fun _ => bind bVectors fun _ => rest

theorem decodeMb : Act.Confined k (decodeMb k) := by
  have write : Act.Confined k (Machine.update (fun s => s.mbiWrite k)) := update fun s => .setMbi s _
  refine bind get fun s => ?_
  split
  · exact bind mbI fun _ => write
  · exact bind mbP fun _ => write
  · exact bind mbP fun _ => write
  · exact mbB

end Act.Confined

/-! ## `DECODE_MB` -/

theorem decodeMbCaught_others (k : Nat) : Act.Rel (State.OthersKept k) (decodeMbCaught k) := fun s => by
  have h := (Act.Confined.decodeMb (k := k)).1 s
  unfold decodeMbCaught
  cases hs : decodeMb k s with
  | ok a t =>
    rw [hs] at h
    exact h
  | error e t =>
    rw [hs] at h
    have hfail : t.OthersKept k { t with fail := true } := .of_registers rfl
    dsimp only
    split
    · exact .trans _ _ _ h hfail
    · exact .trans _ _ _ h (.trans _ _ _ hfail (.degrade _))

/-- `DECODE_MB k` is the caught decode after `MBK <- k`; what it answers beside is status and result. -/
theorem exec_decodeMb_caught {k : Nat} {s t : State} (ho : s.opened = true) (hk : k < s.mbCount) (h : exec (.decodeMb k) s = .next t) :
    t = { stateOf (decodeMbCaught k { s with mbk := k }) with status := t.status, result := t.result } := by
  rw [exec_decodeMb k s ho hk] at h
  cases hs : decodeMbCaught k { s with mbk := k } with
  | ok a u =>
    rw [hs] at h
    cases h
    rfl
  | error e u =>
    rw [hs] at h
    cases h
    rfl

theorem exec_decodeMb_others {k : Nat} {s t : State} (ho : s.opened = true) (hk : k < s.mbCount) (h : exec (.decodeMb k) s = .next t) :
    s.OthersKept k t := by
  rw [exec_decodeMb_caught ho hk h]
  exact .trans s { s with mbk := k } _ (.of_registers rfl) (.trans _ _ _ (decodeMbCaught_others k _) (.of_registers rfl))

theorem exec_decodeMb_macroblock {k : Nat} {s t : State} (ho : s.opened = true) (hk : k < s.mbCount)
    (h : exec (.decodeMb k) s = .next t) : { s with status := t.status, result := t.result }.SameButMacroblock t := by
  have hsame : { s with mbk := k }.SameButMacroblock (stateOf (decodeMbCaught k { s with mbk := k })) := decodeMbCaught_macroblock k _
  have hcaught := exec_decodeMb_caught ho hk h
  generalize stateOf (decodeMbCaught k { s with mbk := k }) = u at hsame hcaught
  unfold State.SameButMacroblock at *
  rw [hcaught, hsame]

/-- Settles O35: the files and `CUR` by what every operation of the layer keeps of other macroblocks, the sequence registers by what
the layer writes at all. -/
theorem macroblockWritesOnlyItsOwnArea : Obligations.MacroblockWritesOnlyItsOwnArea := by
  intro k s t ho hk h
  have hothers := exec_decodeMb_others ho hk h
  have hsame := exec_decodeMb_macroblock ho hk h
  refine ⟨hothers.samples hk, hothers.valid, hothers.info, hothers.entries, hothers.slots, ?_⟩
  rw [show t = _ from hsame]
  exact ⟨rfl, rfl, rfl, rfl, rfl, rfl, rfl, rfl, rfl, rfl, rfl, rfl, rfl, rfl, rfl, rfl, rfl, rfl, rfl, rfl⟩

end Sys2Proof.Machine
end

section
/-! PROOFS. The converse of the chains of codewords: what the macroblock layer reads with success is a codeword that decodes and
runs alone (spec/30_encoding.md R104, R110 to R112). -/

namespace Sys2Proof.Machine

/-! ## Codewords -/

section

variable {s u : State} {t : Table} {i : Instr}

/-- A codeword that decodes and fits runs with its effect. -/
theorem reads_of_decode {n : Nat} {g : State → State} (hd : ∃ m, decode t s.ahead = .ok i m) (hx : exec i s = runCode n g .none s)
    (hg1 : ∀ u, (g u).status = u.status) (hg2 : ∀ u, (g u).result = u.result) (hfits : s.bp + n ≤ 8 * s.bslen) :
    s.Reads t i (g (s.advance n)) :=
  ⟨hd, ⟨.none, by rw [hx, runCode_fits _ _ _ _ hfits]; rfl⟩, hg1 _, hg2 _⟩

/-- A row that the layer's `Vlc` finds, where the table's instructions are its rows. -/
theorem reads_of_vlc {α : Type} {code : α → List Bool} {ctor : α → Instr} {l : List α} {g : α → State → State} {r : α}
    (hp : parseInstr t = (do return ctor (← vlc code l))) (hpos : ∀ r ∈ l, 0 < (code r).length)
    (hx : ∀ r ∈ l, ∀ s, exec (ctor r) s = runCode (code r).length (g r) .none s)
    (hg1 : ∀ r u, (g r u).status = u.status) (hg2 : ∀ r u, (g r u).result = u.result) (h : parse (vlc code l) s = .ok r u) :
    s.Reads t (ctor r) (g r u) := by
  have hd : ∃ m, decode t s.ahead = .ok (ctor r) m := by
    rw [parse_apply] at h
    cases hv : vlc code l ⟨s.ahead, 0⟩ with
    | ok v c =>
      simp only [hv] at h
      obtain ⟨rfl, -⟩ := EStateM.Result.ok.inj h
      exact ⟨c.used, (decode_of_read hp _).trans (by simp only [hv])⟩
    | error e c =>
      simp only [hv] at h
      cases h
  obtain ⟨hr, rfl, hlen⟩ := parse_vlc_fits h
  have hpos := hpos r hr
  exact reads_of_decode hd (hx r hr s) (hg1 r) (hg2 r) (by omega)

theorem readBits_fits {n v : Nat} (h : readBits n s = .ok v u) : v = s.bits s.bp n ∧ u = s.advance n ∧ s.bp + n ≤ 8 * s.bslen := by
  rw [readBits_apply] at h
  split at h
  · rename_i hfits
    cases h
    exact ⟨rfl, rfl, hfits⟩
  · cases h

/-- The bits of the window from `BP` on are what a parser sees first. -/
theorem State.ahead_take {n : Nat} (hn : n ≤ 32) (hfits : s.bp + n ≤ 8 * s.bslen) : s.ahead.take n = s.bitList s.bp n :=
  State.bitList_take _ _ _ _ (by omega)

/-- A field that the layer reads is one that a parser takes. -/
theorem takeBits_of_readBits {n v : Nat} (hn : n ≤ 32) (h : readBits n s = .ok v u) : ∃ c, takeBits n ⟨s.ahead, 0⟩ = .ok v c := by
  obtain ⟨rfl, -, hfits⟩ := readBits_fits h
  have hlen : n ≤ s.ahead.length := by
    rw [State.ahead_length]
    omega
  rw [takeBits, if_pos hlen, State.ahead_take hn hfits]
  exact ⟨_, rfl⟩

/-- A flag that the layer reads, where the table's instructions are the two bits. -/
theorem reads_of_readBit {ctor : Bool → Instr} {g : Bool → State → State} {b : Bool}
    (hp : parseInstr t = (do return ctor (← takeBit))) (hx : ∀ b s, exec (ctor b) s = runCode 1 (g b) .none s)
    (hg1 : ∀ b u, (g b u).status = u.status) (hg2 : ∀ b u, (g b u).result = u.result) (h : readBit s = .ok b u) :
    s.Reads t (ctor b) (g b u) := by
  obtain rfl := readBit_ok h
  have hd : ∃ m, decode t s.ahead = .ok (ctor b) m := by
    obtain ⟨v, w, hv, hb⟩ := (bind_ok_iff _ _ _ _ _).1 h
    obtain ⟨c, hc⟩ := takeBits_of_readBits (by decide) hv
    cases hb
    have hbit : takeBit ⟨s.ahead, 0⟩ = .ok (v == 1) c := Dec.bind_apply_ok hc
    rw [decode_of_read hp, hbit]
    exact ⟨_, rfl⟩
  exact reads_of_decode hd (hx b s) (hg1 b) (hg2 b) (readBit_fits h)

theorem reads_of_mcbpcI {r : McbpcRow} (h : parse (vlc McbpcRow.code mcbpcITable) s = .ok r u) :
    s.Reads .mcbpcI r.ctor (u.setMcbpc r.sym) :=
  reads_of_vlc (t := .mcbpcI) (ctor := McbpcRow.ctor) (g := fun r s => s.setMcbpc r.sym) rfl (by decide) exec_mcbpcI
    (fun _ _ => State.setMcbpc_status _ _)
    (fun _ _ => State.setMcbpc_result _ _) h

theorem reads_of_mcbpcP {r : McbpcRow} (h : parse (vlc McbpcRow.code mcbpcPTable) s = .ok r u) :
    s.Reads .mcbpcP r.ctor (u.setMcbpc r.sym) :=
  reads_of_vlc (t := .mcbpcP) (ctor := McbpcRow.ctor) (g := fun r s => s.setMcbpc r.sym) rfl (by decide) exec_mcbpcP
    (fun _ _ => State.setMcbpc_status _ _)
    (fun _ _ => State.setMcbpc_result _ _) h

theorem reads_of_cbpy {r : CbpyRow} (h : parse (vlc CbpyRow.code cbpyTable) s = .ok r u) :
    s.Reads .cbpy r.ctor (u.setCbpy r.intra) :=
  reads_of_vlc (t := .cbpy) (ctor := CbpyRow.ctor) (g := fun r s => s.setCbpy r.intra) rfl (by decide) exec_cbpy
    (fun _ _ => rfl) (fun _ _ => rfl) h

theorem reads_of_dquant {r : QuantRow} (h : parse (vlc QuantRow.code dquantTable) s = .ok r u) :
    s.Reads .dquant r.ctor (u.offsetQp r.delta) :=
  reads_of_vlc (t := .dquant) (ctor := QuantRow.ctor) (g := fun r s => s.offsetQp r.delta) rfl (by decide) exec_dquant
    (fun _ _ => rfl) (fun _ _ => rfl) h

theorem reads_of_dbquant {r : QuantRow} (h : parse (vlc QuantRow.code dbquantTable) s = .ok r u) :
    s.Reads .dbquant r.ctor (u.offsetQp r.delta) :=
  reads_of_vlc (t := .dbquant) (ctor := QuantRow.ctor) (g := fun r s => s.offsetQp r.delta) rfl (by decide) exec_dbquant
    (fun _ _ => rfl) (fun _ _ => rfl) h

theorem reads_of_bmbtype {r : BmbtypeRow} (h : parse (vlc BmbtypeRow.code bmbtypeTable) s = .ok r u) :
    s.Reads .bmbtype r.ctor (u.setBtype r.btype) :=
  reads_of_vlc (t := .bmbtype) (ctor := BmbtypeRow.ctor) (g := fun r s => s.setBtype r.btype) rfl (by decide) exec_bmbtype
    (fun _ _ => rfl) (fun _ _ => rfl) h

theorem reads_of_modb {r : ModbRow} (h : parse (vlc ModbRow.code modbTable) s = .ok r u) :
    s.Reads .modb r.ctor (u.setModb r.sym) :=
  reads_of_vlc (t := .modb) (ctor := ModbRow.ctor) (g := fun r s => s.setModb r.sym) rfl (by decide) exec_modb
    (fun r _ => by cases r.sym <;> rfl)
    (fun r _ => by cases r.sym <;> rfl) h

theorem reads_of_acPred {b : Bool} (h : readBit s = .ok b u) : s.Reads .acPred (.acPred b) (u.setAcPred b) :=
  reads_of_readBit (g := fun b s => s.setAcPred b) rfl (fun _ _ => rfl) (fun _ _ => rfl) (fun _ _ => rfl) h

theorem reads_of_mcsel {b : Bool} (h : readBit s = .ok b u) : s.Reads .mcsel (.mcsel b) (u.setMcsel b) :=
  reads_of_readBit (g := fun b s => s.setMcsel b) rfl (fun _ _ => rfl) (fun _ _ => rfl) (fun _ _ => rfl) h

theorem reads_of_notCoded {b : Bool} (h : readBit s = .ok b u) : s.Reads .notCoded (.notCoded b) (u.setNotCoded b) :=
  reads_of_readBit (g := fun b s => s.setNotCoded b) rfl (fun _ _ => rfl) (fun b _ => by cases b <;> rfl)
    (fun b _ => by cases b <;> rfl) h

theorem reads_of_cbpb {v : Nat} (h : readBits 6 s = .ok v u) :
    s.Reads .cbpb (.cbpb (BitVec.ofNat 6 v)) (u.setCbp (BitVec.ofNat 6 v)) := by
  obtain ⟨c, hc⟩ := takeBits_of_readBits (by decide) h
  obtain ⟨-, rfl, hfits⟩ := readBits_fits h
  have hd : ∃ m, decode .cbpb s.ahead = .ok (.cbpb (BitVec.ofNat 6 v)) m := by
    rw [decode, show parseInstr .cbpb ⟨s.ahead, 0⟩ = _ from Dec.bind_apply_ok hc]
    exact ⟨_, rfl⟩
  exact reads_of_decode (n := 6) (g := fun s => s.setCbp (BitVec.ofNat 6 v)) hd rfl (fun _ => rfl) (fun _ => rfl) hfits

/-- A codeword of a table that stands at `BP` is the one that `Vlc` finds. -/
theorem parse_vlc_of_bits {α : Type} {code : α → List Bool} {l : List α} (hfree : PrefixFree code l) {r : α} (hr : r ∈ l)
    (hlen : (code r).length ≤ 32) (hfits : s.bp + (code r).length ≤ 8 * s.bslen) (hbits : s.bitList s.bp (code r).length = code r) :
    parse (vlc code l) s = .ok r (s.advance (code r).length) := by
  have hahead : s.ahead = code r ++ s.ahead.drop (code r).length := by
    conv_lhs => rw [← List.take_append_drop (code r).length s.ahead, State.ahead_take hlen hfits, hbits]
  have hfind := ((Dec.codes_vlc hfree).takes r _ _ ⟨hr, rfl, rfl⟩).whole (s.ahead.drop (code r).length) 0
  rw [← hahead] at hfind
  rw [parse_apply, hfind, Nat.zero_add]

/-- MODB `1`, as the bit that the layer reads (R180). -/
theorem reads_of_modb1 (h : readBit s = .ok true u) : s.Reads .modb .modb_1 (u.setModb .directNoneMv) := by
  have hfits := readBit_fits h
  rw [readBit_bit hfits] at h
  obtain ⟨hbit, rfl⟩ := EStateM.Result.ok.inj h
  exact reads_of_modb (parse_vlc_of_bits (r := ⟨[true], .directNoneMv, .modb_1⟩) modbTable_prefixFree List.mem_cons_self (by decide)
    hfits (congrArg (fun b => [b]) hbit))

/-- MODB `01` and `00`, as the two bits that the layer reads (R180). -/
theorem reads_of_modb2 {v : State} {b : Bool} {m : Modb} (hrow : (⟨[false, b], m, i⟩ : ModbRow) ∈ modbTable)
    (h1 : readBit s = .ok false u) (h2 : readBit u = .ok b v) : s.Reads .modb i (v.setModb m) := by
  rw [readBit_bit (readBit_fits h1)] at h1
  obtain ⟨hbit1, rfl⟩ := EStateM.Result.ok.inj h1
  have hfits : s.bp + 1 + 1 ≤ 8 * s.bslen := readBit_fits h2
  rw [readBit_bit hfits] at h2
  obtain ⟨hbit2, rfl⟩ := EStateM.Result.ok.inj h2
  have hbits : s.bitList s.bp 2 = [false, b] := by
    rw [← hbit1, ← hbit2]
    rfl
  exact reads_of_modb (parse_vlc_of_bits (r := ⟨[false, b], m, i⟩) modbTable_prefixFree hrow (by simp) hfits hbits)

end

end Sys2Proof.Machine
end

section
/-! PROOFS. A macroblock that the layer decodes with success stands at `BP` as its rules write it (spec/30_encoding.md R110 to R112):
the converse of the chains that run it. -/

namespace Sys2Proof.Machine

/-! ## Where a macroblock is decoded -/

/-- The instance is opened, and `MBK` is macroblock `k` of its frame. -/
structure State.At (s : State) (k : Nat) : Prop where
  mbk : s.mbk = k
  opened : s.opened = true
  inFrame : k < s.mbCount

namespace State.At

variable {k : Nat} {s t : State}

theorem of_macroblock (h : s.At k) (hs : s.SameButMacroblock t) (hmbk : t.mbk = s.mbk) : t.At k := by
  have hs : t = _ := hs
  refine ⟨hmbk.trans h.mbk, by rw [hs]; exact h.opened, ?_⟩
  rw [State.mbCount_congr (s := s) (by rw [hs])]
  exact h.inFrame

theorem of_coded (h : s.At k) (hs : s.SameButCoded t) : t.At k := h.of_macroblock hs.macroblock hs.keepsMbk

theorem of_header (h : s.At k) (hs : s.SameButHeader t) : t.At k := by
  refine h.of_macroblock ?_ hs.mbk
  rw [show t = _ from hs]
  rfl

end State.At

/-! ## The parts of the header

The layer keeps `MB.cbp` until CBPY; so its steps start from the state of the codewords alone with another `MB.cbp`. -/

section

variable {α : Type} {b : α} {s t : State}

theorem ok_of_bind_get {f : State → Act α} (h : (get >>= f : Act α) s = .ok b t) : f s s = .ok b t := h

theorem ok_of_bind_update {g : State → State} {f : Unit → Act α} (h : (update g >>= f) s = .ok b t) : f () (g s) = .ok b t := h

end

section

variable {s u : State} {c : BitVec 6}

theorem readsAcPred_of_ok (h : readAcPred (s.setCbp c) = .ok () u) :
    ∃ t, s.ReadsAcPred t ∧ u = t.setCbp c ∧ t.mb.cbp = s.mb.cbp := by
  have hreads : ∃ t, s.ReadsAcPred t := by
    by_cases hmode : s.mb.mode = .intra ∨ s.mb.mode = .intraQ
    · have h := ok_of_bind_get h
      obtain ⟨b, v, hb, -⟩ := (bind_ok_iff _ _ _ _ _).1 ((congrFun (if_pos ((isIntraMode_iff s.mb.mode).2 hmode)) _).symm.trans h)
      obtain rfl := readBit_ok hb
      exact ⟨_, (if_pos hmode).mpr ⟨b, reads_of_acPred (readBit_congr (t := s) hb rfl rfl rfl)⟩⟩
    · exact ⟨_, (if_neg hmode).mpr rfl⟩
  obtain ⟨t, ht⟩ := hreads
  obtain ⟨hok, hcbp⟩ := readAcPred_of_reads ht c
  exact ⟨t, ht, (EStateM.Result.ok.inj (h.symm.trans hok)).2, hcbp⟩

theorem readsMcsel_of_ok (h : readMcsel (s.setCbp c) = .ok () u) : ∃ t, s.ReadsMcsel t ∧ u = t.setCbp c ∧ t.mb.cbp = s.mb.cbp := by
  have hreads : ∃ t, s.ReadsMcsel t := by
    by_cases hsel : s.vop.isSprite = true ∧ (s.mb.mode = .inter ∨ s.mb.mode = .interQ)
    · have hcond : (s.vop.isSprite && (decide (s.mb.mode = .inter) || decide (s.mb.mode = .interQ))) = true := by
        simpa using hsel
      have h := ok_of_bind_get (ok_of_bind_update h)
      obtain ⟨b, v, hb, -⟩ := (bind_ok_iff _ _ _ _ _).1 ((congrFun (if_pos hcond) _).symm.trans h)
      obtain rfl := readBit_ok hb
      have hb := readBit_congr (t := s.setMcsel false) hb rfl rfl rfl
      exact ⟨_, (if_pos hsel).mpr ⟨b, reads_of_mcsel hb⟩⟩
    · exact ⟨_, (if_neg hsel).mpr rfl⟩
  obtain ⟨t, ht⟩ := hreads
  obtain ⟨hok, hcbp⟩ := readMcsel_of_reads ht c
  exact ⟨t, ht, (EStateM.Result.ok.inj (h.symm.trans hok)).2, hcbp⟩

theorem reads_of_readCbpy (h : readCbpy (cbpcOf s.mb.cbp) (s.setCbp c) = .ok () u) : ∃ y, s.Reads .cbpy y u := by
  obtain ⟨r, v, hp, -⟩ := (bind_ok_iff _ _ _ _ _).1 h
  obtain ⟨-, rfl, -⟩ := parse_vlc_fits hp
  have hreads := reads_of_cbpy (parse_congr (t := s) hp (State.ahead_congr rfl rfl rfl))
  have hu := (EStateM.Result.ok.inj (h.symm.trans (readCbpy_of_reads hreads c))).2
  exact ⟨_, hu ▸ hreads⟩

theorem readsDquant_of_ok (h : readDquant s = .ok () u) : s.ReadsDquant u := by
  rw [readDquant, bind_apply_ok _ _ _ _ _ (get_apply s)] at h
  by_cases hmode : s.mb.mode = .interQ ∨ s.mb.mode = .intraQ
  · rw [if_pos ((hasDquant_iff s.mb.mode).2 hmode)] at h
    obtain ⟨r, v, hp, hu⟩ := (bind_ok_iff _ _ _ _ _).1 h
    cases hu
    rw [State.ReadsDquant, if_pos hmode]
    exact ⟨_, reads_of_dquant hp⟩
  · rw [if_neg (mt (hasDquant_iff s.mb.mode).1 hmode)] at h
    cases h
    rw [State.ReadsDquant, if_neg hmode]

end

/-! ## The blocks -/

/-- Blocks that the layer decodes with success run one after another. -/
theorem runsAll_of_forEach {f : Nat → Fin 6 → Act Unit} {c : Fin 6 → Instr}
    (hx : ∀ b s, exec (c b) s = runOnMacroblock s.mbk (do f s.mbk b; pure .none) s) (hr : ∀ k b, Act.Rel State.SameButCoded (f k b))
    (l : List (Fin 6)) {k : Nat} {s t : State} (hat : s.At k) (h : forEach l (f k) s = .ok () t) : RunsAll (l.map c) s t := by
  induction l generalizing s with
  | nil =>
    cases h
    rfl
  | cons b l ih =>
    obtain ⟨a, m, hb, hl⟩ := (bind_ok_iff _ _ _ _ _).1 h
    have hsame := hr k b s
    rw [hb] at hsame
    refine ⟨m, ⟨⟨.none, exec_onMacroblock_ok ?_ hat.opened hat.inFrame hb⟩, ?_, ?_⟩, ih (hat.of_coded hsame) hl⟩
    · rw [hx, hat.mbk]
    · rw [show m = _ from hsame]
    · rw [show m = _ from hsame]

theorem runsAll_of_intraBlocks {k : Nat} {s t : State} (hat : s.At k) (h : forEach blocks (fun b => intraBlock k b) s = .ok () t) :
    RunsAll [.intraBlock 0, .intraBlock 1, .intraBlock 2, .intraBlock 3, .intraBlock 4, .intraBlock 5] s t :=
  runsAll_of_forEach (c := .intraBlock) (fun _ _ => rfl) intraBlock_coded blocks hat h

theorem runsAll_of_interBlocks {k : Nat} {s t : State} (hat : s.At k) (h : forEach blocks (fun b => interBlock k b) s = .ok () t) :
    RunsAll [.interBlock 0, .interBlock 1, .interBlock 2, .interBlock 3, .interBlock 4, .interBlock 5] s t :=
  runsAll_of_forEach (c := .interBlock) (fun _ _ => rfl) interBlock_coded blocks hat h

/-! ## The macroblock of an I VOP -/

theorem readMcbpcI_ok {n : Nat} {s u : State} {mode : MbMode} {c : BitVec 2} (h : readMcbpcI (n + 1) s = .ok (mode, c) u) :
    ∃ r v, parse (vlc McbpcRow.code mcbpcITable) s = .ok r v ∧ (r.sym = .stuffing ∨ r.sym = .mb mode c ∧ v = u) := by
  rw [readMcbpcI] at h
  obtain ⟨r, v, hp, h⟩ := (bind_ok_iff _ _ _ _ _).1 h
  refine ⟨r, v, hp, ?_⟩
  cases hs : r.sym with
  | stuffing => exact .inl rfl
  | mb m d =>
    rw [hs] at h
    cases h
    exact .inr ⟨rfl, rfl⟩

theorem syntaxI_of_mbI {k : Nat} {s t : State} (hat : s.At k) (h : mbI k s = .ok () t) : s.SyntaxI := by
  rw [mbI, bind_apply_ok _ _ _ _ _ (get_apply s), State.fuel] at h
  obtain ⟨⟨mode, c⟩, s1, hm, h⟩ := (bind_ok_iff _ _ _ _ _).1 h
  obtain ⟨r, v, hp, hs | ⟨hs, rfl⟩⟩ := readMcbpcI_ok hm
  · obtain ⟨hr, -, -⟩ := parse_vlc_fits hp
    exact .inl ((mcbpcI_stuffing r hr).1.1 hs ▸ (reads_of_mcbpcI hp).1)
  · obtain ⟨hr, -, -⟩ := parse_vlc_fits hp
    have hmcbpc := reads_of_mcbpcI hp
    rw [hs] at hmcbpc
    have hne : r.ctor ≠ .mcbpcI_stuff := fun hc => by
      have := (mcbpcI_stuffing r hr).1.2 hc
      rw [hs] at this
      cases this
    obtain ⟨b, v2, hb, h⟩ := (bind_ok_iff _ _ _ _ _).1 (ok_of_bind_update h)
    obtain rfl := readBit_ok hb
    obtain ⟨_, v4, hy, h⟩ := (bind_ok_iff _ _ _ _ _).1 (ok_of_bind_update h)
    obtain ⟨_, v5, hq, h⟩ := (bind_ok_iff _ _ _ _ _).1 h
    have hac := reads_of_acPred (readBit_congr (t := v.setMcbpc (.mb mode c)) hb rfl rfl rfl)
    have hc : c = cbpcOf (((v.setMcbpc (.mb mode c)).advance 1).setAcPred b).mb.cbp := (cbpcOf_joinCbp _ c).symm
    obtain ⟨y, hcbpy⟩ := reads_of_readCbpy (c := v.mb.cbp) (u := v4) (hc ▸ hy)
    have hquant := readsDquant_of_ok hq
    have hsame := (((sameButHeader_of_mcbpcI hmcbpc).trans (sameButHeader_of_acPred hac)).trans (sameButHeader_of_cbpy hcbpy)).trans
      hquant.sameButHeader
    exact .inr ⟨_, _, y, _, _, v4, v5, t, hmcbpc, hne, hac, hcbpy, hquant, runsAll_of_intraBlocks (hat.of_header hsame) h⟩

/-! ## The header of a P or S macroblock -/

theorem readMcbpcP_ok {n : Nat} {s u : State} {p : Option (MbMode × BitVec 2)} (h : readMcbpcP (n + 1) s = .ok p u) :
    (readBit s = .ok true u ∧ p = none)
      ∨ ∃ r v w, readBit s = .ok false v ∧ parse (vlc McbpcRow.code mcbpcPTable) v = .ok r w
          ∧ (r.sym = .stuffing ∨ ∃ mode c, r.sym = .mb mode c ∧ p = some (mode, c) ∧ w = u) := by
  rw [readMcbpcP_succ] at h
  obtain ⟨b, v, hb, h⟩ := (bind_ok_iff _ _ _ _ _).1 h
  cases b with
  | true =>
    cases h
    exact .inl ⟨hb, rfl⟩
  | false =>
    obtain ⟨r, w, hp, h⟩ := (bind_ok_iff _ _ _ _ _).1 h
    refine .inr ⟨r, v, w, hb, hp, ?_⟩
    cases hs : r.sym with
    | stuffing => exact .inl rfl
    | mb mode c =>
      rw [hs] at h
      cases h
      exact .inr ⟨mode, c, rfl, rfl, rfl⟩

/-- No row of MCBPC_P means a macroblock that is not coded (R161). -/
theorem mcbpcP_coded : ∀ r ∈ mcbpcPTable, ∀ mode c, r.sym = .mb mode c → mode ≠ .notCoded := by
  have hrows : ∀ r ∈ mcbpcPTable, (match r.sym with | .mb mode _ => mode | .stuffing => .intra) ≠ .notCoded := by decide
  intro r hr mode c hs
  have := hrows r hr
  rwa [hs] at this

section

variable {s t : State}

theorem State.ReadsMcsel.mode (h : s.ReadsMcsel t) : t.mb.mode = s.mb.mode := by
  unfold State.ReadsMcsel at h
  dsimp only at h
  split at h
  · obtain ⟨b, h⟩ := h
    obtain ⟨b, -, -, rfl⟩ := reads_mcsel h
    rfl
  · rw [h]

theorem State.ReadsAcPred.mode (h : s.ReadsAcPred t) : t.mb.mode = s.mb.mode := by
  unfold State.ReadsAcPred at h
  split at h
  · obtain ⟨b, h⟩ := h
    obtain ⟨b, -, -, rfl⟩ := reads_acPred h
    rfl
  · rw [h]

theorem State.ReadsDquant.mode (h : s.ReadsDquant t) : t.mb.mode = s.mb.mode := by
  unfold State.ReadsDquant at h
  split at h
  · obtain ⟨i, h⟩ := h
    obtain ⟨r, -, -, -, rfl⟩ := reads_dquant h
    rfl
  · rw [h]

/-- A macroblock with a header is coded (R111). -/
theorem State.HeaderOfP.mode (h : s.HeaderOfP t) : t.mb.mode ≠ .notCoded := by
  obtain ⟨m, y, s1, s2, s3, s4, s5, -, hmcbpc, hm, hsel, hac, hcbpy, hquant⟩ := h
  obtain ⟨r, hr, rfl, -, rfl⟩ := reads_mcbpcP hmcbpc
  obtain ⟨mode, c, hsym⟩ := McbpcRow.sym_of_ne_stuffing fun hs => hm ((mcbpcP_stuffing r hr).1.1 hs)
  obtain ⟨y, -, -, -, rfl⟩ := reads_cbpy hcbpy
  rw [hquant.mode]
  show s4.mb.mode ≠ _
  rw [hac.mode, hsel.mode, hsym]
  exact mcbpcP_coded r hr mode c hsym

/-- The steps of the layer from the mode to `apply_dquant`, after `not_coded` 0 and a row that is no stuffing. -/
theorem headerOfP_of_ok {v w : State} {r : McbpcRow} {mode : MbMode} {c : BitVec 2} {rest : Act Unit} (hb : readBit s = .ok false v)
    (hp : parse (vlc McbpcRow.code mcbpcPTable) v = .ok r w) (hs : r.sym = .mb mode c)
    (h : (do readMcsel; readAcPred; readCbpy c; readDquant; rest : Act Unit) (w.setMb { w.mb with mode := mode }) = .ok () t) :
    ∃ u, s.HeaderOfP u ∧ rest u = .ok () t := by
  obtain ⟨hr, -, -⟩ := parse_vlc_fits hp
  have hcoded := reads_of_notCoded hb
  have hmcbpc := reads_of_mcbpcP (s := v.setNotCoded false) hp
  rw [hs] at hmcbpc
  have hne : r.ctor ≠ .mcbpcP_stuff := fun hc => by
    have := (mcbpcP_stuffing r hr).1.2 hc
    rw [hs] at this
    cases this
  obtain ⟨_, w1, hsel, h⟩ := (bind_ok_iff _ _ _ _ _).1 h
  obtain ⟨_, w2, hac, h⟩ := (bind_ok_iff _ _ _ _ _).1 h
  obtain ⟨_, w3, hy, h⟩ := (bind_ok_iff _ _ _ _ _).1 h
  obtain ⟨_, w4, hq, hrest⟩ := (bind_ok_iff _ _ _ _ _).1 h
  rw [← State.setMcbpc_setCbp w mode c] at hsel
  obtain ⟨u1, hmcsel, rfl, hcbp1⟩ := readsMcsel_of_ok hsel
  obtain ⟨u2, hacPred, rfl, hcbp2⟩ := readsAcPred_of_ok hac
  have hc : c = cbpcOf u2.mb.cbp := by
    rw [hcbp2, hcbp1]
    exact (cbpcOf_joinCbp _ c).symm
  obtain ⟨y, hcbpy⟩ := reads_of_readCbpy (u := w3) (hc ▸ hy)
  exact ⟨w4, ⟨_, y, _, _, u1, u2, w3, hcoded, hmcbpc, hne, hmcsel, hacPred, hcbpy, readsDquant_of_ok hq⟩, hrest⟩

end

/-! ## The vectors and the prediction of a P or S macroblock -/

theorem vectorsRead_of_forEach {k : Nat} {l : List (Fin 4)} {s t : State} (h : forEach l (fun b => do
      let v ← decodeMv k b
      update (fun s => s.setMv b v)) s = .ok () t) : VectorsRead l k s t := by
  induction l generalizing s with
  | nil =>
    cases h
    rfl
  | cons b l ih =>
    obtain ⟨_, m, hb, hrest⟩ := (bind_ok_iff _ _ _ _ _).1 h
    obtain ⟨v, u, hv, hm⟩ := (bind_ok_iff _ _ _ _ _).1 hb
    cases hm
    exact ⟨v, u, hv, ih hrest⟩

theorem vectorsOfP_of_ok {k : Nat} {s t : State} (hm : s.mb.mode = .inter ∨ s.mb.mode = .interQ ∨ s.mb.mode = .inter4V)
    (h : pVectors k s = .ok () t) : s.VectorsOfP k t := by
  have h := ok_of_bind_get h
  unfold State.VectorsOfP
  split
  · rename_i hfour
    exact vectorsRead_of_forEach ((congrFun (if_pos hfour) _).symm.trans h)
  · rename_i hfour
    rw [if_neg hfour, if_pos ((hasVectors_iff _).2 hm)] at h
    split
    · rename_i hsel
      rw [if_pos hsel] at h
      cases h
      rfl
    · rename_i hsel
      rw [if_neg hsel] at h
      obtain ⟨v, u, hv, hu⟩ := (bind_ok_iff _ _ _ _ _).1 h
      cases hu
      exact ⟨v, u, hv, rfl⟩

/-- The prediction of the layer is what the commands of motion compensation answer (R320, R326). -/
theorem State.predictedFrom {s : State} (ho : s.opened = true) (k : Nat) (src : StoreSel) (mv : Vector MV 4) (four : Prop)
    [Decidable four] (r : Bool) :
    s.PredictedFrom k src mv four r (s.predictFrom k (s.store src) mv (s.chromaMv (decide four) mv) r) := by
  have answers {i : Instr} {f : State → Result} {v : Result} (hx : exec i s = runCommand (Act.of fun s => .ok (f s) s) s)
      (hv : f s = v) : Answers i s v := by
    rw [Answers, hx, runCommand_of_opened _ s ho, ← hv]
    rfl
  refine ⟨answers rfl rfl, answers rfl rfl, answers rfl rfl, answers rfl rfl, s.chromaMv (decide four) mv, fun h4 => answers rfl ?_,
    fun h1 => answers rfl ?_, answers rfl rfl, answers rfl rfl⟩
  · rw [State.chromaMv, if_pos (decide_eq_true h4)]
  · rw [State.chromaMv, if_neg (by rwa [decide_eq_true_iff])]

/-! ## The macroblock of a P or S VOP -/

section

variable {k : Nat} {s t u v : State}

theorem runsAll_of_pBlocks (hat : u.At k) (hm : u.mb.mode = .intra ∨ u.mb.mode = .intraQ) (h : pBlocks k u = .ok () t) :
    RunsAll [.intraBlock 0, .intraBlock 1, .intraBlock 2, .intraBlock 3, .intraBlock 4, .intraBlock 5] u t :=
  runsAll_of_intraBlocks hat ((congrFun (if_pos ((isIntraMode_iff _).2 hm)) _).symm.trans (ok_of_bind_get h))

/-- Vectors, prediction and blocks of an inter macroblock (R111, R320). -/
theorem interOfP_of_ok (hat : u.At k) (hvop : u.vop.pictureType = .p ∨ u.vop.pictureType = .s)
    (hm : u.mb.mode = .inter ∨ u.mb.mode = .interQ ∨ u.mb.mode = .inter4V) (hv : pVectors k u = .ok () v)
    (h : pBlocks k v = .ok () t) :
    ∃ p : Vector (Vector Byte 64) 6, u.VectorsOfP k v
      ∧ v.PredictedFrom k .refNew v.mb.mv (v.mb.mode = .inter4V) v.vop.roundingType p
      ∧ RunsAll [.interBlock 0, .interBlock 1, .interBlock 2, .interBlock 3, .interBlock 4, .interBlock 5] { v with pred := p } t := by
  have hvectors := vectorsOfP_of_ok hm hv
  obtain ⟨-, hmode, hmbk, hvop'⟩ := pVectors_of_vectors hm hvectors
  have hsame := pVectors_macroblock k u
  rw [hv] at hsame
  have hatv : v.At k := hat.of_macroblock hsame hmbk
  have hintra : ¬isIntraMode v.mb.mode = true := by rw [hmode]; rcases hm with hm | hm | hm <;> rw [hm] <;> decide
  have hpred := v.predictedFrom hatv.opened k .refNew v.mb.mv (v.mb.mode = .inter4V) v.vop.roundingType
  have h := ok_of_bind_update ((congrFun (if_neg hintra) _).symm.trans (ok_of_bind_get h))
  rw [State.predictP_of_predicted (by rw [hvop']; exact hvop) hpred] at h
  exact ⟨_, hvectors, hpred, runsAll_of_interBlocks ⟨hatv.mbk, hatv.opened, hatv.inFrame⟩ h⟩

theorem syntaxP_of_mbP (hvop : s.vop.pictureType = .p ∨ s.vop.pictureType = .s) (hat : s.At k) (h : mbP k s = .ok () t) :
    s.SyntaxP k := by
  rw [mbP, bind_apply_ok _ _ _ _ _ (get_apply s), State.fuel] at h
  obtain ⟨p, s1, hm, h⟩ := (bind_ok_iff _ _ _ _ _).1 h
  obtain ⟨hb, -⟩ | ⟨r, v, w, hb, hp, hs | ⟨mode, c, hs, rfl, rfl⟩⟩ := readMcbpcP_ok hm
  · exact .inl ⟨_, reads_of_notCoded hb⟩
  · obtain ⟨hr, -, -⟩ := parse_vlc_fits hp
    exact .inr (.inl ⟨_, _, reads_of_notCoded hb, (mcbpcP_stuffing r hr).1.1 hs ▸ reads_of_mcbpcP hp⟩)
  · obtain ⟨u, hheader, h⟩ := headerOfP_of_ok hb hp hs (ok_of_bind_update h)
    obtain ⟨_, v, hv, hblocks⟩ := (bind_ok_iff _ _ _ _ _).1 h
    have hatu := hat.of_header hheader.sameButHeader
    refine .inr (.inr ⟨u, hheader, ?_⟩)
    by_cases hmode : u.mb.mode = .intra ∨ u.mb.mode = .intraQ
    · cases (pVectors_intra hmode).symm.trans hv
      exact .inl ⟨hmode, t, runsAll_of_pBlocks hatu hmode hblocks⟩
    · have hinter : u.mb.mode = .inter ∨ u.mb.mode = .interQ ∨ u.mb.mode = .inter4V := by
        have hcoded := hheader.mode
        cases hmb : u.mb.mode <;> simp [hmb] at hmode hcoded ⊢
      obtain ⟨p, hinter'⟩ := interOfP_of_ok hatu (by rwa [hheader.sameButHeader.vop]) hinter hv hblocks
      exact .inr ⟨hinter, v, t, p, hinter'⟩

end

/-! ## The macroblock of a B VOP -/

section

variable {s t : State}

/-- The end of a header with BMBTYPE: the pattern, and `DBQUANT` where the type and the pattern ask for it (R183). -/
theorem readsDbquant_of_ok {c : BitVec 6} (h : (if s.mb.btype ≠ .direct ∧ c ≠ 0#6 then do
      let d ← parse (vlc QuantRow.code dbquantTable)
      update (fun s => s.offsetQp d.delta)
    else pure () : Act Unit) s = .ok () t) :
    if s.mb.btype ≠ .direct ∧ c ≠ 0#6 then ∃ d : Instr, s.Reads .dbquant d t else t = s := by
  split at h
  · rename_i hquant
    rw [if_pos hquant]
    obtain ⟨d, u, hp, hu⟩ := (bind_ok_iff _ _ _ _ _).1 h
    cases hu
    exact ⟨_, reads_of_dbquant hp⟩
  · rename_i hquant
    cases h
    rw [if_neg hquant]

theorem headerOfB_of_ok (h : readBHeader s = .ok () t) : s.HeaderOfB t := by
  obtain ⟨b, u, hb, h⟩ := (bind_ok_iff _ _ _ _ _).1 h
  cases b with
  | true =>
    cases h
    exact .inl (reads_of_modb1 hb)
  | false =>
    obtain ⟨noCbp, v, hnoCbp, h⟩ := (bind_ok_iff _ _ _ _ _).1 h
    obtain ⟨r, w, hp, h⟩ := (bind_ok_iff _ _ _ _ _).1 h
    have h := ok_of_bind_update h
    obtain ⟨-, rfl, -⟩ := parse_vlc_fits hp
    cases noCbp with
    | true =>
      obtain ⟨c, x, hc, h⟩ := (bind_ok_iff _ _ _ _ _).1 h
      cases hc
      have hmodb := reads_of_modb2 (m := .typeOnly) (i := .modb_01) (by simp [modbTable]) hb hnoCbp
      have htype := reads_of_bmbtype (parse_congr (t := v.setModb .typeOnly) hp (State.ahead_congr rfl rfl rfl))
      have hzero : ¬(r.btype ≠ .direct ∧ BitVec.ofNat 6 0 ≠ 0#6) := fun h => h.2 rfl
      cases (congrFun (if_neg hzero) _).symm.trans (ok_of_bind_update h)
      exact .inr (.inl ⟨_, _, hmodb, htype⟩)
    | false =>
      have hmodb := reads_of_modb2 (m := .typeAndCbpb) (i := .modb_00) (by simp [modbTable]) hb hnoCbp
      obtain ⟨c, x, hc, h⟩ := (bind_ok_iff _ _ _ _ _).1 h
      obtain ⟨-, rfl, -⟩ := readBits_fits hc
      exact .inr (.inr ⟨_, _, _, _, _, hmodb, reads_of_bmbtype hp, reads_of_cbpb hc, readsDbquant_of_ok (ok_of_bind_update h)⟩)

theorem vectorRead_of_ok {p v : MV} {f : Nat} (h : decodeVector p f s = .ok v t) : s.VectorRead f p v t := by
  obtain ⟨dx, m, hx, h⟩ := (bind_ok_iff _ _ _ _ _).1 h
  obtain ⟨dy, u, hy, h⟩ := (bind_ok_iff _ _ _ _ _).1 h
  cases h
  exact ⟨dx, dy, m, hx, hy, rfl⟩

theorem forwardRead_of_ok (h : forwardVector s = .ok () t) : s.ForwardRead t := by
  obtain ⟨v, u, hv, h⟩ := (bind_ok_iff _ _ _ _ _).1 (ok_of_bind_get h)
  cases h
  exact ⟨v, u, vectorRead_of_ok hv, rfl⟩

theorem backwardRead_of_ok (h : backwardVector s = .ok () t) : s.BackwardRead t := by
  obtain ⟨v, u, hv, h⟩ := (bind_ok_iff _ _ _ _ _).1 (ok_of_bind_get h)
  cases h
  exact ⟨v, u, vectorRead_of_ok hv, rfl⟩

variable {k : Nat}

theorem runs_of_directMv (hat : s.At k) (d : MV) : s.Runs (.directMv k d) (s.direct k d) :=
  ⟨⟨.none, runOnMacroblock_opened k _ s hat.opened hat.inFrame⟩, rfl, rfl⟩

theorem vectorsOfB_of_ok (hat : s.At k) (h : bVectors k s = .ok () t) : s.VectorsOfB k t := by
  have h := ok_of_bind_get h
  unfold State.VectorsOfB
  cases htype : s.mb.btype with
  | forward =>
    rw [htype] at h
    exact forwardRead_of_ok h
  | backward =>
    rw [htype] at h
    exact backwardRead_of_ok h
  | interpolate =>
    rw [htype] at h
    obtain ⟨_, m, hf, hb⟩ := (bind_ok_iff _ _ _ _ _).1 h
    exact ⟨m, forwardRead_of_ok hf, backwardRead_of_ok hb⟩
  | direct =>
    rw [htype] at h
    obtain ⟨dx, m, hx, h⟩ := (bind_ok_iff _ _ _ _ _).1 h
    obtain ⟨dy, u, hy, h⟩ := (bind_ok_iff _ _ _ _ _).1 h
    cases h
    have hm := decodeDelta_coded 1 s
    have hu := decodeDelta_coded 1 m
    rw [hx] at hm
    rw [hy] at hu
    exact ⟨dx, dy, m, u, hx, hy, runs_of_directMv (hat.of_coded (State.SameButCoded.trans s m u hm hu)) _⟩
  | directNoneMv =>
    rw [htype] at h
    cases h
    exact runs_of_directMv hat _

/-- The prediction of a B macroblock is the one of R326. -/
theorem State.predictedB (ho : s.opened = true) (k : Nat) : s.PredictedB k (s.predictB k).pred := by
  have hfour : s.bFourVectors k = decide ((s.mb.btype = .direct ∨ s.mb.btype = .directNoneMv)
      ∧ (s.refmv.getD k MbInfo.reset).mode = .inter4V) := by
    rw [State.bFourVectors, Bool.decide_and, Bool.decide_or]
    rfl
  have hmean (f b : Vector (Vector Byte 64) 6) (j : Fin 6) (i : Fin 64) :
      (Vector.ofFn fun j : Fin 6 => average f[j] b[j])[j][i].toNat = (f[j][i].toNat + b[j][i].toNat + 1) / 2 := by
    have hf := f[j][i].isLt
    have hb := b[j][i].isLt
    simp only [average, Vector.getElem_ofFn, BitVec.toNat_ofNat, Fin.getElem_fin] at *
    omega
  unfold State.PredictedB State.predictB
  rw [hfour]
  cases htype : s.mb.btype with
  | forward => exact s.predictedFrom ho k .refOld _ _ _
  | backward => exact s.predictedFrom ho k .refNew _ _ _
  | interpolate | direct | directNoneMv =>
    exact ⟨_, _, s.predictedFrom ho k .refOld _ _ _, s.predictedFrom ho k .refNew _ _ _, hmean _ _⟩

theorem syntaxB_of_mbB (hnot : (s.refmv.getD k MbInfo.reset).mode ≠ .notCoded) (hat : s.At k) (h : mbB k s = .ok () t) :
    s.SyntaxB k := by
  have hstart := s.startRow_eq k
  have hskip : ¬((s.startRow k).refmvAt k).mode = .notCoded := by rwa [State.refmvAt, hstart]
  have h := (congrFun (if_neg hskip) _).symm.trans (ok_of_bind_get (ok_of_bind_update h))
  obtain ⟨_, u, hheader, h⟩ := (bind_ok_iff _ _ _ _ _).1 (ok_of_bind_update h)
  obtain ⟨_, v, hvectors, h⟩ := (bind_ok_iff _ _ _ _ _).1 h
  have h := ok_of_bind_update h
  rw [hstart] at hheader
  have hheader := headerOfB_of_ok hheader
  have hatu : u.At k := by
    refine State.At.of_header ?_ (readBHeader_of_header hheader).2
    exact ⟨hat.mbk, hat.opened, hat.inFrame⟩
  have hkeeps := bVectors_keepsMbk k u
  have hsame := bVectors_macroblock k u
  rw [hvectors] at hkeeps hsame
  have hatv : v.At k := hatu.of_macroblock hsame hkeeps
  have hpred := v.predictedB hatv.opened k
  rw [State.predictB_of_predicted hpred] at h
  exact ⟨u, v, t, _, hheader, vectorsOfB_of_ok hatu hvectors, hpred,
    runsAll_of_interBlocks ⟨hatv.mbk, hatv.opened, hatv.inFrame⟩ h⟩

/-! ## The macroblock -/

/-- A macroblock that is decoded with success stands at `BP` (R110 to R112). -/
theorem syntaxOf_of_decodeMb (hat : s.At k) (h : decodeMb k s = .ok () t) : s.SyntaxOf k := by
  unfold State.SyntaxOf
  cases htype : s.vop.pictureType with
  | i =>
    rw [decodeMb_i htype] at h
    obtain ⟨_, u, hbody, -⟩ := (bind_ok_iff _ _ _ _ _).1 h
    exact syntaxI_of_mbI hat hbody
  | p =>
    rw [decodeMb_p (.inl htype)] at h
    obtain ⟨_, u, hbody, -⟩ := (bind_ok_iff _ _ _ _ _).1 h
    exact syntaxP_of_mbP (.inl htype) hat hbody
  | s =>
    rw [decodeMb_p (.inr htype)] at h
    obtain ⟨_, u, hbody, -⟩ := (bind_ok_iff _ _ _ _ _).1 h
    exact syntaxP_of_mbP (.inr htype) hat hbody
  | b =>
    rw [decodeMb_b htype] at h
    by_cases hnot : (s.refmv.getD k MbInfo.reset).mode = .notCoded
    · exact .inl hnot
    · exact .inr (syntaxB_of_mbB hnot hat h)

end

end Sys2Proof.Machine
end

section
/-! PROOFS. The failure of a macroblock, contained in `DECODE_MB` (spec/46_macroblock.md R310, spec/60_exceptions.md R472, R476). -/

namespace Sys2Proof.Machine

/-- Degradation writes the area of the macroblock and, outside a B VOP, its `MBI` entry (R472). -/
theorem State.degrade_eq (s : State) (k : Nat) : s.degrade k = { s with
    cur := (s.copyMb k s.refNew).cur
    mbi := if s.vop.pictureType = .b then s.mbi else s.mbi.set k ⟨.notCoded, s.qp, Vector.replicate 4 MV.zero⟩ } := by
  have hcopy := s.copyMb_eq_cur k s.refNew
  unfold State.degrade
  dsimp only
  generalize s.copyMb k s.refNew = t at hcopy ⊢
  generalize t.cur = cur at hcopy ⊢
  subst hcopy
  split <;> rfl

section

variable {k : Nat} {s u : State} {e : Kind}

/-- In an I VOP the failure of a macroblock is the command's (R476). -/
theorem exec_decodeMb_raised (ho : s.opened = true) (hk : k < s.mbCount) (hi : s.vop.pictureType = .i)
    (h : decodeMb k { s with mbk := k } = .error e u) : exec (.decodeMb k) s = .next (State.raise { u with fail := true } e) := by
  have hsame := decodeMb_macroblock k { s with mbk := k }
  rw [h] at hsame
  have hsame : u = _ := hsame
  have hvop : u.vop.pictureType = .i := by rwa [hsame]
  rw [exec_decodeMb k s ho hk, decodeMbCaught, h]
  dsimp only
  rw [if_pos hvop]

/-- In any other VOP the macroblock is degraded and the command ends with `Ok` (R472). -/
theorem exec_decodeMb_degraded (ho : s.opened = true) (hk : k < s.mbCount) (hi : s.vop.pictureType ≠ .i)
    (h : decodeMb k { s with mbk := k } = .error e u) :
    exec (.decodeMb k) s = .next ((State.degrade { u with fail := true } k).finish .none) := by
  have hsame := decodeMb_macroblock k { s with mbk := k }
  rw [h] at hsame
  have hsame : u = _ := hsame
  have hvop : u.vop.pictureType ≠ .i := by rwa [hsame]
  rw [exec_decodeMb k s ho hk, decodeMbCaught, h]
  dsimp only
  rw [if_neg hvop]

/-- The degraded macroblock: `FAIL`, `QP` as the failure left it, the area of `REF_NEW`, and the `MBI` entry (R472). -/
theorem degraded_of_error (hk : k < s.mbCount) (h : decodeMb k { s with mbk := k } = .error e u) :
    let t := (State.degrade { u with fail := true } k).finish .none
    t.fail = true ∧ t.qp = u.qp
      ∧ (∀ (p : Plane) (a : Nat), s.OwnSample k p a → (t.cur.plane p).read a = (s.refNew.plane p).read a)
      ∧ (s.vop.pictureType ≠ .b → t.mbi = u.mbi.set k ⟨.notCoded, u.qp, Vector.replicate 4 MV.zero⟩) := by
  have hsame := decodeMb_macroblock k { s with mbk := k }
  rw [h] at hsame
  have hsame : u = _ := hsame
  have hvol : u.vol = s.vol := by rw [hsame]
  have hrefNew : u.refNew = s.refNew := by rw [hsame]
  have hvop : u.vop = s.vop := by rw [hsame]
  have hvolFail : State.vol { u with fail := true } = s.vol := hvol
  obtain ⟨harea, -⟩ := State.copyMb_areaCopied (s := { u with fail := true }) (by rwa [State.mbCount_congr hvolFail]) u.refNew
  rw [State.degrade_eq]
  refine ⟨rfl, rfl, fun p a hown => ?_, fun hb => if_neg (hvop ▸ hb)⟩
  rw [← hrefNew]
  exact harea p a ((State.ownSample_congr hvolFail k p a).2 hown)

end

/-- Settles O33: by how the macroblock's decode ends. Where it ends with success its bits are a macroblock; where it raises, it is
degraded, or in an I VOP raises `InvalidData`. -/
theorem decodeMbContainsItsFailure : Obligations.DecodeMbContainsItsFailure := by
  intro k s ho hk
  cases h : decodeMb k { s with mbk := k } with
  | ok a u =>
    refine ⟨u.finish .none, exec_decodeMb_ok ho hk h, fun _ => ⟨rfl, rfl⟩, fun _ _ _ he => (nomatch he),
      fun _ => .inl ⟨rfl, rfl⟩, fun hno => absurd ?_ hno⟩
    exact syntaxOf_of_decodeMb (s := { s with mbk := k }) ⟨rfl, ho, hk⟩ h
  | error e u =>
    obtain rfl := Act.Confined.decodeMb.2 _ _ _ h
    by_cases hi : s.vop.pictureType = .i
    · refine ⟨_, exec_decodeMb_raised ho hk hi h, fun hp => absurd hi hp, fun _ _ hp => absurd hi hp, fun _ => .inr ⟨rfl, rfl⟩,
        fun _ => ⟨rfl, fun _ => rfl, fun hp => absurd hi hp, fun hp => ?_⟩⟩
      rw [hi] at hp
      rcases hp with hp | hp <;> cases hp
    · obtain ⟨hfail, hqp, harea, hmbi⟩ := degraded_of_error hk h
      refine ⟨_, exec_decodeMb_degraded ho hk hi h, fun _ => ⟨rfl, rfl⟩, fun e' u' _ he => ?_, fun hp => absurd hp hi,
        fun _ => ⟨hfail, fun hp => absurd hp hi, fun _ => harea, fun hp => ?_⟩⟩
      · cases he
        exact ⟨hfail, harea, hmbi⟩
      · have hothers := (Act.Confined.decodeMb (k := k)).1 { s with mbk := k }
        rw [h] at hothers
        rw [hmbi (by rcases hp with hp | hp <;> rw [hp] <;> decide), hqp]
        exact hothers.set_mbi _

end Sys2Proof.Machine
end

section
/-! PROOFS. Every encoding decodes to its instruction (spec/30_encoding.md R103 to R109), and the words of the spec's tables. -/

namespace Sys2Proof.Machine

/-- The f_code of an MVD codeword is legal, but for the codeword without residual, which reads none (R106). -/
theorem mvd_fcode_legal {f : Nat} {i : Instr} (htable : i.inTable (.mvd f) = true) (hwf : i.wf = true) (h0 : i ≠ .mvd_0) :
    1 ≤ f ∧ f ≤ 7 := by
  cases CodewordOf.of_inTable htable with
  | mvd0 => exact absurd rfl h0
  | mvd _ hw =>
    rw [hw, mvdWf] at hwf
    simp only [Bool.and_eq_true, decide_eq_true_eq] at hwf
    exact hwf.1

/-- The codeword without residual decodes whatever the f_code. -/
theorem decode_mvd_0 {t : Table} (htable : Instr.mvd_0.inTable t = true) (tail : List Bool) :
    decode t (encode .mvd_0 ++ tail) = .ok .mvd_0 (encode .mvd_0).length := by
  cases t with
  | mvd f => rfl
  | _ => cases htable

/-- What a parse takes whole decodes, whatever follows. -/
theorem decode_of_takes {t : Table} {i : Instr} {w : List Bool} {l : List Nat} (h : Dec.Takes (parseInstr t) i w l)
    (tail : List Bool) : decode t (w ++ tail) = .ok i w.length := by
  rw [decode, h.whole tail 0]
  exact congrArg _ (Nat.zero_add _)

/-- Settles O52: the decoder takes the encodings of the instructions its table can hold. -/
theorem decodeInvertsEncode : Obligations.DecodeInvertsEncode := by
  intro t i tail htable hwf _
  by_cases h0 : i = .mvd_0
  · subst h0
    exact decode_mvd_0 htable tail
  · have hf : ∀ f, t = .mvd f → 1 ≤ f ∧ f ≤ 7 := by
      rintro f rfl
      exact mvd_fcode_legal htable hwf h0
    exact decode_of_takes ((Dec.codes_parseInstr hf).takes i _ _ ⟨htable, hwf, rfl, rfl⟩) tail

/-- A word that is the encoding of a well-formed instruction of the table decodes to it. -/
theorem decode_of_encode {t : Table} {i : Instr} {w : List Bool} {n : Nat} (htable : i.inTable t = true) (hwf : i.wf = true)
    (hres : isReserved i = false) (hw : encode i = w) (hn : w.length = n) : decode t w = .ok i n := by
  subst hw hn
  have h := decodeInvertsEncode t i [] htable hwf hres
  rwa [List.append_nil] at h

/-- Settles O55: each word is the encoding of its instruction. -/
theorem specWordsDecode : Obligations.SpecWordsDecode := by
  unfold Obligations.SpecWordsDecode
  and_intros <;> exact decode_of_encode (by decide) (by decide) (by decide) (by decide) (by decide)

end Sys2Proof.Machine
end

section
/-! PROOFS. Commands and operations on a macroblock that hand nothing back: what they answer, from how their operation ends. -/

namespace Sys2Proof.Machine

variable {a : Act Unit} {s t : State} {e : Kind}

theorem runCommand_unit_ok (ho : s.opened = true) (h : a s = .ok () t) :
    runCommand (do a; pure .none) s = .next (t.finish .none) := by
  rw [runCommand_opened _ s ho, bind_apply_ok _ _ _ _ _ h]
  rfl

theorem runCommand_unit_error (ho : s.opened = true) (h : a s = .error e t) :
    runCommand (do a; pure .none) s = .next (t.raise e) := by
  rw [runCommand_opened _ s ho, bind_apply_error _ _ _ _ _ h]
  rfl

theorem exec_setBp (p : Nat) (s : State) : exec (.setBp p) s = runCommand (do setBp p; pure .none) s := rfl

theorem exec_loadVol (v : VolHeader) (s : State) : exec (.loadVol v) s = runCommand (do loadVol v; pure .none) s := rfl

theorem exec_decodeVop_run (s : State) : exec .decodeVop s = runCommand (do decodeVop; pure .none) s := rfl

theorem exec_spriteTrajectory (s : State) : exec .spriteTrajectory s = runCommand (do spriteTrajectory; pure .none) s := rfl

end Sys2Proof.Machine
end

section
/-! PROOFS. Motion compensation: the interpolated samples and the chroma vectors (spec/47_motion_compensation.md R341 to R347),
and the vectors of direct mode (spec/48_frame_reorder.md R400). -/

namespace Sys2Proof.Machine

/-! ## Samples (R341, R342) -/

section

variable {stride rows : Nat}

theorem refSample_toNat (p : Memory) (hs : 0 < stride) (hr : 0 < rows) (x y : Int) :
    ((refSample p stride rows x y).toNat : Int) = refAt p stride rows x y := by
  rw [refSample, refAt, clamp_eq _ _ _ (by omega), clamp_eq _ _ _ (by omega)]

/-- The weights of a quarter position are of sum 16, so the mean of samples is a sample. -/
theorem interpolate_toNat {dx dy : Int} (hx : 0 ≤ dx ∧ dx < 4) (hy : 0 ≤ dy ∧ dy < 4) (a b c d : Byte) (r : Bool) :
    ((interpolate dx dy a b c d r).toNat : Int) = ((4 - dx) * (4 - dy) * a.toNat + dx * (4 - dy) * b.toNat
      + (4 - dx) * dy * c.toNat + dx * dy * d.toNat + 8 - (if r then 1 else 0)) / 16 := by
  have hr : (r.toNat : Int) = if r then 1 else 0 := by cases r <;> rfl
  have hbit : 0 ≤ (if r then 1 else 0 : Int) ∧ (if r then 1 else 0 : Int) ≤ 1 := by split <;> decide
  rw [interpolate, asr, hr, BitVec.toNat_ofInt]
  generalize (if r then 1 else 0 : Int) = bit at hbit ⊢
  have := a.isLt
  have := b.isLt
  have := c.isLt
  have := d.isLt
  obtain ⟨hx0, hx4⟩ := hx
  obtain ⟨hy0, hy4⟩ := hy
  interval_cases dx <;> interval_cases dy <;> omega

/-- A sample of `mc_block` (R342); where the position is whole the formula is the reference sample. -/
theorem mcBlock_toNat (p : Memory) (hs : 0 < stride) (hr : 0 < rows) (x0 y0 qx qy : Int) (r : Bool) (i : Fin 64) :
    ((mcBlock p stride rows x0 y0 qx qy r)[i].toNat : Int) = mcSample p stride rows (x0 + colOf i) (y0 + rowOf i) qx qy r := by
  have hx : 0 ≤ qx % 4 ∧ qx % 4 < 4 := by omega
  have hy : 0 ≤ qy % 4 ∧ qy % 4 < 4 := by omega
  rw [mcBlock, Fin.getElem_fin, Vector.getElem_ofFn, mcSample]
  simp only [asr, show (2 : Int) ^ 2 = 4 by rfl, add_zero, Fin.eta]
  split
  · rename_i hwhole
    rw [refSample_toNat p hs hr, hwhole.1, hwhole.2]
    split <;> omega
  · rw [interpolate_toNat hx hy]
    simp only [refSample_toNat p hs hr]

end

section

variable {s : State}

theorem State.stride_pos (h : 0 < s.mbCount) (p : Plane) : 0 < s.stride p := by
  have hw : 0 < s.mbw := Nat.pos_of_mul_pos_right h
  cases p <;> simp only [State.stride] <;> omega

theorem State.rows_pos (h : 0 < s.mbCount) (p : Plane) : 0 < s.rows p := by
  have hh : 0 < s.mbh := Nat.pos_of_mul_pos_left h
  cases p <;> simp only [State.rows] <;> omega

/-- A vector of the VOL's unit in quarter samples (R342). -/
theorem State.mcLuma_eq (s : State) (ref : FrameStore) (x y : Int) (v : MV) (r : Bool) :
    s.mcLuma ref x y v r = mcBlock ref.y (16 * s.mbw) (16 * s.mbh) x y
      (if s.vol.quarterpel = true then v.x else 2 * v.x) (if s.vol.quarterpel = true then v.y else 2 * v.y) r := by
  unfold State.mcLuma
  split <;> rfl

theorem State.mcChroma_eq (s : State) (ref : FrameStore) (c : ChromaSel) (x y : Int) (v : MV) (r : Bool) :
    s.mcChroma ref (chromaPlane c) x y v r
      = mcBlock (ref.plane (chromaPlane c)) (8 * s.mbw) (8 * s.mbh) x y (2 * v.x) (2 * v.y) r := by
  cases c <;> rfl

end

/-- Settles O26: both answer a block of `mc_block`, whose samples are those of the formula. -/
theorem motionCompensationInterpolates : Obligations.MotionCompensationInterpolates := by
  intro src x0 y0 v r s ho hcount
  refine ⟨⟨_, answers_of_opened rfl ho rfl, fun i => ?_⟩, fun c => ⟨_, answers_of_opened rfl ho rfl, fun i => ?_⟩⟩
  · rw [State.mcLuma_eq]
    exact mcBlock_toNat _ (s.stride_pos hcount .y) (s.rows_pos hcount .y) _ _ _ _ r i
  · rw [State.mcChroma_eq]
    exact mcBlock_toNat _ (s.stride_pos hcount .u) (s.rows_pos hcount .u) _ _ _ _ r i

/-! ## Chroma vectors (R345, R346) -/

/-- The table of R346 in closed form. -/
theorem chromaRound_getD : ∀ n < 16, chromaRound.toList.getD n 0 = if n ≤ 2 then 0 else if n ≤ 13 then 1 else 2 := by decide

theorem chromaAverage_eq (t : Int) :
    chromaAverage t = 2 * (t / 16) + (if t % 16 ≤ 2 then 0 else if t % 16 ≤ 13 then 1 else 2) := by
  obtain ⟨n, hn⟩ : ∃ n : Nat, t % 16 = n := Int.eq_ofNat_of_zero_le (by omega)
  rw [chromaAverage, asr, hn, Int.toNat_natCast, chromaRound_getD n (by omega)]
  simp only [show (2 : Int) ^ 4 = 16 by rfl]
  norm_cast

/-- Settles O27. -/
theorem chromaVectorsRoundAsTheTables : Obligations.ChromaVectorsRoundAsTheTables := by
  intro s ho half one four
  have hsingle : ∀ v, s.chromaMv1 v = ⟨one v.x, one v.y⟩ := fun _ => rfl
  have hfour : ∀ v0 v1 v2 v3, s.chromaMv4 v0 v1 v2 v3
      = ⟨four (half v0.x + half v1.x + half v2.x + half v3.x), four (half v0.y + half v1.y + half v2.y + half v3.y)⟩ := by
    intro v0 v1 v2 v3
    rw [State.chromaMv4, chromaAverage_eq, chromaAverage_eq]
    rfl
  refine ⟨fun v => ?_, fun v0 v1 v2 v3 => ?_⟩
  · rw [← hsingle]
    exact answers_of_opened rfl ho rfl
  · rw [← hfour]
    exact answers_of_opened rfl ho rfl

/-! ## Direct mode (R400) -/

section

variable {trd : Int} (h : 0 < trd)
include h

theorem directForward_eq (trb co delta : Int) : directForward trb trd co delta = (trb * co).tdiv trd + delta := by
  rw [directForward, quot, if_neg h.ne']

theorem directBackward_eq (trb co delta : Int) :
    directBackward trb trd co delta
      = if delta = 0 then ((trb - trd) * co).tdiv trd else (trb * co).tdiv trd + delta - co := by
  simp only [directBackward, directForward_eq h, quot, if_neg h.ne']

end

/-- Settles O29. -/
theorem directModeVectors : Obligations.DirectModeVectors := by
  intro k delta s ho hk htrd co fwd bwd
  refine (runOnMacroblock_opened k _ s ho hk).trans ?_
  show Host.Outcome.next ((s.direct k delta).finish .none) = _
  simp only [State.direct, directForward_eq htrd, directBackward_eq htrd]
  rfl

end Sys2Proof.Machine
end

section
/-! PROOFS. The operations of the host's header parse: `SET_BP`, `LOAD_VOP`, the sprite trajectory and `GMC_SETUP`
(spec/47_motion_compensation.md R361, R362, spec/49_host_commands.md R425, R438). -/

namespace Sys2Proof.Machine

/-! ## Components of a trajectory, written in the order they are read (R361) -/

/-- `s` after the first trajectory components `vals` have been read and written, with `BP` at `p`. -/
def State.withComponents (s : State) (vals : List Int) (p : Nat) : State :=
  { s with
    bp := p
    gmc := { s.gmc with
      du := Vector.ofFn (fun i : Fin 3 => vals.getD (2 * i.val) s.gmc.du[i])
      dv := Vector.ofFn (fun i : Fin 3 => vals.getD (2 * i.val + 1) s.gmc.dv[i]) } }

/-- Writes the horizontal component of a warping point. -/
def State.setDu (s : State) (i : Fin 3) (v : Int) : State := { s with gmc := { s.gmc with du := s.gmc.du.set i.val v } }

/-- Writes the vertical component of a warping point. -/
def State.setDv (s : State) (i : Fin 3) (v : Int) : State := { s with gmc := { s.gmc with dv := s.gmc.dv.set i.val v } }

theorem getD_append_one (vals : List Int) (v : Int) (j : Nat) (d : Int) :
    (vals ++ [v]).getD j d = if j = vals.length then v else vals.getD j d := by
  grind

/-- Zeros up to length `n` stand for a default of zero below `n`. -/
theorem getD_append_zeros {vals : List Int} {k j : Nat} (hj : j < vals.length + k) (d : Int) :
    (vals ++ List.replicate k 0).getD j d = vals.getD j 0 := by
  grind

section

variable (s : State) (p : Nat) {vals : List Int}

theorem State.withComponents_nil : s.withComponents [] s.bp = s := by
  have hdu : Vector.ofFn (fun i : Fin 3 => s.gmc.du[i]) = s.gmc.du := Vector.ext fun i hi => Vector.getElem_ofFn ..
  have hdv : Vector.ofFn (fun i : Fin 3 => s.gmc.dv[i]) = s.gmc.dv := Vector.ext fun i hi => Vector.getElem_ofFn ..
  simp only [State.withComponents, List.getD_nil, hdu, hdv]

/-- An even component is the horizontal one of its point. -/
theorem State.withComponents_setDu {i : Fin 3} (hlen : vals.length = 2 * i.val) (v : Int) :
    (s.withComponents vals p).setDu i v = s.withComponents (vals ++ [v]) p := by
  have hdu : (s.withComponents vals p).gmc.du.set i.val v = (s.withComponents (vals ++ [v]) p).gmc.du :=
    Vector.ext fun j hj => by
      simp only [State.withComponents, Vector.getElem_set, Vector.getElem_ofFn, getD_append_one, hlen,
        Nat.mul_left_cancel_iff (show 0 < 2 by decide), eq_comm]
  have hdv : (s.withComponents vals p).gmc.dv = (s.withComponents (vals ++ [v]) p).gmc.dv :=
    Vector.ext fun j hj => by
      simp only [State.withComponents, Vector.getElem_ofFn, getD_append_one, hlen]
      rw [if_neg (by omega)]
  unfold State.setDu
  dsimp only
  rw [hdu, hdv]
  rfl

/-- An odd component is the vertical one of its point. -/
theorem State.withComponents_setDv {i : Fin 3} (hlen : vals.length = 2 * i.val + 1) (v : Int) :
    (s.withComponents vals p).setDv i v = s.withComponents (vals ++ [v]) p := by
  have hdv : (s.withComponents vals p).gmc.dv.set i.val v = (s.withComponents (vals ++ [v]) p).gmc.dv :=
    Vector.ext fun j hj => by
      simp only [State.withComponents, Vector.getElem_set, Vector.getElem_ofFn, getD_append_one, hlen,
        Nat.add_right_cancel_iff, Nat.mul_left_cancel_iff (show 0 < 2 by decide), eq_comm]
  have hdu : (s.withComponents vals p).gmc.du = (s.withComponents (vals ++ [v]) p).gmc.du :=
    Vector.ext fun j hj => by
      simp only [State.withComponents, Vector.getElem_ofFn, getD_append_one, hlen]
      rw [if_neg (by omega)]
  unfold State.setDv
  dsimp only
  rw [hdv, hdu]
  rfl

/-- A point that is not in use is as one whose components are zero. -/
theorem State.withComponents_clear {i : Fin 3} (hlen : vals.length = 2 * i.val) :
    (s.withComponents vals p).clearPoint i = s.withComponents (vals ++ [0, 0]) p := by
  rw [show vals ++ [0, 0] = vals ++ [0] ++ [0] by simp, ← s.withComponents_setDv p (i := i) (by simp [hlen]),
    ← s.withComponents_setDu p hlen]
  rfl

end

/-! ## Reading components (R109) -/

section

variable {s : State} {e : Reject} {c : Cursor}

theorem traj_ok {len x : Nat} (h : parseTraj ⟨s.ahead, 0⟩ = .ok (len, x) c) : traj s = .ok (fieldValue len x) (s.advance c.used) := by
  obtain ⟨_, _, ⟨-, hx, -, -⟩, -, -⟩ := Dec.codes_parseTraj.written _ _ _ h
  have hparse : parse parseTraj s = .ok (len, x) (s.advance c.used) := by rw [parse_apply, h]
  rw [traj, bind_apply_ok _ _ _ _ _ hparse, ← signedField_eq len x hx]
  rfl

theorem traj_error (h : parseTraj ⟨s.ahead, 0⟩ = .error e c) : traj s = .error .invalidData (s.advance c.used) := by
  have hparse : parse parseTraj s = .error .invalidData (s.advance c.used) := by rw [parse_apply, h]
  rw [traj, bind_apply_error _ _ _ _ _ hparse]

end

section

variable {s t u : State} {i : Fin 3} {a b : Int} {e : Kind}

theorem trajPoint_eq (i : Fin 3) : trajPoint i = (do
    let du ← traj
    update (fun s => s.setDu i du)
    let dv ← traj
    update (fun s => s.setDv i dv)) := rfl

theorem trajPoint_apply_ok (h1 : traj s = .ok a t) (h2 : traj (t.setDu i a) = .ok b u) : trajPoint i s = .ok () (u.setDv i b) := by
  rw [trajPoint_eq, bind_apply_ok _ _ _ _ _ h1, bind_apply_ok _ _ _ _ _ (update_apply _ _), bind_apply_ok _ _ _ _ _ h2]
  rfl

theorem trajPoint_apply_error_du (h : traj s = .error e t) : trajPoint i s = .error e t := bind_apply_error _ _ _ _ _ h

theorem trajPoint_apply_error_dv (h1 : traj s = .ok a t) (h2 : traj (t.setDu i a) = .error e u) : trajPoint i s = .error e u := by
  rw [trajPoint_eq, bind_apply_ok _ _ _ _ _ h1, bind_apply_ok _ _ _ _ _ (update_apply _ _), bind_apply_error _ _ _ _ _ h2]

end

section

variable {s : State} {vals : List Int} {p n : Nat} {i : Fin 3} {e : Reject} {c : Cursor}

theorem State.withComponents_ahead (s : State) (vals : List Int) (p : Nat) :
    (s.withComponents vals p).ahead = ({ s with bp := p } : State).ahead := State.ahead_congr rfl rfl rfl

/-- What parses at `BP` parses whatever components have been written. -/
theorem traj_withComponents_ok {len x : Nat} (h : parseTraj ⟨({ s with bp := p } : State).ahead, 0⟩ = .ok (len, x) c) :
    traj (s.withComponents vals p) = .ok (fieldValue len x) (s.withComponents vals (p + c.used)) := by
  rw [← s.withComponents_ahead vals] at h
  exact traj_ok h

theorem traj_withComponents_error (h : parseTraj ⟨({ s with bp := p } : State).ahead, 0⟩ = .error e c) :
    traj (s.withComponents vals p) = .error .invalidData (s.withComponents vals (p + c.used)) := by
  rw [← s.withComponents_ahead vals] at h
  exact traj_error h

/-- Both components of a point are read. -/
theorem trajPoint_ok {a b : Int} {rest : List Int} (hlen : vals.length = 2 * i.val)
    (h : TrajectoryRead (a :: b :: rest) { s with bp := p } n) :
    ∃ q m : Nat, trajPoint i (s.withComponents vals p) = .ok () (s.withComponents (vals ++ [a, b]) q)
      ∧ TrajectoryRead rest { s with bp := q } m ∧ p + n = q + m := by
  obtain ⟨len1, x1, m1, c1, h1, rfl, ⟨len2, x2, m2, c2, h2, rfl, hrest, rfl⟩, rfl⟩ := h
  refine ⟨p + c1.used + c2.used, m2, ?_, hrest, by omega⟩
  rw [List.append_cons, ← s.withComponents_setDv _ (i := i) (by simp [hlen])]
  refine trajPoint_apply_ok (traj_withComponents_ok h1) ?_
  rw [s.withComponents_setDu _ hlen]
  exact traj_withComponents_ok h2

/-- The vertical component of a point cannot be read. -/
theorem trajPoint_error_dv {a : Int} (hlen : vals.length = 2 * i.val) (h : TrajectoryRead [a] { s with bp := p } n)
    (herror : parseTraj ⟨({ s with bp := p + n } : State).ahead, 0⟩ = .error e c) :
    trajPoint i (s.withComponents vals p) = .error .invalidData (s.withComponents (vals ++ [a]) (p + n + c.used)) := by
  obtain ⟨len, x, m, d, h1, rfl, rfl, rfl⟩ := h
  refine trajPoint_apply_error_dv (traj_withComponents_ok h1) ?_
  rw [s.withComponents_setDu _ hlen]
  exact traj_withComponents_error herror

end

/-! ## The points in order (R361) -/

/-- One turn of the loop of `sprite_trajectory`, with `w` points in use. -/
def spritePoint (w : Nat) (i : Fin 3) : Act Unit := if i.val < w then trajPoint i else update (fun s => s.clearPoint i)

theorem spritePoint_used {w : Nat} {i : Fin 3} (h : i.val < w) : spritePoint w i = trajPoint i := if_pos h

theorem spritePoint_unused {w : Nat} {i : Fin 3} (h : ¬i.val < w) (s : State) : spritePoint w i s = .ok () (s.clearPoint i) := by
  rw [spritePoint, if_neg h, update_apply]

theorem spriteTrajectory_eq (s : State) : spriteTrajectory s = forEach [0, 1, 2] (spritePoint s.vol.warpPoints) s := rfl

theorem forEach_cons_ok {α : Type} {a : α} {l : List α} {f : α → Act Unit} {s t : State} (h : f a s = .ok () t) :
    forEach (a :: l) f s = forEach l f t := bind_apply_ok _ _ _ _ _ h

theorem forEach_cons_error {α : Type} {a : α} {l : List α} {f : α → Act Unit} {s t : State} {e : Kind} (h : f a s = .error e t) :
    forEach (a :: l) f s = .error e t := bind_apply_error _ _ _ _ _ h

section

variable {s : State} {w : Nat} {e : Reject} {c : Cursor}

/-- The points from `i` on, where the components of those in use parse: the others are zero. -/
theorem forEach_spritePoint_ok (l : List (Fin 3)) {i p n : Nat} {done vals : List Int} (hl : l.map Fin.val = List.range' i l.length)
    (hdone : done.length = 2 * i) (hw : w ≤ i + l.length) (hvals : vals.length = 2 * (w - i))
    (hread : TrajectoryRead vals { s with bp := p } n) :
    forEach l (spritePoint w) (s.withComponents done p)
      = .ok () (s.withComponents (done ++ vals ++ List.replicate (2 * (l.length - (w - i))) 0) (p + n)) := by
  induction l generalizing i p n done vals with
  | nil =>
    obtain rfl := List.eq_nil_of_length_eq_zero (hvals.trans (by simp at hw; omega))
    obtain rfl : n = 0 := hread
    simp [forEach]
  | cons j l ih =>
    simp only [List.map_cons, List.length_cons, List.range'_succ, List.cons.injEq] at hl hw
    obtain ⟨rfl, hl⟩ := hl
    by_cases hj : j.val < w
    · obtain ⟨a, b, rest, rfl⟩ : ∃ a b rest, vals = a :: b :: rest := by
        match vals with
        | [] | [_] => simp at hvals; omega
        | a :: b :: rest => exact ⟨a, b, rest, rfl⟩
      obtain ⟨q, m, hpoint, hrest, hpn⟩ := trajPoint_ok hdone hread
      rw [forEach_cons_ok ((congrFun (spritePoint_used hj) _).trans hpoint),
        ih hl (by simp [hdone]; omega) (by omega) (by simp at hvals; omega) hrest, hpn,
        List.length_cons, show l.length + 1 - (w - j.val) = l.length - (w - (j.val + 1)) by omega]
      simp
    · obtain rfl := List.eq_nil_of_length_eq_zero (hvals.trans (by omega))
      rw [forEach_cons_ok (spritePoint_unused hj _), s.withComponents_clear _ hdone,
        ih (vals := []) hl (by simp [hdone]; omega) (by omega) (by simp; omega) hread, List.length_cons,
        show 2 * (l.length + 1 - (w - j.val)) = 2 * (l.length - (w - (j.val + 1))) + 1 + 1 by omega]
      simp [List.replicate_succ]

/-- The points from `i` on, where a component of those in use does not parse: what was read before it is written (R470). -/
theorem forEach_spritePoint_error (l : List (Fin 3)) {i p n : Nat} {done vals : List Int} (hl : l.map Fin.val = List.range' i l.length)
    (hdone : done.length = 2 * i) (hw : w ≤ i + l.length) (hvals : vals.length < 2 * (w - i))
    (hread : TrajectoryRead vals { s with bp := p } n)
    (herror : parseTraj ⟨({ s with bp := p + n } : State).ahead, 0⟩ = .error e c) :
    forEach l (spritePoint w) (s.withComponents done p)
      = .error .invalidData (s.withComponents (done ++ vals) (p + n + c.used)) := by
  induction l generalizing i p n done vals with
  | nil => simp at hw; omega
  | cons j l ih =>
    simp only [List.map_cons, List.length_cons, List.range'_succ, List.cons.injEq] at hl hw
    obtain ⟨rfl, hl⟩ := hl
    have hj : spritePoint w j = trajPoint j := spritePoint_used (by omega)
    match vals with
    | [] =>
      obtain rfl : n = 0 := hread
      rw [List.append_nil]
      exact forEach_cons_error ((congrFun hj _).trans (trajPoint_apply_error_du (traj_withComponents_error herror)))
    | [a] => exact forEach_cons_error ((congrFun hj _).trans (trajPoint_error_dv hdone hread herror))
    | a :: b :: rest =>
      obtain ⟨q, m, hpoint, hrest, hpn⟩ := trajPoint_ok hdone hread
      rw [hpn] at herror ⊢
      rw [forEach_cons_ok ((congrFun hj _).trans hpoint),
        ih hl (by simp [hdone]; omega) (by omega) (by simp at hvals; omega) hrest herror]
      simp

end

section

variable {s : State} {vals : List Int} {n : Nat} (hw : s.vol.warpPoints ≤ 3) (hread : TrajectoryRead vals s n)
include hw hread

/-- The whole trajectory is read (R361). -/
theorem spriteTrajectory_ok (hlen : vals.length = 2 * s.vol.warpPoints) :
    spriteTrajectory s = .ok () { s with
      bp := s.bp + n
      gmc := { s.gmc with
        du := Vector.ofFn (fun i : Fin 3 => vals.getD (2 * i.val) 0)
        dv := Vector.ofFn (fun i : Fin 3 => vals.getD (2 * i.val + 1) 0) } } := by
  have h := forEach_spritePoint_ok (s := s) (w := s.vol.warpPoints) [0, 1, 2] (i := 0) (done := []) rfl rfl (by simpa using hw)
    (by simpa using hlen) hread
  rw [s.withComponents_nil] at h
  rw [spriteTrajectory_eq, h, List.nil_append, State.withComponents]
  have hzeros : ∀ j < 6, ∀ d, (vals ++ List.replicate (2 * (3 - (s.vol.warpPoints - 0))) 0).getD j d = vals.getD j 0 :=
    fun j hj d => getD_append_zeros (by omega) d
  have hdu : ∀ i : Fin 3, 2 * i.val < 6 := by omega
  have hdv : ∀ i : Fin 3, 2 * i.val + 1 < 6 := by omega
  simp only [List.length_cons, List.length_nil, Nat.zero_add, Nat.reduceAdd, hzeros _ (hdu _), hzeros _ (hdv _)]

/-- The trajectory stops at a component that does not parse (R361, R470). -/
theorem spriteTrajectory_error {e : Reject} {c : Cursor} (hlen : vals.length < 2 * s.vol.warpPoints)
    (herror : parseTraj ⟨({ s with bp := s.bp + n } : State).ahead, 0⟩ = .error e c) :
    spriteTrajectory s = .error .invalidData (s.withComponents vals (s.bp + n + c.used)) := by
  have h := forEach_spritePoint_error (s := s) (w := s.vol.warpPoints) [0, 1, 2] (i := 0) (done := []) rfl rfl (by simpa using hw)
    (by simpa using hlen) hread herror
  rwa [s.withComponents_nil, List.nil_append] at h

end

/-! ## The operations -/

section

variable {s : State} (ho : s.opened = true)
include ho

theorem exec_setBp_inside {p : Nat} (h : p ≤ 8 * s.bslen) :
    exec (.setBp p) s = .next { s with bp := p, status := .ok, result := .none } :=
  runCommand_unit_ok ho ((setBp_apply p s).trans (if_pos h))

theorem refuses_setBp_outside {p : Nat} (h : 8 * s.bslen < p) : Refuses (.setBp p) s .invalidData :=
  runCommand_unit_error ho ((setBp_apply p s).trans (if_neg (by omega)))

theorem exec_gmcSetup : exec .gmcSetup s = .next (s.gmcSetup.finish .none) := runCommand_of_opened _ s ho

end

/-- The sprite vector of R362, in the words of the spec. -/
theorem State.gmcSetup_eq (s : State) : s.gmcSetup = { s with gmc := { s.gmc with gmv :=
    if s.vol.warpPoints = 0 then ⟨0, 0⟩
    else if s.vol.quarterpel = true then ⟨2 * s.gmc.du[0], 2 * s.gmc.dv[0]⟩ else ⟨s.gmc.du[0], s.gmc.dv[0]⟩ } } := by
  unfold State.gmcSetup
  by_cases hw : s.vol.warpPoints = 0 <;> by_cases hq : s.vol.quarterpel = true <;> simp [hw, hq, mapMV, MV.zero]

/-- Settles O28. -/
theorem headerParseOperations : Obligations.HeaderParseOperations := by
  intro s ho
  refine ⟨fun p => exec_setBp_inside ho, fun p => refuses_setBp_outside ho, fun h => runCommand_of_opened _ s ho,
    fun vals n hw hlen hread => ?_, fun vals n e c hw hlen hread herror => ?_, ?_⟩
  · exact runCommand_unit_ok ho (spriteTrajectory_ok hw hread hlen)
  · exact runCommand_unit_error ho (spriteTrajectory_error hw hread hlen herror)
  · rw [exec_gmcSetup ho, State.gmcSetup_eq]
    rfl

end Sys2Proof.Machine
end

section
/-! PROOFS. The reorder buffer and the completion of a VOP (spec/48_frame_reorder.md R385 to R391). -/

namespace Sys2Proof.Machine

/-! ## Evicting (R390, R391) -/

/-- A buffer that is not above the depth keeps its slots. -/
theorem evict_of_le {depth : Nat} {l : List RobSlot} (h : l.length ≤ depth) (n : Nat) (q : List Frame) :
    evict depth n l q = (l, q) := by
  cases n with
  | zero => rfl
  | succ n => rw [evict, if_pos h]

/-- From a buffer above the depth a slot that no other precedes goes to the queue, and evicting goes on. -/
theorem evict_of_gt {depth : Nat} {l : List RobSlot} (h : depth < l.length) (n : Nat) (q : List Frame) :
    ∃ (first : RobSlot) (others : List RobSlot), evict depth (n + 1) l q = evict depth n others (q ++ [first.frame])
      ∧ (first :: others).Perm l ∧ ∀ b ∈ others, TakenBefore first b := by
  obtain ⟨first, others, htake, hperm, hbefore⟩ := takeFirst_spec l (List.length_pos_iff.1 (Nat.zero_lt_of_lt h))
  exact ⟨first, others, by rw [evict, if_neg (by omega), htake], hperm, hbefore⟩

/-- Evicting down to depth zero takes every slot, in the order of R390. -/
theorem evict_all (n : Nat) {l : List RobSlot} (h : l.length = n) (q : List Frame) :
    ∃ order : List RobSlot, evict 0 n l q = ([], q ++ order.map (fun r => r.frame)) ∧ order.Perm l ∧ order.Pairwise TakenBefore := by
  induction n generalizing l q with
  | zero =>
    obtain rfl := List.eq_nil_of_length_eq_zero h
    exact ⟨[], by simp [evict], .refl _, .nil⟩
  | succ n ih =>
    obtain ⟨first, others, hstep, hperm, hbefore⟩ := evict_of_gt (by omega : 0 < l.length) n q
    have hlen := hperm.length_eq
    rw [List.length_cons] at hlen
    obtain ⟨order, hrest, horder, hsorted⟩ := ih (l := others) (by omega) (q ++ [first.frame])
    refine ⟨first :: order, by simp [hstep, hrest], (horder.cons first).trans hperm, hsorted.cons fun b hb => ?_⟩
    exact hbefore b (horder.subset hb)

/-! ## `PUSH` and `DRAIN` -/

section

variable {s : State} (ho : s.opened = true)
include ho

theorem exec_push (src : StoreSel) : exec (.push src) s = .next ((s.push (s.store src)).finish .none) := runCommand_of_opened _ s ho

theorem exec_drain : exec .drain s = .next (s.drain.finish .none) := runCommand_of_opened _ s ho

end

theorem State.push_eq (s : State) (f : FrameStore) : s.push f = { s with
    rob := (evict s.params.reorderDepth (s.rob.length + 1) (s.rob ++ [⟨s.outputOf f, s.robSeq⟩]) s.outq).1
    outq := (evict s.params.reorderDepth (s.rob.length + 1) (s.rob ++ [⟨s.outputOf f, s.robSeq⟩]) s.outq).2
    robSeq := s.robSeq + 1 } := by
  rw [State.push, List.length_append]
  rfl

theorem State.push_lengths (s : State) (f : FrameStore) :
    (s.push f).rob.length + (s.push f).outq.length = s.rob.length + s.outq.length + 1 := by
  rw [State.push_eq, evict_lengths, List.length_append, List.length_singleton]
  omega

/-- Settles O40. -/
theorem pushEvictsTheLowestPoc : Obligations.PushEvictsTheLowestPoc := by
  intro src s ho _ slot
  have hlen : (s.rob ++ [slot]).length = s.rob.length + 1 := List.length_append
  refine ⟨fun hroom => ?_, fun hfull => ?_⟩
  · rw [exec_push ho, State.push_eq, evict_of_le (hlen ▸ hroom)]
    rfl
  · obtain ⟨first, others, hstep, hperm, hbefore⟩ := evict_of_gt (by omega : s.params.reorderDepth < (s.rob ++ [slot]).length)
      s.rob.length s.outq
    have hothers : others.length ≤ s.params.reorderDepth := by
      have := hperm.length_eq
      rw [List.length_cons] at this
      omega
    refine ⟨first, others, ?_, hperm, hbefore⟩
    rw [exec_push ho, State.push_eq, hstep, evict_of_le hothers]
    rfl

/-- Settles O41. -/
theorem drainOutputsInAscendingPoc : Obligations.DrainOutputsInAscendingPoc := by
  intro s ho
  obtain ⟨order, hevict, hperm, hsorted⟩ := evict_all s.rob.length rfl s.outq
  refine ⟨order, ?_, hperm, hsorted⟩
  rw [exec_drain ho, State.drain, hevict]
  rfl

/-! ## Completion (R385 to R387) -/

section

variable {s : State} (ho : s.opened = true)
include ho

theorem exec_completeRef : exec .completeRef s = .next (s.completeRef.finish .none) := runCommand_of_opened _ s ho

theorem exec_completeB : exec .completeB s = .next (s.completeB.finish .none) := runCommand_of_opened _ s ho

end

/-- The state whose `CUR` a completion pushes: the references are shifted, and an I VOP ends the wait for a key frame (R385). -/
def State.shiftReferences (s : State) : State :=
  { s with
    refmv := s.mbi
    refmvValid := true
    refOld := s.refNew
    refNew := s.cur
    waitKeyframe := if s.vop.pictureType = .i then false else s.waitKeyframe }

theorem State.completeRef_eq (s : State) : s.completeRef = s.shiftReferences.push s.cur := by
  unfold State.completeRef State.shiftReferences
  split <;> rfl

/-- Settles O39. -/
theorem completionMovesReferences : Obligations.CompletionMovesReferences := by
  intro s ho
  refine ⟨?_, ?_, ⟨_, exec_completeRef ho, rfl, ?_⟩, ⟨_, exec_completeB ho, rfl, rfl, rfl, rfl, rfl, rfl⟩⟩
  · rw [exec_completeRef ho, State.completeRef_eq]
    exact (exec_push (s := s.shiftReferences) ho .cur).symm
  · exact (exec_completeB ho).trans (exec_push ho .cur).symm
  · rw [State.completeRef_eq]
    exact ⟨rfl, rfl, rfl, rfl⟩

end Sys2Proof.Machine
end

section
/-! PROOFS. `LOAD_VOL`, `RECEIVE_FRAME`, and commands in the wrong state (spec/49_host_commands.md R420, R424, R430). -/

namespace Sys2Proof.Machine

/-! ## `LOAD_VOL` (R424) -/

/-- What `LOAD_VOL` refuses as `InvalidData`, in the words of the rules (R421, R424). -/
theorem headerInvalid_iff_bad (v : VolHeader) :
    headerInvalid v = true ↔ (∃ w h, v.size = some (w, h) ∧ (w = 0 ∨ h = 0)) ∨ (∃ m, v.intraMatrix = some m ∧ 0 ∈ m.toList)
      ∨ (∃ m, v.interMatrix = some m ∧ 0 ∈ m.toList) := by
  rw [← zeroEntry_iff, ← zeroEntry_iff, headerInvalid, Bool.or_eq_true, Bool.or_eq_true, or_assoc]
  refine or_congr_left ?_
  cases v.size with
  | none => simp
  | some size => simp [Prod.ext_iff]

section

variable {s : State} {v : VolHeader} (ho : s.opened = true)
include ho

theorem refuses_loadVol_invalid (h : headerInvalid v = true) : Refuses (.loadVol v) s .invalidData :=
  runCommand_unit_error ho ((loadVol_apply v s).trans (if_neg (by simp [h])))

theorem refuses_loadVol_tool (h : headerInvalid v = false) (hr : headerRefused v = true) : Refuses (.loadVol v) s .unsupported :=
  runCommand_unit_error ho ((loadVol_apply v s).trans ((if_pos h).trans (if_neg (by simp [hr]))))

theorem exec_loadVol_loaded (h : headerInvalid v = false) (hr : headerRefused v = false) :
    exec (.loadVol v) s = .next ((s.applyVol v).finish .none) :=
  runCommand_unit_ok ho ((loadVol_apply v s).trans ((if_pos h).trans (if_pos hr)))

end

/-- A VOL that changes the size has stores and files made anew (R424). -/
theorem State.applyVol_newSize {s : State} {v : VolHeader} (h : s.sizeAfter v ≠ (s.vol.width, s.vol.height)) :
    s.applyVol v = State.remake { s with
      vol := ⟨true, v.timeIncRes, v.quantType, v.interlaced, v.quarterpel, v.spriteEnable, v.warpPoints, v.warpAccuracy,
        v.resyncMarkerDisable, v.dataPartitioned, v.shape, v.notEightBit, (s.sizeAfter v).1, (s.sizeAfter v).2⟩
      qmIntra := v.intraMatrix.getD defaultIntraMatrix
      qmInter := v.interMatrix.getD defaultInterMatrix } := if_neg h

/-- Settles O43: the outcomes of `loadVol`, each in the words of the statement. -/
theorem loadVolWritesTheGroup : Obligations.LoadVolWritesTheGroup := by
  intro v s ho bad refused size vol loaded n
  have hbad : ¬bad → headerInvalid v = false := fun h => Bool.eq_false_iff.2 fun hv => h ((headerInvalid_iff_bad v).1 hv)
  have hrefused : headerRefused v = true ↔ refused := refusedTool_iff _ _ _ _ _ _
  have htools : ¬refused → headerRefused v = false := fun h => Bool.eq_false_iff.2 fun hv => h (hrefused.1 hv)
  refine ⟨fun hb => ?_, fun hb hr => ?_, fun hb hr hsize => ?_, fun hb hr hsize => ?_⟩
  · exact refuses_loadVol_invalid ho ((headerInvalid_iff_bad v).2 hb)
  · exact refuses_loadVol_tool ho (hbad hb) (hrefused.2 hr)
  · have hloaded : loaded = (s.applyVol v).finish .none := by
      rw [State.applyVol_sameSize hsize]
      simp only [loaded, vol, hsize]
      rfl
    rw [hloaded]
    exact exec_loadVol_loaded ho (hbad hb) (htools hr)
  · rw [exec_loadVol_loaded ho (hbad hb) (htools hr), State.applyVol_newSize hsize]
    rfl

/-! ## `RECEIVE_FRAME` (R430) -/

/-- In `Opened`, a command whose operation raises and changes nothing refuses. -/
theorem refuses_of_opened {i : Instr} {s : State} {f : State → EStateM.Result Kind State Result} {e : Kind}
    (hx : exec i s = runCommand (Act.of f) s) (ho : s.opened = true) (hf : f s = .error e s) : Refuses i s e := by
  rw [Refuses, hx, runCommand_of_opened f s ho, hf]
  rfl

/-- What `RECEIVE_FRAME` answers in `Opened`. -/
def State.received (s : State) : EStateM.Result Kind State Result :=
  match s.outq with
  | fr :: rest => .ok (.frame fr) { s with outq := rest }
  | [] => .error (if s.flushing then .eof else .needMoreData) s

theorem exec_receiveFrame (s : State) : exec .receiveFrame s = runCommand (Act.of State.received) s := by
  refine congrArg (fun f => runCommand (Act.of f) s) (funext fun t => ?_)
  unfold State.received
  cases t.outq with
  | nil => cases t.flushing <;> rfl
  | cons fr rest => rfl

/-- Settles O47. -/
theorem receiveFrameTakesTheHead : Obligations.ReceiveFrameTakesTheHead := by
  intro s ho
  refine ⟨fun fr rest hq => ?_, fun hq hf => ?_, fun hq hf => ?_⟩
  · exact exec_of_opened (t := { s with outq := rest }) (exec_receiveFrame s) ho (by rw [State.received, hq])
  · exact refuses_of_opened (exec_receiveFrame s) ho (by rw [State.received, hq, hf]; rfl)
  · exact refuses_of_opened (exec_receiveFrame s) ho (by rw [State.received, hq, hf]; rfl)

/-! ## The state check (R420, R501) -/

/-- Settles O50: every way a command runs begins with the check of the state. -/
theorem commandInWrongStateChangesNothing : Obligations.CommandInWrongStateChangesNothing := by
  refine ⟨fun i s hi hopen hc => ?_, fun p s ho => exec_openInst_opened p ho⟩
  cases command_meaning i hi with
  | command _ hx => exact (hx s).trans (runCommand_closed _ s hc)
  | onMacroblock _ _ hx => exact (hx s).trans (runOnMacroblock_closed _ _ s hc)
  | opening p hp => exact absurd hp (hopen p)

end Sys2Proof.Machine
end

section
/-! PROOFS. What an operation inside a command leaves to the command: it hands nothing back, and the kinds it raises are
`InvalidData` and `Unsupported` (spec/60_exceptions.md R460 to R467). -/

namespace Sys2Proof.Machine

/-! ## The kinds an operation raises -/

/-- A kind that stands for a failure, and not for a state of the output queue (R467). -/
def Kind.IsFailure (e : Kind) : Prop := e = .invalidData ∨ e = .unsupported

/-- Whatever the operation raises is a failure. -/
def Act.RaisesFailures {α : Type} (a : Act α) : Prop := ∀ (s t : State) (e : Kind), a s = .error e t → e.IsFailure

section

variable {α β : Type}

theorem Act.raisesFailures_of_ok {a : Act α} (h : ∀ s, ∃ v t, a s = .ok v t) : Act.RaisesFailures a := fun s t e he => by
  obtain ⟨v, u, hok⟩ := h s
  cases hok.symm.trans he

theorem Act.raisesFailures_pure (a : α) : Act.RaisesFailures (pure a : Act α) := Act.raisesFailures_of_ok fun s => ⟨a, s, rfl⟩

theorem Act.raisesFailures_get : Act.RaisesFailures (get : Act State) := Act.raisesFailures_of_ok fun s => ⟨s, s, rfl⟩

theorem Act.raisesFailures_update (g : State → State) : Act.RaisesFailures (update g) := Act.raisesFailures_of_ok fun s => ⟨(), g s, rfl⟩

theorem Act.raisesFailures_raise {e : Kind} (h : e.IsFailure) : Act.RaisesFailures (raiseKind e : Act α) := fun _ _ _ he => by
  cases he
  exact h

theorem Act.raisesFailures_require (c : Bool) {e : Kind} (h : e.IsFailure) : Act.RaisesFailures (require c e) := by
  cases c with
  | true => exact Act.raisesFailures_pure ()
  | false => exact Act.raisesFailures_raise h

theorem Act.raisesFailures_bind {x : Act α} {f : α → Act β} (hx : Act.RaisesFailures x) (hf : ∀ a, Act.RaisesFailures (f a)) :
    Act.RaisesFailures (x >>= f) :=
  fun s t e h => by
    rcases (bind_error_iff x f s t e).1 h with h | ⟨a, u, -, h⟩
    · exact hx s t e h
    · exact hf a u t e h

theorem Act.raisesFailures_ite {c : Prop} [Decidable c] {x y : Act α} (hx : Act.RaisesFailures x) (hy : Act.RaisesFailures y) :
    Act.RaisesFailures (if c then x else y) := by
  split
  · exact hx
  · exact hy

theorem Act.raisesFailures_forEach (l : List α) {f : α → Act Unit} (hf : ∀ a, Act.RaisesFailures (f a)) : Act.RaisesFailures (forEach l f) := by
  induction l with
  | nil => exact Act.raisesFailures_pure ()
  | cons a l ih => exact Act.raisesFailures_bind (hf a) fun _ => ih

theorem Act.Confined.raisesFailures {k : Nat} {a : Act α} (h : Act.Confined k a) : Act.RaisesFailures a := fun s t e he => .inl (h.2 s t e he)

/-- An operation followed by the empty result. -/
theorem Act.raisesFailures_andNothing {a : Act Unit} (h : Act.RaisesFailures a) : Act.RaisesFailures (do a; pure Result.none) :=
  Act.raisesFailures_bind h fun _ => Act.raisesFailures_pure _

end

theorem invalidData_isFailure : Kind.invalidData.IsFailure := .inl rfl

theorem unsupported_isFailure : Kind.unsupported.IsFailure := .inr rfl

/-! ## The operations of the commands -/

theorem parse_raisesFailures {α : Type} (d : Dec α) : Act.RaisesFailures (parse d) := (Act.Confined.parse (k := 0) d).raisesFailures

theorem decodeMbCaught_raisesFailures (k : Nat) : Act.RaisesFailures (decodeMbCaught k) := fun s t e h => by
  unfold decodeMbCaught at h
  split at h
  · cases h
  · rename_i hd
    split at h
    · cases h
      exact Act.Confined.decodeMb.raisesFailures _ _ _ hd
    · cases h

theorem vopMacroblock_raisesFailures (k : Nat) : Act.RaisesFailures (vopMacroblock k) :=
  Act.raisesFailures_bind (Act.raisesFailures_update _) fun _ => Act.raisesFailures_bind Act.raisesFailures_get fun _ =>
    Act.raisesFailures_ite (Act.raisesFailures_update _) (decodeMbCaught_raisesFailures k)

theorem vopBody_raisesFailures (q : Nat) : Act.RaisesFailures (vopBody q) :=
  Act.raisesFailures_bind (Act.raisesFailures_update _) fun _ => Act.raisesFailures_bind Act.raisesFailures_get fun _ =>
    Act.raisesFailures_bind (Act.raisesFailures_forEach _ vopMacroblock_raisesFailures) fun _ => Act.raisesFailures_update _

theorem State.vopFault_isFailure {s : State} {e : Kind} (h : s.vopFault = some e) : e.IsFailure := by
  unfold State.vopFault at h
  split_ifs at h <;> cases h
  all_goals first
    | exact invalidData_isFailure
    | exact unsupported_isFailure

theorem decodeVop_raisesFailures : Act.RaisesFailures decodeVop := fun s t e h => by
  unfold decodeVop at h
  split at h
  · rename_i hf
    cases h
    exact State.vopFault_isFailure hf
  · split at h
    · cases h
    · exact vopBody_raisesFailures _ _ _ _ h

theorem loadVol_raisesFailures (v : VolHeader) : Act.RaisesFailures (loadVol v) :=
  Act.raisesFailures_bind (Act.raisesFailures_require _ invalidData_isFailure) fun _ =>
    Act.raisesFailures_bind (Act.raisesFailures_require _ unsupported_isFailure) fun _ => Act.raisesFailures_update _

theorem setBp_raisesFailures (p : Nat) : Act.RaisesFailures (setBp p) :=
  Act.raisesFailures_bind Act.raisesFailures_get fun _ => Act.raisesFailures_bind (Act.raisesFailures_require _ invalidData_isFailure) fun _ =>
    Act.raisesFailures_update _

theorem traj_raisesFailures : Act.RaisesFailures traj := Act.raisesFailures_bind (parse_raisesFailures _) fun _ => Act.raisesFailures_pure _

theorem spriteTrajectory_raisesFailures : Act.RaisesFailures spriteTrajectory :=
  Act.raisesFailures_bind (Act.raisesFailures_of_ok fun s => ⟨s.vol.warpPoints, s, rfl⟩) fun _ =>
    Act.raisesFailures_forEach _ fun _ => Act.raisesFailures_ite
      (Act.raisesFailures_bind traj_raisesFailures fun _ => Act.raisesFailures_bind (Act.raisesFailures_update _) fun _ =>
        Act.raisesFailures_bind traj_raisesFailures fun _ => Act.raisesFailures_update _)
      (Act.raisesFailures_update _)

theorem openInstance_raisesFailures (p : CodecParameters) : Act.RaisesFailures (openInstance p) := by
  unfold openInstance
  refine Act.raisesFailures_ite ?_ (Act.raisesFailures_bind (Act.raisesFailures_require _ invalidData_isFailure) fun _ => Act.raisesFailures_update _)
  split
  · exact Act.raisesFailures_raise invalidData_isFailure
  · exact Act.raisesFailures_bind (Act.raisesFailures_require _ invalidData_isFailure) fun _ =>
      Act.raisesFailures_bind (Act.raisesFailures_require _ invalidData_isFailure) fun _ =>
        Act.raisesFailures_bind (Act.raisesFailures_require _ unsupported_isFailure) fun _ => Act.raisesFailures_update _

/-! ## `SEND_PACKET` -/

theorem parseTrajectory_raisesFailures (v : VopParse) : Act.RaisesFailures (parseTrajectory v) := by
  unfold parseTrajectory
  split
  · exact Act.raisesFailures_pure ()
  · exact Act.raisesFailures_bind (setBp_raisesFailures _) fun _ => spriteTrajectory_raisesFailures

theorem loadAndDecode_raisesFailures (h : VopHeader) : Act.RaisesFailures (loadAndDecode h) := fun s t e he => by
  unfold loadAndDecode at he
  split at he
  · rename_i hf
    cases he
    exact State.vopFault_isFailure hf
  · exact decodeVop_raisesFailures _ _ _ he

theorem sendVop_raisesFailures (p : Packet) (v : VopParse) : Act.RaisesFailures (sendVop p v) :=
  Act.raisesFailures_bind Act.raisesFailures_get fun _ => Act.raisesFailures_ite (Act.raisesFailures_pure ())
    (Act.raisesFailures_bind (parseTrajectory_raisesFailures v) fun _ => loadAndDecode_raisesFailures _)

theorem sendVops_raisesFailures (p : Packet) (offs : List Nat) (parses : List (Option VopParse)) : Act.RaisesFailures (sendVops p offs parses) := by
  induction offs generalizing parses with
  | nil => exact Act.raisesFailures_pure ()
  | cons a offs ih =>
    match parses with
    | [] => exact Act.raisesFailures_raise invalidData_isFailure
    | none :: _ => exact Act.raisesFailures_raise invalidData_isFailure
    | some v :: parses => exact Act.raisesFailures_bind (sendVop_raisesFailures p v) fun _ => ih parses

theorem sendVol_raisesFailures (found : Bool) (v : Option VolHeader) : Act.RaisesFailures (sendVol found v) := by
  unfold sendVol
  refine Act.raisesFailures_ite ?_ (Act.raisesFailures_pure ())
  split
  · exact Act.raisesFailures_raise invalidData_isFailure
  · exact loadVol_raisesFailures _

theorem sendData_raisesFailures (p : Packet) (h : HeaderParse) : Act.RaisesFailures (sendData p h) :=
  Act.raisesFailures_bind (Act.raisesFailures_update _) fun _ => Act.raisesFailures_bind (sendVol_raisesFailures _ _) fun _ =>
    Act.raisesFailures_bind (Act.raisesFailures_require _ invalidData_isFailure) fun _ => sendVops_raisesFailures _ _ _

/-! ## What an instruction reports -/

/-- The kind handed back, where there is one, is a failure. -/
def State.ReportsFailure (s : State) : Prop := ∀ e : Kind, s.status = .failed e → e.IsFailure

theorem State.finish_reports (s : State) (r : Result) : (s.finish r).ReportsFailure := fun _ h => nomatch h

theorem State.raise_reports (s : State) {e : Kind} (h : e.IsFailure) : (s.raise e).ReportsFailure := fun _ he => by
  cases he
  exact h

/-- An instruction that, where it answers, reports no state of the output queue. -/
def ReportsFailures (i : Instr) : Prop := ∀ s t : State, exec i s = .next t → t.ReportsFailure

section

variable {i : Instr}

theorem outcomeOf_reports {a : Act Result} (ha : Act.RaisesFailures a) {s t : State} (h : outcomeOf (a s) = .next t) : t.ReportsFailure := by
  cases hs : a s with
  | ok r u =>
    rw [hs] at h
    cases h
    exact u.finish_reports r
  | error e u =>
    rw [hs] at h
    cases h
    exact u.raise_reports (ha s u e hs)

theorem runReads_reports {l : List Nat} {g : State → State} {r : Result} {s t : State} (h : runReads l g r s = .next t) :
    t.ReportsFailure := by
  rcases runReads_cases l g r s t h with ⟨-, rfl⟩ | ⟨-, rfl⟩
  · exact State.finish_reports _ r
  · exact State.raise_reports _ invalidData_isFailure

theorem runAcRow_reports {n run level : Nat} {last : Bool} {s t : State} (h : runAcRow n last run level s = .next t) :
    t.ReportsFailure := by
  have hrow : Act.RaisesFailures (finishRow last run level) :=
    Act.raisesFailures_bind (Act.Confined.readBit (k := 0)).raisesFailures fun _ => Act.raisesFailures_update _
  unfold runAcRow at h
  split at h
  · exact outcomeOf_reports (Act.raisesFailures_andNothing hrow) h
  · cases h
    exact s.raise_reports invalidData_isFailure

theorem ReportsFailures.of_command {a : Act Result} (hx : ∀ s, exec i s = runCommand a s) (ha : Act.RaisesFailures a) :
    ReportsFailures i := fun s t h => by
  rw [hx, runCommand] at h
  split at h
  · exact outcomeOf_reports ha h
  · cases h
    exact s.raise_reports invalidData_isFailure

theorem ReportsFailures.of_macroblock {k : State → Nat} {a : State → Act Result} (hx : ∀ s, exec i s = runOnMacroblock (k s) (a s) s)
    (ha : ∀ s, Act.RaisesFailures (a s)) : ReportsFailures i := fun s t h => by
  rw [hx, runOnMacroblock] at h
  split at h
  · split at h
    · exact outcomeOf_reports (ha s) h
    · cases h
  · cases h
    exact s.raise_reports invalidData_isFailure

/-- A command whose operation never raises. -/
theorem ReportsFailures.of_answer {f : State → Result} {g : State → State}
    (hx : ∀ s, exec i s = runCommand (Act.of fun s => .ok (f s) (g s)) s) : ReportsFailures i :=
  .of_command hx (Act.raisesFailures_of_ok fun s => ⟨f s, g s, rfl⟩)

/-- An operation on a macroblock that never raises. -/
theorem ReportsFailures.of_macroblockAnswer {k : State → Nat} {f : State → State → Result} {g : State → State → State}
    (hx : ∀ s, exec i s = runOnMacroblock (k s) (Act.of fun u => .ok (f s u) (g s u)) s) : ReportsFailures i :=
  .of_macroblock hx fun s => Act.raisesFailures_of_ok fun u => ⟨f s u, g s u, rfl⟩

theorem ReportsFailures.of_codeword (h : i.isCommand = false) : ReportsFailures i := fun s t ht => by
  cases codeword_meaning i h with
  | header _ hx =>
    rcases runCode_cases _ _ _ _ _ ((hx s).symm.trans ht) with ⟨-, rfl⟩ | ⟨-, rfl⟩
    · exact State.finish_reports _ _
    · exact State.raise_reports _ invalidData_isFailure
  | value hx => exact runReads_reports ((hx s).symm.trans ht)
  | row hx _ _ => exact runAcRow_reports ((hx s).symm.trans ht)
  | escape hx _ => exact runReads_reports ((hx s).symm.trans ht)
  | pattern hx =>
    cases (hx s).symm.trans ht
    exact State.finish_reports _ _

theorem ReportsFailures.of_openInst (p : CodecParameters) : ReportsFailures (.openInst p) := fun s t h => by
  cases ho : s.opened with
  | true =>
    cases (exec_openInst_opened p ho).symm.trans h
    exact s.raise_reports invalidData_isFailure
  | false => exact outcomeOf_reports (Act.raisesFailures_andNothing (openInstance_raisesFailures p)) ((exec_openInst_closed p ho).symm.trans h)

/-- Reads of the bit reader answer `None` where the window ends, and never raise (R140 to R142). -/
theorem ReportsFailures.of_bitRead {n : Nat} {f : State → Result} {r : Result} {g : State → State}
    (hx : ∀ s, exec i s = runCommand (Act.of fun s => if s.bp + n ≤ 8 * s.bslen then .ok (f s) (g s) else .ok r s) s) :
    ReportsFailures i :=
  .of_command hx (Act.raisesFailures_of_ok fun s => by
    rw [Act.of_apply]
    split
    · exact ⟨_, _, rfl⟩
    · exact ⟨_, _, rfl⟩)

end

/-- The commands that run an operation which can raise, the reads, and those that only answer. -/
theorem ReportsFailures.of_isCommand {i : Instr} (h : i.isCommand = true) (hr : i ≠ .receiveFrame) : ReportsFailures i := by
  cases i
  case receiveFrame => exact absurd rfl hr
  case openInst p => exact .of_openInst p
  case readBits n => exact .of_bitRead (n := n.val) (fun _ => rfl)
  case peekBits n => exact .of_bitRead (n := n.val) (fun _ => rfl)
  case skipBits n => exact .of_bitRead (n := n.val) (fun _ => rfl)
  case decodeMb k =>
    exact .of_macroblock (fun _ => rfl) fun _ => Act.raisesFailures_bind (Act.raisesFailures_update _) fun _ =>
      Act.raisesFailures_andNothing (decodeMbCaught_raisesFailures k)
  case intraBlock b => exact .of_macroblock (fun _ => rfl) fun _ => Act.raisesFailures_andNothing (Act.Confined.intraBlock b).raisesFailures
  case interBlock b => exact .of_macroblock (fun _ => rfl) fun _ => Act.raisesFailures_andNothing (Act.Confined.interBlock b).raisesFailures
  case spriteTrajectory => exact .of_command (fun _ => rfl) (Act.raisesFailures_andNothing spriteTrajectory_raisesFailures)
  case decodeVop => exact .of_command (fun _ => rfl) (Act.raisesFailures_andNothing decodeVop_raisesFailures)
  case loadVol v => exact .of_command (fun _ => rfl) (Act.raisesFailures_andNothing (loadVol_raisesFailures v))
  case setBp p => exact .of_command (fun _ => rfl) (Act.raisesFailures_andNothing (setBp_raisesFailures p))
  case sendPacket pkt hp =>
    exact .of_command (fun _ => rfl)
      (Act.raisesFailures_ite (Act.raisesFailures_andNothing (Act.raisesFailures_update _)) (Act.raisesFailures_andNothing (sendData_raisesFailures pkt hp)))
  all_goals first
    | exact (Bool.false_ne_true h).elim
    | exact .of_answer (fun _ => rfl)
    | exact .of_macroblockAnswer (fun _ => rfl)

/-- Settles O48: of every instruction but `RECEIVE_FRAME`, a kind handed back is `InvalidData` or `Unsupported`. -/
theorem onlyReceiveFrameSignals : Obligations.OnlyReceiveFrameSignals := by
  intro i s t hexec hsignal
  by_contra hr
  have hreports : ReportsFailures i := by
    cases hc : i.isCommand with
    | false => exact .of_codeword hc
    | true => exact .of_isCommand hc hr
  rcases hsignal with hs | hs <;> rcases hreports s t hexec _ hs with he | he <;> cases he

end Sys2Proof.Machine
end

section
/-! PROOFS. The macroblocks of a VOP, one after another (spec/48_frame_reorder.md R380, spec/60_exceptions.md R472, R476). -/

namespace Sys2Proof.Machine

/-! ## One turn of the loop -/

theorem vopMacroblock_apply (k : Nat) (s : State) :
    vopMacroblock k s = if s.fail = true then .ok () (State.degrade { s with mbk := k } k) else decodeMbCaught k { s with mbk := k } := by
  rw [vopMacroblock, bind_apply_ok _ _ _ _ _ (update_apply _ s), bind_apply_ok _ _ _ _ _ (get_apply _)]
  dsimp only
  split <;> rfl

theorem vopMacroblock_macroblock (k : Nat) : Act.Rel State.SameButMacroblock (vopMacroblock k) := fun s => by
  have hmbk : s.SameButMacroblock { s with mbk := k } := rfl
  rw [vopMacroblock_apply]
  split
  · exact .trans _ _ _ hmbk (degrade_macroblock _ k)
  · exact .trans _ _ _ hmbk (decodeMbCaught_macroblock k _)

/-- `CUR` keeps its metadata and its valid bit. -/
def State.KeepsCurInfo (s t : State) : Prop := t.cur.info = s.cur.info ∧ t.cur.valid = s.cur.valid

theorem State.KeepsCurInfo.refl (s : State) : s.KeepsCurInfo s := ⟨rfl, rfl⟩

theorem State.KeepsCurInfo.trans (s t u : State) (h : s.KeepsCurInfo t) (g : t.KeepsCurInfo u) : s.KeepsCurInfo u :=
  ⟨g.1.trans h.1, g.2.trans h.2⟩

theorem State.OthersKept.curInfo {k : Nat} {s t : State} (h : s.OthersKept k t) : s.KeepsCurInfo t := ⟨h.info, h.valid⟩

theorem vopMacroblock_curInfo (k : Nat) : Act.Rel State.KeepsCurInfo (vopMacroblock k) := fun s => by
  have hmbk : s.KeepsCurInfo { s with mbk := k } := .refl s
  rw [vopMacroblock_apply]
  split
  · exact .trans _ _ _ hmbk (State.OthersKept.degrade _).curInfo
  · exact .trans _ _ _ hmbk (decodeMbCaught_others k _).curInfo

section

variable {s t : State} {k : Nat}

/-- After a failure the macroblock is degraded, as R472 says with `COPY_MB`. -/
theorem State.degrades (ho : s.opened = true) (hk : k < s.mbCount) : s.Degrades k (State.degrade { s with mbk := k } k) := by
  refine ⟨{ s with mbk := k, cur := (State.copyMb { s with mbk := k } k s.refNew).cur },
    ⟨⟨.none, exec_copyMb (s := { s with mbk := k }) ho hk .refNew⟩, rfl, rfl⟩, ?_⟩
  rw [State.degrade_eq]
  split <;> rfl

/-- A turn that ends well is a degraded macroblock or a `DECODE_MB` that ends with `Ok`. -/
theorem vopMacroblock_done (ho : s.opened = true) (hk : k < s.mbCount) (h : vopMacroblock k s = .ok () t) :
    if s.fail = true then s.Degrades k t else s.Runs (.decodeMb k) t := by
  rw [vopMacroblock_apply] at h
  split
  · rename_i hf
    rw [if_pos hf] at h
    cases h
    exact State.degrades ho hk
  · rename_i hf
    rw [if_neg hf] at h
    have hsame := decodeMbCaught_macroblock k { s with mbk := k }
    rw [h] at hsame
    have hsame : t = _ := hsame
    refine ⟨⟨.none, ?_⟩, by rw [hsame], by rw [hsame]⟩
    rw [exec_decodeMb k s ho hk, h]
    rfl

/-- A turn that raises is a `DECODE_MB` of an I VOP that raises (R476). -/
theorem vopMacroblock_raised {e : Kind} (ho : s.opened = true) (hk : k < s.mbCount) (h : vopMacroblock k s = .error e t) :
    e = .invalidData ∧ exec (.decodeMb k) s = .next (t.raise e) ∧ t.fail = true ∧ s.vop.pictureType = .i := by
  rw [vopMacroblock_apply] at h
  split at h
  · cases h
  · have hsame := decodeMb_macroblock k { s with mbk := k }
    have hraised : exec (.decodeMb k) s = .next (t.raise e) := by rw [exec_decodeMb k s ho hk, h]
    unfold decodeMbCaught at h
    split at h
    · cases h
    · rename_i e' u hd
      rw [hd] at hsame
      have hvop : u.vop = s.vop := by rw [show u = _ from hsame]
      split at h
      · rename_i hi
        cases h
        exact ⟨Act.Confined.decodeMb.2 _ _ _ hd, hraised, rfl, hvop ▸ hi⟩
      · cases h

end

/-! ## The loop -/

theorem State.SameButMacroblock.opened {s t : State} (h : s.SameButMacroblock t) : t.opened = s.opened := by rw [show t = _ from h]

theorem State.SameButMacroblock.mbCount {s t : State} (h : s.SameButMacroblock t) : t.mbCount = s.mbCount :=
  State.mbCount_congr (by rw [show t = _ from h])

section

variable {s t : State}

theorem vopMacroblock_keeps {k : Nat} {x : Unit} (h : vopMacroblock k s = .ok x t) : s.SameButMacroblock t := by
  have hsame := vopMacroblock_macroblock k s
  rwa [h] at hsame

/-- A loop that ends well has done each macroblock in order. -/
theorem macroblocksDone_of_forEach (l : List Nat) (ho : s.opened = true) (hl : ∀ k ∈ l, k < s.mbCount)
    (h : forEach l vopMacroblock s = .ok () t) : MacroblocksDone l s t := by
  induction l generalizing s with
  | nil =>
    cases h
    rfl
  | cons k l ih =>
    obtain ⟨_, m, hk, hrest⟩ := (bind_ok_iff _ _ _ _ _).1 h
    have hsame := vopMacroblock_keeps hk
    refine ⟨m, vopMacroblock_done ho (hl k List.mem_cons_self) hk, ih (hsame.opened.trans ho) (fun j hj => ?_) hrest⟩
    rw [hsame.mbCount]
    exact hl j (List.mem_cons_of_mem k hj)

/-- A loop that raises has done the macroblocks before the one that raises. -/
theorem macroblocksDone_of_forEach_error {e : Kind} (l : List Nat) (ho : s.opened = true) (hl : ∀ k ∈ l, k < s.mbCount)
    (h : forEach l vopMacroblock s = .error e t) :
    ∃ (j : Nat) (hj : j < l.length) (m : State), MacroblocksDone (l.take j) s m ∧ s.SameButMacroblock m
      ∧ vopMacroblock l[j] m = .error e t := by
  induction l generalizing s with
  | nil => cases h
  | cons k l ih =>
    rcases (bind_error_iff _ _ _ _ _).1 h with hk | ⟨_, m, hk, hrest⟩
    · exact ⟨0, Nat.zero_lt_succ _, s, rfl, .refl s, hk⟩
    · have hsame := vopMacroblock_keeps hk
      obtain ⟨j, hj, u, hdone, hrestSame, hraised⟩ := ih (hsame.opened.trans ho)
        (fun i hi => by rw [hsame.mbCount]; exact hl i (List.mem_cons_of_mem k hi)) hrest
      exact ⟨j + 1, Nat.succ_lt_succ hj, u, ⟨m, vopMacroblock_done ho (hl k List.mem_cons_self) hk, hdone⟩,
        .trans _ _ _ hsame hrestSame, hraised⟩

end

/-! ## The body of `DECODE_VOP` -/

section

variable {s u : State} {q : Nat}

theorem vopBody_apply (q : Nat) (s : State) : vopBody q s = (do
    forEach (List.range (s.beginVop q).mbCount) vopMacroblock
    update (fun s => s.endVop)) (s.beginVop q) := by
  rw [vopBody, bind_apply_ok _ _ _ _ _ (update_apply _ s), bind_apply_ok _ _ _ _ _ (get_apply _)]

theorem vopBody_ok (h : forEach (List.range (s.beginVop q).mbCount) vopMacroblock (s.beginVop q) = .ok () u) :
    vopBody q s = .ok () u.endVop := by
  rw [vopBody_apply, bind_apply_ok _ _ _ _ _ h, update_apply]

theorem vopBody_error {e : Kind} (h : forEach (List.range (s.beginVop q).mbCount) vopMacroblock (s.beginVop q) = .error e u) :
    vopBody q s = .error e u := by
  rw [vopBody_apply, bind_apply_error _ _ _ _ _ h]

/-- What `DECODE_VOP` sets before its first macroblock (R380). -/
theorem State.beginVop_eq (s : State) (q : Nat) : s.beginVop q = { s with
    qp := q, prevQuant := q, fail := false, mbi := List.replicate s.mbCount MbInfo.reset, pmvF := MV.zero, pmvB := MV.zero
    bp := s.vop.mbStart, cur := { s.cur with valid := false, info := s.vopInfo }, gmc := (s.beginVop q).gmc } := by
  unfold State.beginVop
  dsimp only
  split <;> rfl

theorem State.vopBegins (ho : s.opened = true) : s.VopBegins (s.beginVop s.startQuant) := by
  unfold State.VopBegins State.beginVop
  dsimp only
  split
  · exact ⟨⟨_, exec_gmcSetup ho⟩, State.gmcSetup_status _, State.gmcSetup_result _⟩
  · rfl

/-- The checks of a VOP that is ready all pass (R380, R462). -/
theorem State.VopReady.checks (h : s.VopReady) : s.vopFault = none ∧ s.vopSkipped = false := by
  obtain ⟨hvol, htool, hvalue, hpassed, hquant, hstart⟩ := h
  rw [← s.refused_iff] at htool
  rw [← s.illegalVop_iff] at hvalue
  rw [← s.vopSkipped_iff] at hpassed
  have hq : s.startQuant ≠ 0 := fun h0 => by
    obtain ⟨h1, h2⟩ := s.startQuant_eq_zero_iff.1 h0
    exact hquant.elim (· h1) (· h2)
  exact ⟨by simp [State.vopFault, hvol, htool, hvalue, hpassed, hq, Nat.not_lt.2 hstart], Bool.eq_false_iff.2 hpassed⟩

theorem decodeVop_ready (h : s.VopReady) : decodeVop s = vopBody s.startQuant s := by
  obtain ⟨hfault, hskip⟩ := h.checks
  rw [decodeVop, hfault]
  exact if_neg (by simp [hskip])

end

/-! ## What the macroblocks leave to the end of the VOP -/

/-- What is known of the state `u` in which the loop of a VOP begun in `s` ends, whether or not with a raise: beside what macroblocks
write, it is the state the VOP began with. -/
structure State.LoopEnds (s u : State) : Prop where
  macroblocks : (s.beginVop s.startQuant).SameButMacroblock u
  curInfo : (s.beginVop s.startQuant).KeepsCurInfo u

section

variable {s u : State}

theorem State.loopEnds (s : State) :
    s.LoopEnds (stateOf (forEach (List.range (s.beginVop s.startQuant).mbCount) vopMacroblock (s.beginVop s.startQuant))) :=
  ⟨Act.macroblock_forEach _ vopMacroblock_macroblock _,
    Act.rel_forEach State.KeepsCurInfo.refl State.KeepsCurInfo.trans _ vopMacroblock_curInfo _⟩

/-- The registers of the sequence, of the stream and of the output are those from before the VOP. -/
theorem State.LoopEnds.eq (h : s.LoopEnds u) : u = { s with
    bp := u.bp, ev := u.ev, qf := u.qf, coef := u.coef, residual := u.residual, pc := u.pc, cur := u.cur
    mb := u.mb, qp := u.qp, pred := u.pred, mbi := u.mbi, pmvF := u.pmvF, pmvB := u.pmvB, fail := u.fail, mbk := u.mbk
    prevQuant := s.startQuant, gmc := (s.beginVop s.startQuant).gmc } := by
  have hsame : u = _ := h.macroblocks
  rw [State.beginVop_eq] at hsame
  exact hsame

theorem State.LoopEnds.info (h : s.LoopEnds u) : u.cur.info = s.vopInfo := by
  rw [h.curInfo.1, State.beginVop_eq]

theorem State.LoopEnds.notValid (h : s.LoopEnds u) : u.cur.valid = false := by
  rw [h.curInfo.2, State.beginVop_eq]

theorem State.LoopEnds.vop (h : s.LoopEnds u) : u.vop = s.vop := by rw [h.eq]

theorem State.beginVop_opened (s : State) (q : Nat) : (s.beginVop q).opened = s.opened := by rw [State.beginVop_eq]

theorem State.beginVop_mbCount (s : State) (q : Nat) : (s.beginVop q).mbCount = s.mbCount :=
  State.mbCount_congr (by rw [State.beginVop_eq])

theorem exec_decodeVop_ok (ho : s.opened = true) {t : State} (h : decodeVop s = .ok () t) : exec .decodeVop s = .next (t.finish .none) :=
  runCommand_unit_ok ho h

theorem exec_decodeVop_error (ho : s.opened = true) {t : State} {e : Kind} (h : decodeVop s = .error e t) :
    exec .decodeVop s = .next (t.raise e) := runCommand_unit_error ho h

end

/-- `CUR` is valid from the end of the VOP on (R380). -/
def State.validCur (s : State) : State := { s with cur := { s.cur with valid := true } }

/-- The VOP ends with its completion. -/
theorem exec_completion {u : State} {ptype : PictureType} (ho : u.opened = true) (htype : u.vop.pictureType = ptype) :
    exec (if ptype = .b then .completeB else .completeRef) u.validCur = .next (u.endVop.finish .none) := by
  subst htype
  unfold State.endVop State.complete
  dsimp only
  split
  · exact exec_completeB (s := u.validCur) ho
  · exact exec_completeRef (s := u.validCur) ho

theorem State.endVop_b {u : State} (h : u.vop.pictureType = .b) : u.endVop = u.validCur.push u.validCur.cur := if_pos h

theorem State.endVop_ref {u : State} (h : u.vop.pictureType ≠ .b) : u.endVop = u.validCur.shiftReferences.push u.validCur.cur := by
  rw [← State.completeRef_eq]
  exact if_neg h

/-- A VOP that is ready either ends its loop and is completed, or raises where a macroblock does. -/
theorem decodeVop_ready_cases {s : State} (ho : s.opened = true) (hr : s.VopReady) :
    (∃ u : State, s.LoopEnds u ∧ MacroblocksDone (List.range s.mbCount) (s.beginVop s.startQuant) u
        ∧ decodeVop s = .ok () u.endVop)
      ∨ ∃ (k : Nat) (m t : State), k < s.mbCount ∧ s.LoopEnds t ∧ MacroblocksDone (List.range k) (s.beginVop s.startQuant) m
        ∧ decodeVop s = .error .invalidData t ∧ exec (.decodeMb k) m = .next (t.raise .invalidData) ∧ t.fail = true
        ∧ s.vop.pictureType = .i := by
  have hends := s.loopEnds
  have hob : (s.beginVop s.startQuant).opened = true := (s.beginVop_opened _).trans ho
  have hrange : ∀ k ∈ List.range (s.beginVop s.startQuant).mbCount, k < (s.beginVop s.startQuant).mbCount := fun k => List.mem_range.1
  cases hloop : forEach (List.range (s.beginVop s.startQuant).mbCount) vopMacroblock (s.beginVop s.startQuant) with
  | ok x u =>
    rw [hloop] at hends
    have hdone := macroblocksDone_of_forEach _ hob hrange hloop
    rw [State.beginVop_mbCount] at hdone
    exact .inl ⟨u, hends, hdone, (decodeVop_ready hr).trans (vopBody_ok hloop)⟩
  | error e t =>
    rw [hloop] at hends
    obtain ⟨k, hk, m, hdone, hsame, hraised⟩ := macroblocksDone_of_forEach_error _ hob hrange hloop
    rw [List.length_range] at hk
    rw [List.take_range, Nat.min_eq_left hk.le] at hdone
    rw [List.getElem_range] at hraised
    obtain ⟨rfl, hexec, hfail, hi⟩ := vopMacroblock_raised (hsame.opened.trans hob) (hsame.mbCount ▸ hk) hraised
    have hvop : m.vop = s.vop := by rw [show m = _ from hsame, State.beginVop_eq]
    exact .inr ⟨k, m, t, s.beginVop_mbCount _ ▸ hk, hends, hdone, (decodeVop_ready hr).trans (vopBody_error hloop), hexec, hfail,
      hvop ▸ hi⟩

/-! ## The statements -/

/-- Settles O37: the loop of a P, S or B VOP ends well, and the completion pushes one frame. -/
theorem predictedVopAlwaysCompletes : Obligations.PredictedVopAlwaysCompletes := by
  intro s ho hr hi
  obtain ⟨u, hends, hdone, hrun⟩ | ⟨_, _, _, -, -, -, -, -, -, h⟩ := decodeVop_ready_cases ho hr
  · have hou : u.opened = true := by rw [hends.eq]; exact ho
    have hexec := exec_decodeVop_ok ho hrun
    refine ⟨s.beginVop s.startQuant, u, _, s.vopBegins ho, hdone, ?_, hexec, rfl, rfl, ?_⟩
    · exact hexec.trans (exec_completion hou (by rw [hends.vop])).symm
    · have heq := hends.eq
      by_cases hb : s.vop.pictureType = .b
      · rw [State.endVop_b (by rw [hends.vop, hb]), heq]
        exact ⟨rfl, hends.info, rfl, rfl, State.push_lengths _ _, rfl, fun h => absurd hb h, fun _ => ⟨rfl, rfl, rfl, rfl⟩,
          rfl, rfl, rfl, rfl, rfl, rfl, rfl, rfl, rfl⟩
      · rw [State.endVop_ref (by rwa [hends.vop]), heq]
        exact ⟨rfl, hends.info, rfl, rfl, State.push_lengths _ _, if_neg hi, fun _ => ⟨rfl, rfl, rfl, rfl⟩, fun h => absurd h hb,
          rfl, rfl, rfl, rfl, rfl, rfl, rfl, rfl, rfl⟩
  · exact absurd h hi

/-- Settles O38: where the loop of an I VOP ends well the VOP is completed; else it ends as the `DECODE_MB` that raises. -/
theorem intraVopInstallsOrLeavesReferences : Obligations.IntraVopInstallsOrLeavesReferences := by
  intro s ho hr hi
  obtain ⟨u, hends, hdone, hrun⟩ | ⟨k, m, t, hk, hends, hdone, hrun, hraised, hfail, -⟩ := decodeVop_ready_cases ho hr
  · have hou : u.opened = true := by rw [hends.eq]; exact ho
    have hvop := hends.vop
    have hexec := exec_decodeVop_ok ho hrun
    refine ⟨s.beginVop s.startQuant, _, s.vopBegins ho, hexec, .inl ⟨u, hdone, ?_, rfl, ?_⟩⟩
    · exact hexec.trans (exec_completion (ptype := .i) hou (by rw [hvop, hi])).symm
    · rw [State.endVop_ref (by rw [hvop, hi]; decide), hends.eq]
      exact ⟨rfl, hends.info, rfl, rfl, rfl, rfl, if_pos hi, rfl⟩
  · have heq := hends.eq
    have hexec := exec_decodeVop_error ho hrun
    refine ⟨s.beginVop s.startQuant, _, s.vopBegins ho, hexec, .inr ⟨k, m, hk, hdone, hexec.trans hraised.symm, rfl, hfail, hends.notValid, ?_⟩⟩
    rw [heq]
    exact ⟨rfl, rfl, rfl, rfl, rfl, rfl, rfl, rfl⟩

end Sys2Proof.Machine
end

section
/-! PROOFS. The start codes of a packet (spec/40_bitreader.md R144, R145, spec/49_host_commands.md R426, R427). -/

namespace Sys2Proof.Machine

theorem findStartCode_eq_none_iff (data : List Byte) (code : Byte) :
    findStartCode data code = none ↔ ∀ a : Nat, ¬StartCodeIn data a code := by
  classical
  constructor
  · intro h a ha
    have hex : ∃ b, StartCodeIn data b code := ⟨a, ha⟩
    have hfound : findStartCode data code = some (Nat.find hex + 4) :=
      (findStartCode_eq_some_iff _ _ _).2 ⟨by omega, Nat.find_spec hex, fun b hb => Nat.find_min hex (by omega)⟩
    cases h.symm.trans hfound
  · intro h
    cases hf : findStartCode data code with
    | none => rfl
    | some v => exact absurd ((findStartCode_eq_some_iff _ _ _).1 hf).2.1 (h _)

theorem hasVol_iff (data : List Byte) :
    hasVol data = true ↔ ∃ (a : Nat) (c : Byte), StartCodeIn data a c ∧ 32 ≤ c.toNat ∧ c.toNat ≤ 47 := by
  classical
  constructor
  · intro h
    obtain ⟨⟨v, c⟩, hv⟩ := Option.isSome_iff_exists.1 h
    obtain ⟨-, hcode, hlo, hhi, -⟩ := (findStartCodeRange_eq_some_iff _ _ _ _ _).1 hv
    exact ⟨v - 4, c, hcode, hlo, hhi⟩
  · intro h
    obtain ⟨c, hcode, hlo, hhi⟩ := Nat.find_spec h
    have hfound : findStartCodeRange data 0x20#8 0x2F#8 = some (Nat.find h + 4, c) :=
      (findStartCodeRange_eq_some_iff _ _ _ _ _).2
        ⟨by omega, hcode, hlo, hhi, fun b d hb hl hh hd => Nat.find_min h (by omega) ⟨d, hd, hl, hh⟩⟩
    exact Option.isSome_iff_exists.2 ⟨_, hfound⟩

theorem startCodeIn_drop (data : List Byte) (n a : Nat) (c : Byte) :
    StartCodeIn (data.drop n) a c ↔ StartCodeIn data (n + a) c := by
  simp only [StartCodeIn, List.getElem?_drop, Nat.add_assoc]

/-- A start code takes a byte of its own for its code. -/
theorem StartCodeIn.lt_length {data : List Byte} {a : Nat} {c : Byte} (h : StartCodeIn data a c) : a + 3 < data.length := by
  obtain ⟨-, -, -, h3⟩ := h
  exact (List.getElem?_eq_some_iff.1 h3).1

/-- Two VOP start codes do not overlap: the bytes 01 and B6 begin none. -/
theorem StartCodeIn.disjoint {data : List Byte} {a b : Nat} (ha : StartCodeIn data a 0xB6#8) (hb : StartCodeIn data b 0xB6#8)
    (hab : a < b) : a + 4 ≤ b := by
  obtain ⟨-, -, ha2, ha3⟩ := ha
  obtain ⟨hb0, hb1, -, -⟩ := hb
  by_contra hlt
  obtain rfl | rfl | rfl : b = a + 1 ∨ b = a + 2 ∨ b = a + 3 := by omega
  · cases hb1.symm.trans ha2
  · cases hb0.symm.trans ha2
  · cases hb0.symm.trans ha3

/-- The offsets of a packet's VOPs, just past each VOP start code. -/
theorem mem_vopOffsets {fuel base o : Nat} {data : List Byte} (hfuel : data.length ≤ fuel) :
    o ∈ vopOffsets fuel base data ↔ ∃ a : Nat, o = base + a + 4 ∧ StartCodeIn data a 0xB6#8 := by
  induction fuel generalizing base data with
  | zero =>
    simp only [vopOffsets, List.not_mem_nil, false_iff, not_exists, not_and]
    intro a _ ha
    exact absurd ha.lt_length (by omega)
  | succ fuel ih =>
    unfold vopOffsets
    cases hf : findStartCode data 0xB6#8 with
    | none =>
      have hno := (findStartCode_eq_none_iff _ _).1 hf
      simp [hno]
    | some v =>
      obtain ⟨hv, hcode, hfirst⟩ := (findStartCode_eq_some_iff _ _ _).1 hf
      have hlen := hcode.lt_length
      rw [List.mem_cons, ih (by rw [List.length_drop]; omega)]
      constructor
      · rintro (rfl | ⟨a, rfl, ha⟩)
        · exact ⟨v - 4, by omega, hcode⟩
        · exact ⟨v + a, by omega, (startCodeIn_drop _ _ _ _).1 ha⟩
      · rintro ⟨a, rfl, ha⟩
        rcases lt_trichotomy a (v - 4) with hlt | rfl | hgt
        · exact absurd ha (hfirst a hlt)
        · exact .inl (by omega)
        · have := hcode.disjoint ha hgt
          exact .inr ⟨a - v, by omega, (startCodeIn_drop _ _ _ _).2 (by rwa [show v + (a - v) = a by omega])⟩

theorem vopOffsets_rising {fuel base : Nat} {data : List Byte} (hfuel : data.length ≤ fuel) :
    (vopOffsets fuel base data).Pairwise (fun a b => a < b) := by
  induction fuel generalizing base data with
  | zero => exact .nil
  | succ fuel ih =>
    unfold vopOffsets
    cases hf : findStartCode data 0xB6#8 with
    | none => exact .nil
    | some v =>
      obtain ⟨hv, hcode, -⟩ := (findStartCode_eq_some_iff _ _ _).1 hf
      have hlen := hcode.lt_length
      have hrest : (data.drop v).length ≤ fuel := by rw [List.length_drop]; omega
      refine .cons (fun o ho => ?_) (ih hrest)
      obtain ⟨a, rfl, -⟩ := (mem_vopOffsets hrest).1 ho
      omega

theorem mem_vopOffsets_packet (data : List Byte) (o : Nat) :
    o ∈ vopOffsets data.length 0 data ↔ 4 ≤ o ∧ StartCodeIn data (o - 4) 0xB6#8 := by
  rw [mem_vopOffsets le_rfl]
  constructor
  · rintro ⟨a, rfl, ha⟩
    exact ⟨by omega, by rwa [show 0 + a + 4 - 4 = a by omega]⟩
  · rintro ⟨ho, ha⟩
    exact ⟨o - 4, by omega, ha⟩

theorem vopOffsets_eq_nil {data : List Byte} (h : ∀ b : Nat, ¬StartCodeIn data b 0xB6#8) : vopOffsets data.length 0 data = [] :=
  List.eq_nil_iff_forall_not_mem.2 fun o ho => h _ ((mem_vopOffsets_packet data o).1 ho).2

end Sys2Proof.Machine
end

section
/-! PROOFS. The parts of `SEND_PACKET` (spec/49_host_commands.md R425 to R429): each part ends as the command the statement names. -/

namespace Sys2Proof.Machine

/-! ## What an operation leaves to the command -/

/-- What the last command handed back is the same: status and result are the command's to set, at its end. -/
def State.SameOutputs (s t : State) : Prop := t.status = s.status ∧ t.result = s.result

theorem State.SameOutputs.refl (s : State) : s.SameOutputs s := ⟨rfl, rfl⟩

theorem State.SameOutputs.trans (s t u : State) (h : s.SameOutputs t) (g : t.SameOutputs u) : s.SameOutputs u :=
  ⟨g.1.trans h.1, g.2.trans h.2⟩

theorem parse_outputs {α : Type} (d : Dec α) : Act.Rel State.SameOutputs (parse d) :=
  Act.Rel.mono (parse_macroblock d) fun s t h => by
    rw [show t = _ from h]
    exact ⟨rfl, rfl⟩

theorem loadVol_outputs (v : VolHeader) : Act.Rel State.SameOutputs (loadVol v) := by
  refine Act.rel_bind State.SameOutputs.trans (Act.rel_require State.SameOutputs.refl _ _) fun _ =>
    Act.rel_bind State.SameOutputs.trans (Act.rel_require State.SameOutputs.refl _ _) fun _ => Act.rel_update fun s => ?_
  exact ⟨State.applyVol_fixes State.status s v (fun _ _ _ _ => rfl) (fun _ => rfl),
    State.applyVol_fixes State.result s v (fun _ _ _ _ => rfl) (fun _ => rfl)⟩

theorem setBp_outputs (p : Nat) : Act.Rel State.SameOutputs (setBp p) := fun s => by
  rw [setBp_apply]
  split <;> exact ⟨rfl, rfl⟩

theorem spriteTrajectory_outputs : Act.Rel State.SameOutputs spriteTrajectory := by
  have htraj : Act.Rel State.SameOutputs traj :=
    Act.rel_bind State.SameOutputs.trans (parse_outputs _) fun _ => Act.rel_pure State.SameOutputs.refl _
  refine fun s => Act.rel_forEach State.SameOutputs.refl State.SameOutputs.trans _ (fun i => Act.rel_ite ?_ ?_) s
  · exact Act.rel_bind State.SameOutputs.trans htraj fun _ => Act.rel_bind State.SameOutputs.trans (Act.rel_update fun _ => ⟨rfl, rfl⟩)
      fun _ => Act.rel_bind State.SameOutputs.trans htraj fun _ => Act.rel_update fun _ => ⟨rfl, rfl⟩
  · exact Act.rel_update fun _ => ⟨rfl, rfl⟩

theorem State.endVop_outputs (s : State) : s.SameOutputs s.endVop := by
  by_cases hb : s.vop.pictureType = .b
  · rw [State.endVop_b hb]
    exact ⟨rfl, rfl⟩
  · rw [State.endVop_ref hb]
    exact ⟨rfl, rfl⟩

theorem vopBody_outputs (q : Nat) : Act.Rel State.SameOutputs (vopBody q) := by
  refine Act.rel_bind State.SameOutputs.trans (Act.rel_update fun s => ?_) fun _ =>
    Act.rel_bind State.SameOutputs.trans (Act.rel_get State.SameOutputs.refl) fun _ =>
      Act.rel_bind State.SameOutputs.trans (Act.rel_forEach State.SameOutputs.refl State.SameOutputs.trans _ fun k => ?_) fun _ =>
        Act.rel_update State.endVop_outputs
  · rw [State.beginVop_eq]
    exact ⟨rfl, rfl⟩
  · refine Act.Rel.mono (vopMacroblock_macroblock k) fun s t h => ?_
    rw [show t = _ from h]
    exact ⟨rfl, rfl⟩

theorem decodeVop_outputs : Act.Rel State.SameOutputs decodeVop := fun s => by
  unfold decodeVop
  split
  · exact ⟨rfl, rfl⟩
  · split
    · exact ⟨rfl, rfl⟩
    · exact vopBody_outputs _ s

section

variable {i : Instr} {a : Act Unit} {s t : State} (hx : exec i s = runCommand (do a; pure .none) s)
  (ha : Act.Rel State.SameOutputs a) (ho : s.opened = true)
include hx ha ho

/-- A command that ends with `Ok` has run its operation to the end. -/
theorem ok_of_runs (h : s.Runs i t) : a s = .ok () t := by
  obtain ⟨⟨r, hexec⟩, hstatus, hresult⟩ := h
  have houtputs := ha s
  cases hs : a s with
  | ok x u =>
    rw [hs] at houtputs
    obtain ⟨hu1, hu2⟩ := houtputs
    rw [hx, runCommand_unit_ok ho hs] at hexec
    rw [State.eq_of_outputs (Host.Outcome.next.inj hexec) (hu1.trans hstatus.symm) (hu2.trans hresult.symm)]
  | error e u =>
    rw [hx, runCommand_unit_error ho hs] at hexec
    cases congrArg State.status (Host.Outcome.next.inj hexec)

/-- A command that raises has run its operation up to the raise. -/
theorem error_of_raises {k : Kind} (h : s.Raises i k t) : a s = .error k t := by
  obtain ⟨hexec, hstatus, hresult⟩ := h
  have houtputs := ha s
  cases hs : a s with
  | ok x u =>
    rw [hx, runCommand_unit_ok ho hs] at hexec
    cases congrArg State.status (Host.Outcome.next.inj hexec)
  | error e u =>
    rw [hs] at houtputs
    obtain ⟨hu1, hu2⟩ := houtputs
    rw [hx, runCommand_unit_error ho hs] at hexec
    have hkind : e = k := Status.failed.inj (congrArg State.status (Host.Outcome.next.inj hexec))
    rw [State.eq_of_outputs (Host.Outcome.next.inj hexec) (hu1.trans hstatus.symm) (hu2.trans hresult.symm), hkind]

end

/-- An instruction that keeps the window leaves `ST.state` as it was (R34, R70). -/
theorem State.Runs.opened {i : Instr} {s t : State} (h : s.Runs i t) (hi : writesWindow i = false) : t.opened = s.opened := by
  obtain ⟨⟨r, hexec⟩, -, -⟩ := h
  obtain heq | ⟨⟨p, rfl⟩, -⟩ := (exec_steps hexec).opened_eq
  · exact heq
  · cases hi

/-! ## One VOP (R425, R426, R429) -/

section

variable {s t m : State} {v : VopParse} {k : Kind}

theorem parseTrajectory_none (h : v.trajectory = none) : parseTrajectory v = pure () := by rw [parseTrajectory, h]

theorem parseTrajectory_some {p : Nat} (h : v.trajectory = some p) : parseTrajectory v = (do setBp p; spriteTrajectory) := by
  rw [parseTrajectory, h]

section

variable (ho : s.opened = true)
include ho

theorem parseTrajectory_done (h : s.TrajectoryDone v t) : parseTrajectory v s = .ok () t ∧ t.opened = true := by
  unfold State.TrajectoryDone at h
  split at h
  · rename_i hnone
    subst h
    exact ⟨by rw [parseTrajectory_none hnone, pure_apply], ho⟩
  · rename_i p hsome
    obtain ⟨m, hset, htraj⟩ := h
    have hom := (hset.opened rfl).trans ho
    refine ⟨?_, (htraj.opened rfl).trans hom⟩
    rw [parseTrajectory_some hsome, bind_apply_ok _ _ _ _ _ (ok_of_runs (exec_setBp p s) (setBp_outputs p) ho hset)]
    exact ok_of_runs (exec_spriteTrajectory m) spriteTrajectory_outputs hom htraj

theorem parseTrajectory_setBp_raises {p : Nat} (hp : v.trajectory = some p) (h : s.Raises (.setBp p) k t) :
    parseTrajectory v s = .error k t := by
  rw [parseTrajectory_some hp, bind_apply_error _ _ _ _ _ (error_of_raises (exec_setBp p s) (setBp_outputs p) ho h)]

theorem parseTrajectory_raises {p : Nat} (hp : v.trajectory = some p) (hset : s.Runs (.setBp p) m)
    (h : m.Raises .spriteTrajectory k t) : parseTrajectory v s = .error k t := by
  rw [parseTrajectory_some hp, bind_apply_ok _ _ _ _ _ (ok_of_runs (exec_setBp p s) (setBp_outputs p) ho hset)]
  exact error_of_raises (exec_spriteTrajectory m) spriteTrajectory_outputs ((hset.opened rfl).trans ho) h

end

theorem loadAndDecode_checked {pkt : Packet} {h : VopHeader} (hf : (s.withHeader pkt h).vopFault = none) :
    loadAndDecode (stamp pkt h) s = decodeVop (s.withHeader pkt h) := by
  change (s.loadVop (stamp pkt h)).vopFault = none at hf
  rw [loadAndDecode, hf]
  rfl

theorem loadAndDecode_fault {pkt : Packet} {h : VopHeader} (hf : (s.withHeader pkt h).vopFault = some k) :
    loadAndDecode (stamp pkt h) s = .error k s := by
  change (s.loadVop (stamp pkt h)).vopFault = some k at hf
  rw [loadAndDecode, hf]

theorem State.waits_iff (s : State) (v : VopParse) :
    (s.waitKeyframe && decide (v.header.pictureType ≠ .i)) = true ↔ s.Waits v := by
  rw [Bool.and_eq_true, decide_eq_true_iff, State.Waits]

theorem sendVop_waits (pkt : Packet) (h : s.Waits v) : sendVop pkt v s = .ok () s := by
  rw [sendVop, bind_apply_ok _ _ _ _ _ (get_apply s), if_pos ((s.waits_iff v).2 h), pure_apply]

theorem sendVop_parsed (pkt : Packet) (h : ¬s.Waits v) (hp : parseTrajectory v s = .ok () m) :
    sendVop pkt v s = loadAndDecode (stamp pkt v.header) m := by
  rw [sendVop, bind_apply_ok _ _ _ _ _ (get_apply s), if_neg fun hw => h ((s.waits_iff v).1 hw), bind_apply_ok _ _ _ _ _ hp]

theorem sendVop_unparsed (pkt : Packet) (h : ¬s.Waits v) (hp : parseTrajectory v s = .error k t) : sendVop pkt v s = .error k t := by
  rw [sendVop, bind_apply_ok _ _ _ _ _ (get_apply s), if_neg fun hw => h ((s.waits_iff v).1 hw), bind_apply_error _ _ _ _ _ hp]

section

variable {pkt : Packet} (ho : s.opened = true)
include ho

/-- A VOP that is sent: skipped, or read, checked and decoded. -/
theorem sendVop_sent (h : s.VopSent pkt v t) : sendVop pkt v s = .ok () t ∧ t.opened = true := by
  obtain ⟨hwaits, rfl⟩ | ⟨hwaits, m, hdone, hfault, hruns⟩ := h
  · exact ⟨sendVop_waits pkt hwaits, ho⟩
  · obtain ⟨hparse, hom⟩ := parseTrajectory_done ho hdone
    refine ⟨?_, (hruns.opened rfl).trans hom⟩
    rw [sendVop_parsed pkt hwaits hparse, loadAndDecode_checked hfault]
    exact ok_of_runs (exec_decodeVop_run _) decodeVop_outputs hom hruns

/-- A VOP that fails: at its trajectory, at a check, or in its decode. -/
theorem sendVop_fails_at (h : s.VopFails pkt (some v) k t) : sendVop pkt v s = .error k t := by
  obtain ⟨hwaits, ⟨p, hp, hraises⟩ | ⟨p, m, hp, hset, hraises⟩ | ⟨hdone, hfault⟩ | ⟨m, hdone, hfault, hraises⟩⟩ := h
  · exact sendVop_unparsed pkt hwaits (parseTrajectory_setBp_raises ho hp hraises)
  · exact sendVop_unparsed pkt hwaits (parseTrajectory_raises ho hp hset hraises)
  · rw [sendVop_parsed pkt hwaits (parseTrajectory_done ho hdone).1, loadAndDecode_fault hfault]
  · obtain ⟨hparse, hom⟩ := parseTrajectory_done ho hdone
    rw [sendVop_parsed pkt hwaits hparse, loadAndDecode_checked hfault]
    exact error_of_raises (s := m.withHeader pkt v.header) (exec_decodeVop_run _) decodeVop_outputs hom hraises

end

end

/-! ## The VOPs of a packet (R426, R427) -/

section

variable {pkt : Packet} {s t : State}

theorem sendVops_cons (a : Nat) (offs : List Nat) (v : VopParse) (parses : List (Option VopParse)) :
    sendVops pkt (a :: offs) (some v :: parses) = (do sendVop pkt v; sendVops pkt offs parses) := rfl

/-- After the VOPs that are sent, those that are left. -/
theorem sendVops_sent (vs : List VopParse) {offs : List Nat} {parses : List (Option VopParse)} (ho : s.opened = true)
    (hlen : vs.length ≤ offs.length) (hparses : parses.take vs.length = vs.map some) (h : VopsSent pkt vs s t) :
    sendVops pkt offs parses s = sendVops pkt (offs.drop vs.length) (parses.drop vs.length) t ∧ t.opened = true := by
  induction vs generalizing s offs parses with
  | nil =>
    obtain rfl : t = s := h
    exact ⟨rfl, ho⟩
  | cons v vs ih =>
    obtain ⟨m, hsent, hrest⟩ := h
    obtain ⟨hv, hom⟩ := sendVop_sent ho hsent
    match offs, parses with
    | [], _ => cases hlen
    | _ :: _, [] => cases hparses
    | a :: offs, p :: parses =>
      obtain ⟨rfl, hparsesRest⟩ := List.cons.inj hparses
      rw [sendVops_cons, bind_apply_ok _ _ _ _ _ hv]
      exact ih hom (Nat.le_of_succ_le_succ hlen) hparsesRest hrest

/-- The VOP that fails ends the packet, whatever stands after it. -/
theorem sendVops_fails_at {offs : List Nat} {parses : List (Option VopParse)} {k : Kind} (ho : s.opened = true) (hoffs : offs ≠ [])
    (h : s.VopFails pkt (parses.getD 0 none) k t) : sendVops pkt offs parses s = .error k t := by
  match offs, parses with
  | [], _ => exact absurd rfl hoffs
  | a :: offs, [] | a :: offs, none :: parses =>
    obtain ⟨rfl, rfl⟩ := h
    rfl
  | a :: offs, some v :: parses =>
    rw [sendVops_cons]
    exact bind_apply_error _ _ _ _ _ (sendVop_fails_at ho h)

end

/-! ## The packet -/

section

variable {pkt : Packet} {hp : HeaderParse} {s x : State}

/-- The VOL of a packet, where it has one, is loaded. -/
theorem sendVol_loaded (ho : s.opened = true)
    (h : (hasVol pkt.data = false ∧ x = s) ∨ (hasVol pkt.data = true ∧ ∃ v : VolHeader, hp.vol = some v ∧ s.Runs (.loadVol v) x)) :
    sendVol (hasVol pkt.data) hp.vol s = .ok () x ∧ x.opened = true := by
  obtain ⟨hno, rfl⟩ | ⟨hvol, v, hv, hruns⟩ := h
  · rw [hno]
    exact ⟨rfl, ho⟩
  · rw [hvol, hv]
    exact ⟨ok_of_runs (exec_loadVol v s) (loadVol_outputs v) ho hruns, (hruns.opened rfl).trans ho⟩

theorem sendData_vops (hvol : sendVol (hasVol pkt.data) hp.vol (s.loadWindow pkt.data) = .ok () x)
    (hcode : hasVol pkt.data = true ∨ vopOffsets pkt.data.length 0 pkt.data ≠ []) :
    sendData pkt hp s = sendVops pkt (vopOffsets pkt.data.length 0 pkt.data) hp.vops x := by
  have hfound : (hasVol pkt.data || !(vopOffsets pkt.data.length 0 pkt.data).isEmpty) = true := by simpa using hcode
  rw [sendData, bind_apply_ok _ _ _ _ _ (update_apply _ s), bind_apply_ok _ _ _ _ _ hvol, require_bind_apply, if_pos hfound]

theorem sendData_vol_error {e : Kind} {t : State} (hvol : sendVol (hasVol pkt.data) hp.vol (s.loadWindow pkt.data) = .error e t) :
    sendData pkt hp s = .error e t := by
  rw [sendData, bind_apply_ok _ _ _ _ _ (update_apply _ s), bind_apply_error _ _ _ _ _ hvol]

/-- A packet without VOL and VOP codes is not a packet of this codec (R426). -/
theorem sendData_noCode (hvol : hasVol pkt.data = false) (hvops : vopOffsets pkt.data.length 0 pkt.data = []) :
    sendData pkt hp s = .error .invalidData (s.loadWindow pkt.data) := by
  have hskip : sendVol false hp.vol (s.loadWindow pkt.data) = .ok () (s.loadWindow pkt.data) := rfl
  rw [sendData, bind_apply_ok _ _ _ _ _ (update_apply _ s), hvol, bind_apply_ok _ _ _ _ _ hskip, hvops]
  rfl

theorem exec_sendPacket_data (hne : pkt.data ≠ []) (s : State) :
    exec (.sendPacket pkt hp) s = runCommand (do sendData pkt hp; pure .none) s :=
  congrArg (fun a => runCommand a s) (if_neg (by simpa using hne))

theorem exec_sendPacket_empty (he : pkt.data = []) (s : State) :
    exec (.sendPacket pkt hp) s = runCommand (do update (fun s => s.endOfStream); pure .none) s :=
  congrArg (fun a => runCommand a s) (if_pos (by rw [he]; rfl))

section

variable (ho : s.opened = true) (hne : pkt.data ≠ [])
include ho hne

theorem exec_sendPacket_ok {t : State} (h : sendData pkt hp s = .ok () t) :
    exec (.sendPacket pkt hp) s = .next { t with status := .ok, result := .none } := by
  rw [exec_sendPacket_data hne]
  exact runCommand_unit_ok ho h

theorem exec_sendPacket_error {t : State} {e : Kind} (h : sendData pkt hp s = .error e t) :
    exec (.sendPacket pkt hp) s = .next { t with status := .failed e, result := .none } := by
  rw [exec_sendPacket_data hne]
  exact runCommand_unit_error ho h

/-- A packet that ends as one operation does in another state is that operation's command there. -/
theorem exec_sendPacket_as {a : Act Unit} {u : State} (hu : u.opened = true) (h : sendData pkt hp s = a u) :
    exec (.sendPacket pkt hp) s = runCommand (do a; pure .none) u := by
  rw [exec_sendPacket_data hne]
  cases hs : a u with
  | ok x t => rw [runCommand_unit_ok ho (h.trans hs), runCommand_unit_ok hu hs]
  | error e t => rw [runCommand_unit_error ho (h.trans hs), runCommand_unit_error hu hs]

end

end

end Sys2Proof.Machine
end

section
/-! PROOFS. `SEND_PACKET` (spec/49_host_commands.md R426 to R429, spec/60_exceptions.md R463, R471). -/

namespace Sys2Proof.Machine

/-! ## Packets that decode no VOP -/

section

variable {pkt : Packet} {hp : HeaderParse} {s : State}

/-- A packet with a VOL and no VOP is the load of that VOL (R426). -/
theorem sendData_volOnly {v : VolHeader} (hvol : hasVol pkt.data = true) (hv : hp.vol = some v)
    (hvops : vopOffsets pkt.data.length 0 pkt.data = []) : sendData pkt hp s = loadVol v (s.loadWindow pkt.data) := by
  have hsend : sendVol (hasVol pkt.data) hp.vol = loadVol v := by rw [hvol, hv]; rfl
  cases hl : loadVol v (s.loadWindow pkt.data) with
  | ok x u =>
    rw [sendData_vops ((congrFun hsend _).trans hl) (.inl hvol), hvops]
    rfl
  | error e u => rw [sendData_vol_error ((congrFun hsend _).trans hl)]

variable (ho : s.opened = true)
include ho

/-- The empty packet drains the reorder buffer (R428). -/
theorem exec_sendPacket_drains (he : pkt.data = []) :
    exec (.sendPacket pkt hp) s = .next ((State.drain { s with flushing := true }).finish .none) := by
  rw [exec_sendPacket_empty he]
  exact runCommand_unit_ok ho (update_apply _ s)

/-- A VOL that is refused changes nothing (R424). -/
theorem loadVol_of_refuses {v : VolHeader} {k : Kind} (h : Refuses (.loadVol v) s k) : loadVol v s = .error k s :=
  error_of_raises (exec_loadVol v s) (loadVol_outputs v) ho ⟨h, rfl, rfl⟩

end

theorem State.drain_lengths (s : State) : s.drain.rob = [] ∧ s.drain.outq.length = s.outq.length + s.rob.length := by
  obtain ⟨order, hevict, hperm, -⟩ := evict_all s.rob.length rfl s.outq
  rw [State.drain, hevict]
  exact ⟨rfl, by simp [hperm.length_eq]⟩

/-- Settles O45. -/
theorem sendPacketThatDecodesNoVop : Obligations.SendPacketThatDecodesNoVop := by
  intro pkt hp s ho w
  refine ⟨fun he => ?_, fun hne hno => ?_, fun a c v hcode hlo hhi hnoVop hv => ?_, fun a c hcode hlo hhi => ?_⟩
  · have hexec := exec_sendPacket_drains (hp := hp) ho he
    obtain ⟨hrob, houtq⟩ := State.drain_lengths { s with flushing := true }
    exact ⟨hexec.trans (exec_drain (s := { s with flushing := true }) ho).symm, _, hexec, rfl, rfl, hrob, houtq⟩
  · have hvol : hasVol pkt.data = false := Bool.eq_false_iff.2 fun h => by
      obtain ⟨a, c, hcode, hrange⟩ := (hasVol_iff _).1 h
      exact (hno a c hcode).1 hrange
    exact exec_sendPacket_error ho hne (sendData_noCode hvol (vopOffsets_eq_nil fun b hb => (hno b _ hb).2 rfl))
  · have hne : pkt.data ≠ [] := List.length_pos_iff.1 (Nat.zero_lt_of_lt hcode.lt_length)
    have hvol := (hasVol_iff pkt.data).2 ⟨a, c, hcode, hlo, hhi⟩
    exact exec_sendPacket_as (u := w) ho hne ho (sendData_volOnly hvol hv (vopOffsets_eq_nil hnoVop))
  · have hne : pkt.data ≠ [] := List.length_pos_iff.1 (Nat.zero_lt_of_lt hcode.lt_length)
    have hvol := (hasVol_iff pkt.data).2 ⟨a, c, hcode, hlo, hhi⟩
    refine ⟨fun hv => exec_sendPacket_error ho hne (sendData_vol_error ?_),
      fun v k hv hrefuses => exec_sendPacket_error ho hne (sendData_vol_error ?_)⟩
    · rw [hvol, hv]
      rfl
    · rw [hvol, hv]
      exact loadVol_of_refuses (s := w) ho hrefuses

/-! ## Packets with VOPs -/

section

variable {pkt : Packet} {hp : HeaderParse} {h : VopHeader} {a : Nat} {s : State}

/-- A packet with one VOP and no VOL is that VOP on the loaded window. -/
theorem sendData_oneVop (hvol : hasVol pkt.data = false) (hvops : vopOffsets pkt.data.length 0 pkt.data = [a])
    (hparse : hp.vops = [some ⟨h, none⟩]) : sendData pkt hp s = sendVop pkt ⟨h, none⟩ (s.loadWindow pkt.data) := by
  have hskip : sendVol (hasVol pkt.data) hp.vol (s.loadWindow pkt.data) = .ok () (s.loadWindow pkt.data) := by rw [hvol]; rfl
  rw [sendData_vops hskip (.inr (by simp [hvops])), hvops, hparse, sendVops_cons]
  cases hs : sendVop pkt ⟨h, none⟩ (s.loadWindow pkt.data) with
  | ok x t => exact bind_apply_ok _ _ _ _ _ hs
  | error e t => exact bind_apply_error _ _ _ _ _ hs

/-- A VOP without trajectory that is not skipped is loaded and decoded at once. -/
theorem sendVop_noTrajectory (hwaits : ¬s.Waits ⟨h, none⟩) : sendVop pkt ⟨h, none⟩ s = loadAndDecode (stamp pkt h) s :=
  sendVop_parsed pkt hwaits (by rw [parseTrajectory_none rfl, pure_apply])

end

theorem not_waits {s : State} {v : VopParse} (h : s.waitKeyframe = false ∨ v.header.pictureType = .i) : ¬s.Waits v := by
  rintro ⟨hwait, hi⟩
  rcases h with h | h
  · cases h.symm.trans hwait
  · exact hi h

/-- Settles O46. -/
theorem sendPacketDecodesItsVops : Obligations.SendPacketDecodesItsVops := by
  refine ⟨fun data => ⟨vopOffsets_rising le_rfl, mem_vopOffsets_packet data, hasVol_iff data⟩, ?_, ?_⟩
  · intro pkt hp vs s x y ho hne w offs hvol hparses hsent
    obtain ⟨hloaded, hox⟩ := sendVol_loaded (s := w) ho hvol
    refine ⟨fun hlen hcode => ?_, fun hlen k t hfails => ?_⟩
    · obtain ⟨hrun, -⟩ := sendVops_sent vs hox hlen.le hparses hsent
      rw [hlen, List.drop_length] at hrun
      exact exec_sendPacket_ok ho hne ((sendData_vops hloaded hcode.symm).trans hrun)
    · obtain ⟨hrun, hoy⟩ := sendVops_sent vs hox hlen.le hparses hsent
      have hoffs : offs ≠ [] := fun h => by simp [h] at hlen
      have hrest : offs.drop vs.length ≠ [] := fun h => by
        rw [List.drop_eq_nil_iff] at h
        omega
      have hfails : y.VopFails pkt ((hp.vops.drop vs.length).getD 0 none) k t := by simpa [List.getD_eq_getElem?_getD] using hfails
      exact exec_sendPacket_error ho hne ((sendData_vops hloaded (.inr hoffs)).trans (hrun.trans (sendVops_fails_at hoy hrest hfails)))
  · intro pkt hp h a s ho hne hvol hvops hparse w d
    have hdata : sendData pkt hp s = sendVop pkt ⟨h, none⟩ w := sendData_oneVop hvol hvops hparse
    have hdecode : s.waitKeyframe = false ∨ h.pictureType = .i → sendData pkt hp s = loadAndDecode (stamp pkt h) w :=
      fun hready => hdata.trans (sendVop_noTrajectory (not_waits (v := ⟨h, none⟩) hready))
    have hchecked : s.waitKeyframe = false ∨ h.pictureType = .i → d.vopFault = none → exec (.sendPacket pkt hp) s = exec .decodeVop d :=
      fun hready hfault => exec_sendPacket_as (u := d) ho hne ho ((hdecode hready).trans (loadAndDecode_checked (s := w) hfault))
    refine ⟨fun hwait hi => ?_, hchecked, fun k hready hfault => ?_, fun hwait hi hready => ?_⟩
    · exact exec_sendPacket_ok ho hne (hdata.trans (sendVop_waits pkt ⟨hwait, hi⟩))
    · exact exec_sendPacket_error ho hne ((hdecode hready).trans (loadAndDecode_fault (s := w) hfault))
    · obtain ⟨_, _, t, -, -, -, hexec, hok, hnone, hvalid, hinfo, -, hseq, -⟩ := predictedVopAlwaysCompletes d ho hready hi
      exact ⟨t, (hchecked (.inl hwait) hready.checks.1).trans hexec, hok, hnone, hvalid, hinfo, hseq⟩

end Sys2Proof.Machine
end
